-- ==== Sys2Proof/Word.lean ====
section
/-! DEFINITION. The bit-vector types of the store bus (spec/09, 9.1: 22-bit word addresses, 32-bit data words,
four byte strobes) and their plainest arithmetic. -/

namespace Sys2Proof

/-- One 32-bit data word of the store bus. -/
abbrev Word := BitVec 32

/-- One byte of a store word, of a slip or of an upload frame. -/
abbrev Byte := BitVec 8

/-- A 22-bit store word address. -/
abbrev Addr := BitVec 22

/-- The four byte strobes of an access, one for each byte lane. -/
abbrev Strobes := BitVec 4

/-- All four byte strobes asserted: a full-word access. -/
abbrev fullWord : Strobes := 15#4

/-- A natural number as a 32-bit word. -/
abbrev word (n : Nat) : Word := BitVec.ofNat 32 n

/-- A natural number as a byte. -/
abbrev byte (n : Nat) : Byte := BitVec.ofNat 8 n

end Sys2Proof
end

