-- ==== Sys2Proof/Syntax.lean ====
section
/-! DEFINITION. The commands of the DX-40, one constructor for each row of spec/opcode_table.json, in the table's
order. A command that is an upstream bus access carries its address, its data and its strobes; where the row fixes
the data (a request value, a command code) the constructor carries none. A command that is an event of the part or
of its lines carries what the event brings with it: the width of an element, the level of a line, the fields or the
bytes of a frame. -/

namespace Sys2Proof

/-- One step of the part (spec/95: each row of the table is one whole and indivisible step). -/
inductive Instr where
  /-- R5: an upstream write of REQ_LOAN. -/
  | reqLoan (addr : Addr) (strobes : Strobes)
  /-- R5: an upstream write of REQ_RETURN. -/
  | reqReturn (addr : Addr) (strobes : Strobes)
  /-- R5: an upstream write of REQ_RENEW. -/
  | reqRenew (addr : Addr) (strobes : Strobes)
  /-- R6: an upstream write of EMPTY to a loan slot w0. -/
  | loanSlotClear (addr : Addr) (strobes : Strobes)
  /-- R7: the status read made for a held write returns. -/
  | slotStatusReadDone
  /-- R36: an upstream write to a borrower w5. -/
  | payment (addr : Addr) (amount : Word) (strobes : Strobes)
  /-- R115: an upstream write to STATUS w0 that names another borrower. -/
  | currentPatronOpen (addr : Addr) (data : Word) (strobes : Strobes)
  /-- R116: an upstream write to STATUS w0 that names the open visit's patron. -/
  | currentPatronRefresh (addr : Addr) (data : Word) (strobes : Strobes)
  /-- R117: an upstream write of 65,535 to STATUS w0. -/
  | currentPatronClose (addr : Addr) (strobes : Strobes)
  /-- R117: an upstream write to STATUS w0 that names no borrower. -/
  | currentPatronRefused (addr : Addr) (data : Word) (strobes : Strobes)
  /-- R110: an upstream write to STATUS w1. -/
  | scanConsumerWrite (addr : Addr) (data : Word) (strobes : Strobes)
  /-- R142: the command code 1 written to STATUS w2. -/
  | uploadNow (addr : Addr) (strobes : Strobes)
  /-- R129: the command code 2 written to STATUS w2. -/
  | reprint (addr : Addr) (strobes : Strobes)
  /-- R189: the command code 3 written to STATUS w2. -/
  | silence (addr : Addr) (strobes : Strobes)
  /-- R186: the command code 4 written to STATUS w2. -/
  | clearStamps (addr : Addr) (strobes : Strobes)
  /-- R48: the command code 5 written to STATUS w2. -/
  | setClock (addr : Addr) (strobes : Strobes)
  /-- R165: a code above 5 written to STATUS w2. -/
  | commandCodeInvalid (addr : Addr) (code : Word) (strobes : Strobes)
  /-- R47: an upstream write to STATUS w3 or w4. -/
  | clockSetWordWrite (addr : Addr) (data : Word) (strobes : Strobes)
  /-- R184: an upstream read; of STATUS w8 or w9 it is answered by the Event Unit (R155 treats every other read). -/
  | eventWordRead (addr : Addr)
  /-- R172: an upstream write to profile words 0..126. -/
  | profileWordWrite (addr : Addr) (data : Word) (strobes : Strobes)
  /-- R173: an upstream write to profile word 127. -/
  | adoptionRequest (data : Word) (strobes : Strobes)
  /-- R58: an upstream write to the CALENDAR window. -/
  | calendarWrite (addr : Addr) (data : Word) (strobes : Strobes)
  /-- R160: an upstream write to loan slot w1..w4. -/
  | loanDescriptiveWrite (addr : Addr) (data : Word) (strobes : Strobes)
  /-- R159: an upstream write to any other word. -/
  | guardedWrite (addr : Addr) (data : Word) (strobes : Strobes)
  /-- R166: the hold of the held access has ended and its judgement goes on. -/
  | heldAccessResume
  /-- R11: the idle engine takes the CRQ head. -/
  | engineTakeEntry
  /-- R12: a fetch read of the operation in flight returns. -/
  | fetchReadDone
  /-- R14: the engine's commit group is admitted. -/
  | commitAdmit
  /-- R82: the engine starts a sweep step. -/
  | sweepStepStart
  /-- R43: the prescaler returns to 0. -/
  | clockAdvance
  /-- R57: a list-load read returns. -/
  | listLoadReadDone
  /-- R167: a waiting group is admitted; `pick` names which of the groups that began to wait at one moment. -/
  | pwqGroupAdmit (pick : Nat)
  /-- R168: the oldest Posted Write Queue entry is written to the store. -/
  | pwqDrain
  /-- R91: the level of WAND_IN changes, `ticks` wand ticks of 4 µs after the last event of the wand: its last edge, or a quiet
  time, bar limit or guard expiry reached since. -/
  | wandEdge (ticks : Nat)
  /-- R94: a space reaches the quiet time. -/
  | quietTimeReached
  /-- R95: a bar reaches 65,535 ticks. -/
  | barTooLong
  /-- R97: the decoder decodes its pass. -/
  | passDecode
  /-- R108: the act of an accepted scan. -/
  | scanRecordWrite
  /-- R107: the wand millisecond count has run 2,000 ms past the end stamp held. -/
  | repeatGuardExpire
  /-- R119: the idle timer reaches 0. -/
  | idleTimerExpire
  /-- R122, R123: a composition read of a slip returns, and after the last one its text is formed. -/
  | slipComposed
  /-- R126: a slip byte's stop bit has been sent; `busy` is the level of PRN_BUSY then. Where no such stop bit can come, only the
  level comes about. -/
  | printerByteSent (busy : Bool)
  /-- R126: PRN_BUSY is released. -/
  | prnBusyRelease
  /-- R127: PRN_PAPER_OUT changes to `level`; true is the assertion. -/
  | prnPaperOut (level : Bool)
  /-- R127: PRN_PAPER_OUT has been inactive for 2 s. -/
  | paperRestored
  /-- R128: the stop bit of a slip's form feed has been sent. -/
  | slipPrinted
  /-- R136: the head of the system append queue is appended. -/
  | systemEntryAppend
  /-- R143: UPL_READY changes to `level`; true is the assertion. -/
  | uplReady (level : Bool)
  /-- R143: 60 s have passed in WAIT_LINE. -/
  | lineWaitTimeout
  /-- R144: the stop bit of a frame's last byte has been sent. -/
  | frameSent
  /-- R149: the acknowledgement timer expires. -/
  | ackTimeout
  /-- R146: a journal read of a formed batch returns, and after the last one the BATCH frame is sent. -/
  | batchReadDone
  /-- R145: the bytes of a WELCOME frame are received. -/
  | welcome (day minute : BitVec 16) (second timeValid : Byte)
  /-- R147: the bytes of an ACK frame are received. -/
  | ack (batch : BitVec 16)
  /-- R148: the bytes of a NAK frame with cause RESEND are received. -/
  | nakResend (batch : BitVec 16)
  /-- R150: the bytes of a NAK frame with cause ABORT are received. -/
  | nakAbort (batch : BitVec 16)
  /-- R151: the bytes of a BYE frame are received. -/
  | bye
  /-- R141: bytes are received that make up no frame the receiver delivers. -/
  | frameDiscarded (bytes : List Byte)
  /-- R141: 20 ms have passed with no byte received. -/
  | receiverTimeout
  /-- R178: PFAIL is asserted. -/
  | pfail
  /-- R178: RESET is asserted. -/
  | reset
  /-- R170: the stop has settled. -/
  | stopParked
  /-- R178: PFAIL is deasserted. -/
  | pfailRelease
  /-- R178: RESET is deasserted. -/
  | resetRelease
  /-- R179: a start begins from PARKED. -/
  | start
  /-- R178: main power reaches its working level. -/
  | powerOn
  /-- R25: main power is lost without warning. -/
  | mainPowerLoss
  /-- R45: VBACKUP falls below its holding level. -/
  | vbackupLoss
  /-- R179: a read of the profile region by the start returns, and after the last one a profile is put in force. -/
  | startProfileReadDone
  /-- R180: a read of a status mirror by the start returns, and after the last one the counts are restored. -/
  | startStatusReadDone
  /-- R187: a segment of the playing pattern ends. -/
  | sounderSegmentEnd
  /-- R169: the port is granted to the judged upstream access. -/
  | forwardedUpstreamAccess
  deriving DecidableEq, Repr

end Sys2Proof
end

