-- ==== Sys2Proof/Config.lean ====
section
/-! DEFINITION. The constants the spec fixes in the part. The spec leaves no result of a command open, so there
is no opaque free value here; where two orders are both allowed, the commands of the queue settle the order
(notes/assumptions/3.md). -/

namespace Sys2Proof.Config

/-- The last day of the calendar, 2099-12-31 (R44). -/
abbrev lastDay : Nat := 36524

/-- The last minute of a day. -/
abbrev lastMinute : Nat := 1439

/-- Entries of the Posted Write Queue (R167). -/
abbrev pwqDepth : Nat := 24

/-- Free Posted Write Queue entries the engine's COMMIT waits for (R14). -/
abbrev commitRoom : Nat := 16

/-- Entries held at which the Posted Write Queue comes first at the port (R169). -/
abbrev pwqUrgent : Nat := 16

/-- Entries of the Circulation Request Queue (R9). -/
abbrev crqDepth : Nat := 16

/-- Slips of the Slip Queue (R122). -/
abbrev slipDepth : Nat := 4

/-- Entries of a slip list (R121). -/
abbrev slipListMax : Nat := 16

/-- Places of the system append queue (R136). -/
abbrev systemDepth : Nat := 4

/-- Element widths an element buffer keeps (Table 6-1). -/
abbrev bufferMax : Nat := 192

/-- Records of the scan ring (R109). -/
abbrev ringSize : Nat := 32

/-- The largest fines a borrower can owe (R35). -/
abbrev maxFines : Nat := 999999

/-- Where marks made and the resolution count saturate (R84, R89). -/
abbrev maxMarks : Nat := 16384

/-- The "none" borrower index and loan slot (R26, R136). -/
abbrev noIndex : Nat := 65535

/-- Wand ticks of 4 µs in one millisecond (R91). -/
abbrev ticksPerMs : Nat := 250

/-- The width at which a bar is too long, and at which the capture counter holds (R95). -/
abbrev barLimit : Nat := 65535

/-- Milliseconds after which the repeat-guard memory empties (R107). -/
abbrev guardLife : Nat := 2000

/-- The part revision HELLO carries (R144). -/
abbrev partRevision : Nat := 1

/-- The start byte of a frame (R140). -/
abbrev startByte : Byte := 0xA5#8

/-- The longest payload of a frame (R140). -/
abbrev maxPayload : Nat := 1024

end Sys2Proof.Config
end

