-- ==== Sys2Proof/Machine/Types.lean ====
section
/-! DEFINITION. The data the DX-40's blocks hold (spec Table 0-1 and each chapter's state table), as plain data. -/

namespace Sys2Proof.Machine

/-! ### The profile (Tables 10-1, 12-1) -/

/-- The two modes of the part. -/
inductive Mode where
  | service
  | maintenance
  deriving DecidableEq, Repr

/-- A window descriptor (R156): `size` is the size code. -/
structure Window where
  enable : Bool
  size : Nat
  base : Addr
  deriving DecidableEq, Repr

/-- The six window kinds, numbered 0 to 5 in this order. -/
inductive WindowKind where
  | borrower
  | loan
  | scan
  | journal
  | status
  | calendar
  deriving DecidableEq, Repr

/-- The fields of a borrower class (Table 2-2). -/
structure BorrowerClass where
  loanLimit : Nat
  overdueLimit : Nat
  cardGrace : Nat
  hysteresis : Bool
  reportBoth : Bool
  dueNotPastExpiry : Bool
  hourLoans : Bool
  fineHigh : Nat
  fineLow : Nat
  deriving DecidableEq, Repr

/-- The fields of an item class (Tables 4-1, 5-1). -/
structure ItemClass where
  hours : Bool
  period : Nat
  grace : Nat
  renewalLimit : Nat
  loanable : Bool
  rate : Nat
  cap : Nat
  deriving DecidableEq, Repr

/-- The opening and closing minute of one weekday (R55). -/
structure DayHours where
  opening : Nat
  closing : Nat
  deriving DecidableEq, Repr

/-- The upload alarm fields (Table 3-5). -/
structure AlarmFields where
  minute : Nat
  minuteEnable : Bool
  hour : Nat
  hourEnable : Bool
  weekdays : BitVec 7
  deriving DecidableEq, Repr

/-- The profile values an upload takes at its start and keeps to its end (R142). -/
structure UploadParams where
  lineRate : Nat
  ackTimeout : Nat
  shortLimit : Nat
  longLimit : Nat
  batchStart : Nat
  batchMax : Nat
  acceptCentral : Bool
  tolerance : Nat
  deriving DecidableEq, Repr

/-- A profile (Table 10-1), each field's value read out of its word. -/
structure Profile where
  format : Nat
  mode : Mode
  deskId : Word
  borrowerWin : Window
  loanWin : Window
  scanWin : Window
  journalWin : Window
  statusWin : Window
  calendarWin : Window
  borrowerClasses : List BorrowerClass
  itemClasses : List ItemClass
  weeklyHours : List DayHours
  minHourLoan : Nat
  idleTimeout : Nat
  glitchLimit : Nat
  quietTime : Nat
  repeatGuard : Nat
  toneA : Nat
  toneB : Nat
  sounderEnable : Bool
  alarm : AlarmFields
  upload : UploadParams
  reserve : Nat
  journalRefusals : Bool
  stampLast : Bool
  slipEnable : Bool
  printerRate : Nat
  maskA : BitVec 15
  maskB : BitVec 12
  header : List Byte
  generation : Word
  deriving DecidableEq, Repr

/-! ### Instants -/

/-- An instant without its second: a day number and a minute of day (R62). -/
structure Instant where
  day : Nat
  minute : Nat
  deriving DecidableEq, Repr

/-- One reading of the desk clock (R13): the instant, its second and the clock-valid flag. -/
structure Reading where
  day : Nat
  minute : Nat
  second : Nat
  valid : Bool
  deriving DecidableEq, Repr

/-! ### Loan slots and borrowers -/

/-- The states of a loan slot (Table 1-2). -/
inductive LoanState where
  | empty
  | inProgress
  | lent
  | overdue
  | returned
  | refused
  deriving DecidableEq, Repr

/-- The fields of a loan status word (Table 12-4). -/
structure StatusWord where
  state : LoanState
  kind : Nat
  reason : Nat
  renewals : Nat
  hourLoan : Bool
  shortened : Bool
  noOpenDay : Bool
  lastRefused : Bool
  noClock : Bool
  deriving DecidableEq, Repr

/-- The verdict bits (Table 2-3). -/
structure Verdict where
  expired : Bool
  manual : Bool
  fines : Bool
  overdue : Bool
  limit : Bool
  deriving DecidableEq, Repr

/-- The borrower fields an operation reads (R27). -/
structure BorrowerRec where
  cls : Nat
  manualBlock : Bool
  expiry : Nat
  loansOut : Nat
  overdueCount : Nat
  latch : Bool
  fines : Nat
  deriving DecidableEq, Repr

/-! ### Events, stamps and tones (Chapter 11) -/

/-- The named events, in the order of Table 11-1. -/
inductive Event where
  | requestDone
  | refusal
  | badRequest
  | patronBlocked
  | fineBlockSet
  | fineBlockCleared
  | countClamped
  | countSuspect
  | visitClosed
  | scanReady
  | scanBad
  | scanOverrun
  | slipDropped
  | paperOut
  | sweepDone
  | startUp
  | clockInvalid
  | clockSet
  | profileAdopted
  | profileRejected
  | profileClamped
  | journalLow
  | journalLost
  | uploadDone
  | uploadFailed
  | timeRefused
  | alarmMissed
  deriving DecidableEq, Repr

/-- A stamp record (Table 11-2). -/
structure Stamp where
  count : BitVec 8
  day : Nat
  minute : Nat
  valid : Bool
  detail : Nat
  deriving DecidableEq, Repr

/-- The tone patterns (Table 11-3). -/
inductive Pattern where
  | accept
  | lent
  | rejectScan
  | alarm
  deriving DecidableEq, Repr

/-- What a segment of a pattern sounds. -/
inductive Tone where
  | toneA
  | toneB
  | silent
  deriving DecidableEq, Repr

/-- The pattern being played, the segment it has reached and the divider that segment took (R187). -/
structure Playing where
  pattern : Pattern
  segment : Nat
  divider : Nat
  deriving DecidableEq, Repr

/-- The Event Unit's state. ATTN is a function of it and of the active profile (R183). -/
structure EventUnit where
  latchA : BitVec 15
  latchB : BitVec 12
  stamps : List Stamp
  sounder : Option Playing
  deriving DecidableEq, Repr

/-! ### The Store Path (Chapter 9) -/

/-- The Store Path states (Table 9-1). -/
inductive PathState where
  | starting
  | running
  | stopping
  | parked
  deriving DecidableEq, Repr

/-- How far a start has come (R178 to R181): which of its reads it waits for. -/
inductive StartStage where
  | none
  | awaitLines
  | profileReads
  | statusReads
  | listLoad
  deriving DecidableEq, Repr

/-- The three starts (R178). -/
inductive StartKind where
  | powerOn
  | resetLine
  | pfailRelease
  deriving DecidableEq, Repr

/-- An upstream access. A read ignores `data` and `strobes`. -/
structure Access where
  write : Bool
  addr : Addr
  data : Word
  strobes : Strobes
  deriving DecidableEq, Repr

/-- Why an upstream access is held (Table 9-4). -/
inductive Hold where
  | startStop
  | busy
  | ordering
  | statusRead
  | requestRoom
  deriving DecidableEq, Repr

/-- The one upstream access outstanding: none, held, or judged and waiting for the downstream port with the data and
the lanes the store is to receive. -/
inductive Upstream where
  | idle
  | held (a : Access) (why : Hold)
  | forwarded (a : Access)
  deriving DecidableEq, Repr

/-- How the last upstream access completed on U_RDY: the data a read returned, or a write. -/
inductive Completion where
  | none
  | write
  | read (data : Word)
  deriving DecidableEq, Repr

/-- One Posted Write Queue entry: a full-word write. -/
structure QEntry where
  addr : Addr
  data : Word
  deriving DecidableEq, Repr

/-- Whose group waits for the Posted Write Queue. The first three are built at their own acts (COMMIT_ADMIT,
SCAN_RECORD_WRITE, SYSTEM_ENTRY_APPEND); the others are groups of STATUS words. -/
inductive GroupOwner where
  | engineCommit
  | scanRecord
  | systemEntry
  | clockMirror
  | visitWord
  | uploadWord
  | profileWord
  | wandCounts
  | stamp (record : Nat)
  | clearStamps
  | tailMirror
  | lossCount
  | sweepEnd
  | visitClose
  | patronWord
  | badBorrower
  | startUp
  | adoption
  deriving DecidableEq, Repr

/-- A waiting group (R167): its words as STATUS word numbers and data, since its addresses are fixed only at its
admission. `tied` says that it began to wait in the same act as the group before it. -/
structure Group where
  owner : GroupOwner
  words : List (Nat × Word)
  tied : Bool
  deriving DecidableEq, Repr

/-- The Store Path's state. `fresh` counts the groups that began to wait in the act being made; it is 0 between
acts. `resetSeen` records that RESET was asserted during the stop or the wait (R178). `startReads` holds the words that the
start's present stage has read, in the order of its reads (R179, R180). -/
structure StorePath where
  state : PathState
  stage : StartStage
  startKind : StartKind
  resetSeen : Bool
  repairedConsumer : Bool
  repairedTail : Bool
  upstream : Upstream
  completion : Completion
  pwq : List QEntry
  waiting : List Group
  fresh : Nat
  startReads : List Word
  deriving DecidableEq, Repr

/-! ### The Circulation Engine (Chapters 1, 2, 5) -/

/-- An entry of the Circulation Request Queue (Table 1-4). -/
inductive CrqEntry where
  | loan (slot : Nat)
  | ret (slot : Nat) (prior : LoanState)
  | renew (slot : Nat) (prior : LoanState)
  | payment (borrower amount : Nat)
  | patronOpen (borrower : Nat)
  deriving DecidableEq, Repr

/-- One claim on the busy set (Table 1-5). -/
inductive Claim where
  | loan (slot : Nat)
  | borrower (index : Nat)
  deriving DecidableEq, Repr

/-- The engine's states (Table 1-6). -/
inductive EngineState where
  | idle
  | fetch
  | decide
  | commit
  deriving DecidableEq, Repr

/-- The kind of the operation in flight. -/
inductive OpKind where
  | entry (e : CrqEntry)
  | sweepStep (slot : Nat) (target : Option Instant)
  deriving DecidableEq, Repr

/-- A word an operation fetches. -/
inductive FetchWord where
  | slot (n : Nat)
  | borrower (n : Nat)
  deriving DecidableEq, Repr

/-- The kinds of journal entry (Table 8-2). -/
inductive EntryKind where
  | loan
  | renew
  | refusal
  | ret
  | payment
  | overdueMark
  | clockSet
  | profileAdopt
  | startUp
  deriving DecidableEq, Repr

/-- A journal entry as its source fills it, all but the sequence number (R133). -/
structure JEntry where
  kind : EntryKind
  itemClass : Nat
  reading : Reading
  flags : Nat
  borrower : Nat
  slot : Nat
  bar0 : Word
  bar1 : Word
  bar2 : Word
  amount : Word
  deriving DecidableEq, Repr

/-- A slip list entry (Table 7-2). -/
structure SlipEntry where
  slot : Nat
  due : Instant
  hourLoan : Bool
  shortened : Bool
  renewal : Bool
  tail : List Nat
  deriving DecidableEq, Repr

/-- What DECIDE fixes of an operation that commits to a loan slot, a borrower or both (R13): the words of its group,
in order, its journal entry, and what its finish reports. -/
structure Plan where
  /-- The state the commit records in the slot state map. -/
  mapState : Option LoanState
  /-- The borrower words of the group. -/
  borrowerWords : List (Nat × Word)
  /-- The slot words other than w13 and w0. -/
  slotWords : List (Nat × Word)
  /-- Whether the group writes w13 when it keeps its entry. -/
  link : Bool
  /-- The status word, the last slot word of the group. -/
  status : Option Word
  /-- The entry the group carries. -/
  entry : Option JEntry
  /-- The interrupted-slot kind of a resolution, which writes STATUS w21. -/
  resolved : Option Nat
  /-- The events of the finish that have no stamp. -/
  events : List Event
  /-- The refusal reason, stamped with REFUSAL. -/
  reason : Option Nat
  /-- The tone requested with the finish. -/
  tone : Option Pattern
  /-- The grant passed to the Visit Unit. -/
  slip : Option SlipEntry
  deriving DecidableEq, Repr

/-- A decided operation: a plan for a slot or a borrower (`grant` when it is a granted LOAN or RENEW that R14
re-judges), or the evaluation of a PATRON_OPEN (R40). -/
inductive Decided where
  | plan (p : Plan)
  | grant (p : Plan)
  | patron (w3 : Word) (verdict : Verdict) (fines : Nat) (events : List Event)
  deriving DecidableEq, Repr

/-- The operation in flight. -/
structure Op where
  kind : OpKind
  todo : List FetchWord
  slotWords : List (Nat × Word)
  borrowerWords : List (Nat × Word)
  /-- The borrower the operation's w1 or entry names. -/
  borrower : Option Nat
  /-- The reading taken on entering DECIDE. -/
  reading : Option Reading
  decided : Option Decided
  deriving DecidableEq, Repr

/-- The sweep states (Table 5-4). -/
inductive SweepState where
  | idle
  | running
  | paused
  deriving DecidableEq, Repr

/-- The sweep record (Table 5-4). `restarted` says that a restart came while the step in flight runs (R81). -/
structure Sweep where
  state : SweepState
  cursor : Nat
  target : Option Instant
  marks : Nat
  recovery : Bool
  lastSwept : Nat
  restarted : Bool
  deriving DecidableEq, Repr

/-- The Circulation Engine's state. `stateMap` is the slot state map in rising order of slots; `sweepWord` and
`interruptedWord` are the values STATUS w17 and w21 last took. -/
structure Engine where
  crq : List CrqEntry
  busy : List Claim
  state : EngineState
  op : Option Op
  stateMap : List (Nat × LoanState)
  sweep : Sweep
  sweepWord : Word
  resolutions : Nat
  interruptedWord : Word
  deriving DecidableEq, Repr

/-! ### The Calendar Unit (Chapter 3) -/

/-- The Calendar Unit's state, the desk clock of the backup domain included (Table 3-1). `load` is the CALENDAR word
a list load in progress reads next. -/
structure Calendar where
  day : Nat
  minute : Nat
  second : Nat
  prescaler : Nat
  valid : Bool
  backupLoss : Bool
  copy3 : Word
  copy4 : Word
  mark3 : Bool
  mark4 : Bool
  table : List Word
  load : Option Nat
  deriving DecidableEq, Repr

/-! ### The Wand Front End (Chapter 6) -/

/-- The capture states (Table 6-2). -/
inductive CaptureState where
  | quietWait
  | armed
  | capture
  deriving DecidableEq, Repr

/-- A pass as an element buffer holds it: the kept widths in capture order, the element count and the stamps. -/
structure Pass where
  widths : List Nat
  count : Nat
  startStamp : BitVec 32
  endStamp : BitVec 32
  deriving DecidableEq, Repr

/-- What an accepted symbol says: its mark, its direction and its data digits, leftmost first. -/
structure ScanContent where
  patron : Bool
  backward : Bool
  digits : List Nat
  deriving DecidableEq, Repr

/-- The decoder: FREE, BUSY with the pass in the decode buffer, or BUSY with a pass that has cleared every test and
the repeat guard and waits for its act (R108). -/
inductive Decoder where
  | free
  | busy
  | offering (c : ScanContent)
  deriving DecidableEq, Repr

/-- The repeat-guard memory when it is not EMPTY (R107). -/
structure GuardMemory where
  patron : Bool
  digits : List Nat
  endStamp : BitVec 32
  deriving DecidableEq, Repr

/-- The Wand Front End's state (Table 6-1). `counter` is the capture counter, `base` the width merged into the element
under way before its last edge (R93), `spaceBefore` the width of the space a bar under way interrupts outside a pass;
`msPhase` counts the wand ticks into the present millisecond. The kept widths of the capture buffer stand newest first. -/
structure Wand where
  capture : CaptureState
  counter : Nat
  base : Nat
  spaceBefore : Nat
  ms : BitVec 32
  msPhase : Nat
  passQuiet : Nat
  passGlitch : Nat
  buffer : List Nat
  count : Nat
  startStamp : BitVec 32
  decodeBuffer : Pass
  decoder : Decoder
  guard : Option GuardMemory
  producer : BitVec 16
  consumerCopy : Word
  repeats : Nat
  overruns : Nat
  deriving DecidableEq, Repr

/-! ### The Visit Unit (Chapter 7) -/

/-- The standing of the open visit (Table 7-1). -/
inductive Standing where
  | pending
  | clear
  | blocked
  deriving DecidableEq, Repr

/-- The visit record of an open visit. -/
structure Visit where
  patron : Nat
  standing : Standing
  openedAt : Reading
  list : List SlipEntry
  continued : Bool
  deriving DecidableEq, Repr

/-- What a slip in COMPOSING holds (R122): the copies it took, the store addresses it reads, the words its reads have returned,
in the order of the reads, and, once its composition has begun, the desk clock's reading at that moment. -/
structure SlipJob where
  entries : List SlipEntry
  patron : Nat
  openedAt : Reading
  continued : Bool
  header : List Byte
  patronAddr : Addr
  slotAddrs : List Addr
  words : List Word
  begun : Option Reading
  deriving DecidableEq, Repr

/-- A slip of the Slip Queue. -/
inductive Slip where
  | composing (job : SlipJob)
  | ready (text : List Byte)
  deriving DecidableEq, Repr

/-- The printer states (Table 7-4); SENDING at a byte position. -/
inductive Printer where
  | idle
  | sending (position : Nat)
  | paperWait
  deriving DecidableEq, Repr

/-- The Visit Unit's state (Table 7-1). `byteInProgress` says that PRN_TXD is sending a byte, `lineRate` is the rate
the slip being sent took, and `verdictWord` and `finesWord` are the values STATUS w10 and w14 last took. -/
structure VisitUnit where
  visit : Option Visit
  idleTimer : Option Nat
  patronCopy : Word
  slips : List Slip
  lastSlip : Option (List Byte)
  printer : Printer
  lineRate : Nat
  byteInProgress : Bool
  verdictWord : Word
  finesWord : Word
  deriving DecidableEq, Repr

/-! ### The Journal Unit and the Upload Engine (Chapter 8) -/

/-- The journal's pointers and counts (Table 8-1). -/
structure Journal where
  head : Word
  tail : Word
  lossCount : Nat
  lowArmed : Bool
  systemQueue : List JEntry
  deriving DecidableEq, Repr

/-- The Upload Engine states (Table 8-6). -/
inductive UploadState where
  | idle
  | waitLine
  | helloSent
  | sending
  | doneSent
  deriving DecidableEq, Repr

/-- The last failure cause. -/
inductive FailCause where
  | none
  | noLine
  | abort
  | retries
  deriving DecidableEq, Repr

/-- The outstanding batch: its number, its count and its batch buffer, which its reads fill word by word (R146). -/
structure Batch where
  number : BitVec 16
  count : Nat
  words : List Word
  deriving DecidableEq, Repr

/-- Which frame of the conversation a frame being sent is. -/
inductive FrameTag where
  | hello
  | batch (number : BitVec 16)
  | done
  deriving DecidableEq, Repr

/-- A frame asked for on the upload line. -/
structure TxFrame where
  tag : FrameTag
  bytes : List Byte
  deriving DecidableEq, Repr

/-- The upload receiver's states (R141). -/
inductive RxState where
  | hunt
  | header
  | payload
  | check
  deriving DecidableEq, Repr

/-- The Upload Engine and its line. `rxBytes` are the bytes of the frame being received after its start byte;
`tx` are the frames asked for, the one being sent first; `reading` says that the batch's reads have not all returned;
`cutByte` says that a byte was under way when an orderly stop stopped the line (R154). -/
structure Upload where
  state : UploadState
  params : UploadParams
  batchSize : Nat
  batchCounter : BitVec 16
  outstanding : Option Batch
  reading : Bool
  shortRetries : Nat
  longRetries : Nat
  retries : BitVec 16
  rollover : Bool
  entriesSent : Word
  cause : FailCause
  ackTimer : Bool
  tx : List TxFrame
  cutByte : Bool
  rxState : RxState
  rxBytes : List Byte
  deriving DecidableEq, Repr

/-! ### The Profile Unit (Chapter 10) -/

/-- The last adoption outcome (Table 10-2). -/
inductive AdoptionOutcome where
  | none
  | adopted
  | rejectedCheck
  | rejectedJournal
  deriving DecidableEq, Repr

/-- The Profile Unit's state (Table 10-2). The adoption-pending flag is set exactly while `candidate` is present. -/
structure ProfileUnit where
  shadow : List Word
  active : Profile
  candidate : Option (List Word)
  outcome : AdoptionOutcome
  defaultInForce : Bool
  deriving DecidableEq, Repr

/-! ### The lines (Table 11-4) -/

/-- The input lines and the main supply. `wandBar` is the level of WAND_IN, true for a bar. -/
structure Pins where
  mainPower : Bool
  pfail : Bool
  reset : Bool
  uplReady : Bool
  prnBusy : Bool
  prnPaperOut : Bool
  wandBar : Bool
  deriving DecidableEq, Repr

end Sys2Proof.Machine
end

