-- ==== Sys2Proof/Machine/Operands.lean ====
section
/-! DEFINITION. Bit fields, byte lanes and the word layouts of Chapter 12: how a word of the store is read into fields
and how the part writes its fields into a whole word. -/

namespace Sys2Proof.Machine

/-! ### Fields and lanes -/

/-- The field of `width` bits of `w` whose lowest bit is bit `lo`. -/
def field (w : Word) (lo width : Nat) : Nat := (w.toNat / 2 ^ lo) % 2 ^ width

/-- Bit `i` of `w`. -/
def bitOf (w : Word) (i : Nat) : Bool := w.getLsbD i

/-- The value `n` placed in the field of `width` bits whose lowest bit is bit `lo`. -/
def put (lo width n : Nat) : Word := word ((n % 2 ^ width) * 2 ^ lo)

/-- A flag as a number. -/
def flag (b : Bool) : Nat := if b then 1 else 0

/-- The nearest value to `n` in `lo..hi`. -/
def clampTo (lo hi n : Nat) : Nat := max lo (min hi n)

/-- Byte lane `k` of a word, bits 8k+7..8k. -/
def lane (w : Word) (k : Nat) : Byte := BitVec.ofNat 8 (w.toNat / 2 ^ (8 * k))

/-- The four bytes of a word, most significant first. -/
def bytesOf (w : Word) : List Byte := [lane w 3, lane w 2, lane w 1, lane w 0]

/-- The word whose lanes 3, 2, 1, 0 are the four bytes. -/
def ofLanes (b3 b2 b1 b0 : Byte) : Word := b3 ++ b2 ++ b1 ++ b0

/-- The lane mask of a set of strobes: strobe k covers bits 8k+7..8k (notes/assumptions/5.md). -/
def laneMask (st : Strobes) : Word :=
  ofLanes (if st.getLsbD 3 then 0xFF#8 else 0#8) (if st.getLsbD 2 then 0xFF#8 else 0#8)
    (if st.getLsbD 1 then 0xFF#8 else 0#8) (if st.getLsbD 0 then 0xFF#8 else 0#8)

/-- `data` merged into `old` in the byte lanes whose strobes are asserted, the other lanes keeping their contents. -/
def mergeLanes (old data : Word) (st : Strobes) : Word :=
  (old &&& ~~~ laneMask st) ||| (data &&& laneMask st)

/-! ### Lists with a default -/

/-- Word `n` of a list of words, 0 beyond its end. -/
def nth (l : List Word) (n : Nat) : Word := l.getD n 0#32

/-- The value of a fetched word, 0 when it was not fetched. -/
def fetched (l : List (Nat × Word)) (n : Nat) : Word :=
  match l with
  | [] => 0#32
  | (k, w) :: rest => if k = n then w else fetched rest n

/-! ### Instant words (R190) -/

/-- An instant word with its flag bit 15. -/
def instantWord (i : Instant) (flag15 : Bool) : Word :=
  put 16 16 i.day ||| put 15 1 (flag flag15) ||| put 0 11 i.minute

/-- The due instant in a slot's w6, read as R80 states. -/
def readDue (w : Word) : Instant :=
  if Config.lastDay < field w 16 16 then ⟨Config.lastDay, Config.lastMinute⟩
  else ⟨field w 16 16, min (field w 0 11) Config.lastMinute⟩

/-- Instant `a` is earlier than instant `b` (R62). -/
def Instant.before (a b : Instant) : Bool := a.day < b.day || (a.day = b.day && a.minute < b.minute)

/-- The instant of a reading, its second dropped. -/
def Reading.instant (r : Reading) : Instant := ⟨r.day, r.minute⟩

/-! ### The loan status word (Table 12-4) -/

/-- The code of a loan slot state. -/
def LoanState.code : LoanState → Nat
  | .empty => 0
  | .inProgress => 4
  | .lent => 5
  | .overdue => 6
  | .returned => 7
  | .refused => 8

/-- The state a state field names. Request values and codes that name no state are read as REFUSED (R7). -/
def LoanState.ofCode (n : Nat) : LoanState :=
  if n = 0 then .empty else if n = 4 then .inProgress else if n = 5 then .lent else if n = 6 then .overdue
  else if n = 7 then .returned else .refused

/-- A loan is live in LENT and in OVERDUE (R1). -/
def LoanState.live (s : LoanState) : Bool := s = .lent || s = .overdue

/-- A status word as the part reads it (R7, R191): a renewals field above 9 is read as 9. -/
def readStatus (w : Word) : StatusWord where
  state := .ofCode (field w 0 4)
  kind := field w 4 2
  reason := field w 8 5
  renewals := min (field w 16 4) 9
  hourLoan := bitOf w 20
  shortened := bitOf w 21
  noOpenDay := bitOf w 22
  lastRefused := bitOf w 23
  noClock := bitOf w 24

/-- A status word as the part writes it: every bit outside the fields 0 (R190). -/
def StatusWord.encode (s : StatusWord) : Word :=
  put 0 4 s.state.code ||| put 4 2 s.kind ||| put 8 5 s.reason ||| put 16 4 s.renewals ||| put 20 1 (flag s.hourLoan) |||
    put 21 1 (flag s.shortened) ||| put 22 1 (flag s.noOpenDay) ||| put 23 1 (flag s.lastRefused) ||| put 24 1 (flag s.noClock)

/-! ### Borrower words (Table 12-2) -/

/-- The verdict bits as a number, EXPIRED lowest. -/
def Verdict.bits (v : Verdict) : Nat :=
  flag v.expired + 2 * flag v.manual + 4 * flag v.fines + 8 * flag v.overdue + 16 * flag v.limit

/-- A verdict with some bit set. -/
def Verdict.any (v : Verdict) : Bool := v.expired || v.manual || v.fines || v.overdue || v.limit

/-- The borrower fields of w0, w3 and w4 as the engine reads them (R27). -/
def readBorrower (w0 w3 w4 : Word) : BorrowerRec where
  cls := field w0 0 3
  manualBlock := bitOf w0 3
  expiry := min (field w0 16 16) Config.lastDay
  loansOut := field w3 0 8
  overdueCount := field w3 8 8
  latch := bitOf w3 16
  fines := min w4.toNat Config.maxFines

/-- The counts word w3. -/
def countsWord (loansOut overdueCount : Nat) (latch : Bool) (v : Verdict) : Word :=
  put 0 8 loansOut ||| put 8 8 overdueCount ||| put 16 1 (flag latch) ||| put 17 5 v.bits

/-! ### Barcodes (R190, R191) -/

/-- The digit count of a barcode's first word; a count above 20 is read as 20. -/
def barCount (w2 : Word) : Nat := min (field w2 0 5) 20

/-- Digit place `p` (1..20) of a barcode. -/
def barPlace (w2 w3 w4 : Word) (p : Nat) : Nat :=
  if p ≤ 4 then field w2 (16 + 4 * (4 - p)) 4
  else if p ≤ 12 then field w3 (4 * (12 - p)) 4
  else field w4 (4 * (20 - p)) 4

/-- The digit places of a barcode, 1 to its count. -/
def barDigits (w2 w3 w4 : Word) : List Nat := (List.range (barCount w2)).map fun k => barPlace w2 w3 w4 (k + 1)

/-- Digit places written nibble by nibble toward bit 0, `n` of them, 0 beyond the list's end. -/
def packDigits (ds : List Nat) : Nat → Nat
  | 0 => 0
  | n + 1 =>
    match ds with
    | [] => 0
    | d :: rest => (d % 16) * 16 ^ n + packDigits rest n

/-- The first word of a digit field: the count and places 1..4. -/
def barWord0 (ds : List Nat) : Word := put 0 5 ds.length ||| put 16 16 (packDigits ds 4)

/-- The second word of a digit field: places 5..12. -/
def barWord1 (ds : List Nat) : Word := word (packDigits (ds.drop 4) 8)

/-- The third word of a digit field: places 13..20. -/
def barWord2 (ds : List Nat) : Word := word (packDigits (ds.drop 12) 8)

/-- The last ten digits, or all of them when there are fewer (R121). -/
def lastTen (ds : List Nat) : List Nat := ds.drop (ds.length - 10)

/-! ### Journal entries (Tables 12-6, 12-7) -/

/-- The code of an entry kind. -/
def EntryKind.code : EntryKind → Nat
  | .loan => 1
  | .renew => 2
  | .refusal => 3
  | .ret => 4
  | .payment => 5
  | .overdueMark => 6
  | .clockSet => 7
  | .profileAdopt => 8
  | .startUp => 9

/-- The eight words of a journal entry, once it has its sequence number. -/
def JEntry.words (e : JEntry) (seq : Word) : List Word :=
  [ seq,
    put 24 8 e.kind.code ||| put 20 4 e.itemClass ||| put 14 6 e.reading.second ||| put 13 1 (flag e.reading.valid) |||
      put 0 13 e.flags,
    instantWord e.reading.instant false,
    put 16 16 e.borrower ||| put 0 16 e.slot,
    e.bar0, e.bar1, e.bar2, e.amount ]

/-! ### Scan records (Table 12-5) -/

/-- The four words of a scan record. -/
def scanWords (seq : BitVec 16) (r : Reading) (c : ScanContent) : List Word :=
  [ put 16 16 seq.toNat ||| put 5 11 r.minute ||| put 0 5 c.digits.length,
    put 31 1 (flag c.patron) ||| put 30 1 (flag c.backward) ||| put 24 6 r.second ||| put 0 16 (packDigits c.digits 4),
    word (packDigits (c.digits.drop 4) 8),
    word (packDigits (c.digits.drop 12) 8) ]

/-! ### Text (R190) -/

/-- The bytes of a list of words, each word's most significant byte first. -/
def textOf (ws : List Word) : List Byte := ws.flatMap bytesOf

/-- The two bytes of a 16-bit value, most significant first. -/
def bytes16 (n : Nat) : List Byte := [byte (n / 256), byte n]

end Sys2Proof.Machine
end

