-- ==== Sys2Proof/Machine/Memory.lean ====
section
/-! DEFINITION. The desk store: 2^22 words of four byte lanes, held as a list of (lane address, byte) pairs in one
canonical form. Lane k of word a has the lane address 4a + k. A lane that is not listed reads as 0: Table 1-2 gives
EMPTY, the word 0, as the initial contents of a loan slot's status word (notes/assumptions/4.md). -/

namespace Sys2Proof.Machine

/-- What a lane that nothing has written reads as. -/
def unlisted : Byte := 0#8

/-- The lane address of lane `k` of word `a`. -/
def laneAddr (a : Addr) (k : Nat) : Nat := 4 * a.toNat + k

/-- One lane read. -/
def readLane : List Host.Cell → Nat → Byte
  | [], _ => unlisted
  | (k, b) :: rest, n => if k = n then b else readLane rest n

/-- A cell as it is listed: not at all when it reads as an unlisted lane does. -/
def listed (n : Nat) (b : Byte) (rest : List Host.Cell) : List Host.Cell :=
  if b = unlisted then rest else (n, b) :: rest

/-- One lane written, the canonical form kept. -/
def writeLane : List Host.Cell → Nat → Byte → List Host.Cell
  | [], n, b => listed n b []
  | (k, c) :: rest, n, b =>
    if n < k then listed n b ((k, c) :: rest)
    else if n = k then listed n b rest
    else (k, c) :: writeLane rest n b

/-- A word read: all four lanes (9.1: reads are whole-word reads). -/
def readWord (m : List Host.Cell) (a : Addr) : Word :=
  ofLanes (readLane m (laneAddr a 3)) (readLane m (laneAddr a 2)) (readLane m (laneAddr a 1)) (readLane m (laneAddr a 0))

/-- A lane written when its strobe is asserted. -/
def writeIf (st : Strobes) (k : Nat) (m : List Host.Cell) (a : Addr) (w : Word) : List Host.Cell :=
  if st.getLsbD k then writeLane m (laneAddr a k) (lane w k) else m

/-- A word written in the lanes whose strobes are asserted. -/
def writeWord (m : List Host.Cell) (a : Addr) (w : Word) (st : Strobes) : List Host.Cell :=
  writeIf st 3 (writeIf st 2 (writeIf st 1 (writeIf st 0 m a w) a w) a w) a w

/-- Every lane address listed is above `n`, in rising order, and no byte listed is what an unlisted lane reads as. -/
def risesFrom : List Host.Cell → Nat → Bool
  | [], _ => true
  | (k, b) :: rest, n => decide (n ≤ k) && decide (b ≠ unlisted) && risesFrom rest (k + 1)

/-- The canonical form of a store: lane addresses strictly rising, all of them lanes of the 2^22 words, and no cell
that reads as an unlisted lane does. -/
def Memory.wf (m : List Host.Cell) : Bool := risesFrom m 0 && m.all fun c => decide (c.1 < 4 * 2 ^ 22)

end Sys2Proof.Machine
end

