-- ==== Sys2Proof/Machine/Profile.lean ====
section
/-! DEFINITION. The profile: reading it out of its 128 words (Table 12-1), the clamps of Table 10-1 (R171), the default
profile (R177) and the quantities the window descriptors give (R156). -/

namespace Sys2Proof.Machine

/-! ### Reading the words (Table 12-1) -/

/-- A window descriptor word. -/
def readWindow (w : Word) : Window := ⟨bitOf w 31, field w 24 5, w.setWidth 22⟩

/-- A borrower class's three words. -/
def readBorrowerClass (a b c : Word) : BorrowerClass where
  loanLimit := field a 0 7
  overdueLimit := field a 7 7
  cardGrace := field a 14 5
  hysteresis := bitOf a 19
  reportBoth := bitOf a 20
  dueNotPastExpiry := bitOf a 21
  hourLoans := bitOf a 22
  fineHigh := field b 0 20
  fineLow := field c 0 20

/-- An item class's two words. -/
def readItemClass (a b : Word) : ItemClass where
  hours := bitOf a 0
  period := field a 1 9
  grace := field a 10 6
  renewalLimit := field a 16 4
  loanable := bitOf a 20
  rate := field b 0 14
  cap := field b 14 17

/-- The profile the 128 words write, no value clamped. -/
def readProfile (ws : List Word) : Profile where
  format := field (nth ws 0) 0 8
  mode := if bitOf (nth ws 0) 8 then .maintenance else .service
  deskId := nth ws 1
  borrowerWin := readWindow (nth ws 2)
  loanWin := readWindow (nth ws 3)
  scanWin := readWindow (nth ws 4)
  journalWin := readWindow (nth ws 5)
  statusWin := readWindow (nth ws 6)
  calendarWin := readWindow (nth ws 7)
  borrowerClasses := (List.range 8).map fun c =>
    readBorrowerClass (nth ws (8 + 3 * c)) (nth ws (9 + 3 * c)) (nth ws (10 + 3 * c))
  itemClasses := (List.range 16).map fun c => readItemClass (nth ws (32 + 2 * c)) (nth ws (33 + 2 * c))
  weeklyHours := (List.range 7).map fun d => ⟨field (nth ws (64 + d)) 0 11, field (nth ws (64 + d)) 16 11⟩
  minHourLoan := field (nth ws 71) 0 8
  idleTimeout := field (nth ws 71) 16 10
  glitchLimit := field (nth ws 72) 0 5
  quietTime := field (nth ws 72) 8 8
  repeatGuard := field (nth ws 72) 16 12
  toneA := field (nth ws 73) 0 13
  toneB := field (nth ws 73) 16 13
  sounderEnable := bitOf (nth ws 73) 31
  alarm :=
    { minute := field (nth ws 74) 0 6, minuteEnable := bitOf (nth ws 74) 6, hour := field (nth ws 74) 8 5,
      hourEnable := bitOf (nth ws 74) 13, weekdays := BitVec.ofNat 7 (field (nth ws 74) 16 7) }
  upload :=
    { lineRate := field (nth ws 75) 12 3, ackTimeout := field (nth ws 76) 16 13, shortLimit := field (nth ws 75) 16 3,
      longLimit := field (nth ws 75) 20 4, batchStart := field (nth ws 76) 0 5, batchMax := field (nth ws 76) 8 5,
      acceptCentral := bitOf (nth ws 75) 31, tolerance := field (nth ws 75) 0 10 }
  reserve := field (nth ws 77) 0 7
  journalRefusals := bitOf (nth ws 77) 8
  stampLast := bitOf (nth ws 77) 9
  slipEnable := bitOf (nth ws 77) 10
  printerRate := field (nth ws 77) 12 2
  maskA := BitVec.ofNat 15 (field (nth ws 78) 0 15)
  maskB := BitVec.ofNat 12 (field (nth ws 79) 0 12)
  header := textOf ((ws.drop 80).take 8)
  generation := nth ws 127

/-! ### The clamps (Table 10-1) -/

/-- A window descriptor with its size code clamped to its kind's range (R156). -/
def Window.clamp (w : Window) (lo hi : Nat) : Window := { w with size := clampTo lo hi w.size }

/-- A low threshold at or above the high becomes high − 1 in HYSTERESIS with a high threshold other than 0 (R28). -/
def clampLow (hysteresis : Bool) (high low : Nat) : Nat :=
  if hysteresis && high ≠ 0 && high ≤ low then high - 1 else low

/-- A borrower class with its values clamped. -/
def BorrowerClass.clamp (c : BorrowerClass) : BorrowerClass :=
  { c with
    loanLimit := min c.loanLimit 99
    overdueLimit := min c.overdueLimit 99
    cardGrace := min c.cardGrace 30
    fineHigh := min c.fineHigh Config.maxFines
    fineLow := clampLow c.hysteresis (min c.fineHigh Config.maxFines) c.fineLow }

/-- The longest period of a unit. -/
def topPeriod (hours : Bool) : Nat := if hours then 72 else 365

/-- The longest grace of a unit. -/
def topGrace (hours : Bool) : Nat := if hours then 59 else 7

/-- An item class with its values clamped, period and grace for the unit written in it. -/
def ItemClass.clamp (c : ItemClass) : ItemClass :=
  { c with
    period := clampTo 1 (topPeriod c.hours) c.period
    grace := min c.grace (topGrace c.hours)
    renewalLimit := min c.renewalLimit 9
    rate := min c.rate 9999
    cap := min c.cap 99999 }

/-- A visit idle timeout of 1..9 becomes 10, and one above 600 becomes 600. -/
def clampIdle (n : Nat) : Nat := if n = 0 then 0 else clampTo 10 600 n

/-- The upload fields clamped; the batch start is compared with the batch max after both have been clamped. -/
def UploadParams.clamp (u : UploadParams) : UploadParams :=
  { u with
    lineRate := min u.lineRate 4
    ackTimeout := clampTo 100 5000 u.ackTimeout
    shortLimit := min u.shortLimit 3
    longLimit := min u.longLimit 7
    batchStart := min (clampTo 1 16 u.batchStart) (clampTo 1 16 u.batchMax)
    batchMax := clampTo 1 16 u.batchMax
    tolerance := min u.tolerance 600 }

/-- A set of profile words put in force: every value outside its range replaced by the value Table 10-1 gives (R171). -/
def Profile.clamp (p : Profile) : Profile :=
  { p with
    borrowerWin := p.borrowerWin.clamp 3 19
    loanWin := p.loanWin.clamp 4 18
    scanWin := p.scanWin.clamp 7 7
    journalWin := p.journalWin.clamp 8 17
    statusWin := p.statusWin.clamp 6 6
    calendarWin := p.calendarWin.clamp 6 6
    borrowerClasses := p.borrowerClasses.map BorrowerClass.clamp
    itemClasses := p.itemClasses.map ItemClass.clamp
    weeklyHours := p.weeklyHours.map fun h => ⟨min h.opening Config.lastMinute, min h.closing Config.lastMinute⟩
    minHourLoan := min p.minHourLoan 240
    idleTimeout := clampIdle p.idleTimeout
    glitchLimit := min p.glitchLimit 15
    quietTime := clampTo 5 250 p.quietTime
    repeatGuard := min p.repeatGuard 2000
    toneA := clampTo 50 5000 p.toneA
    toneB := clampTo 50 5000 p.toneB
    alarm := { p.alarm with minute := min p.alarm.minute 59, hour := min p.alarm.hour 23 }
    upload := p.upload.clamp
    reserve := min p.reserve 64
    printerRate := min p.printerRate 1 }

/-- At least one value was clamped. -/
def Profile.clampsMade (p : Profile) : Bool := p.clamp ≠ p

/-! ### The check of R173 -/

/-- The words added modulo 2^32. -/
def sumWords (ws : List Word) : Word := ws.foldl (· + ·) 0#32

/-- The check of an adoption request and of a start: the sum is 0 and the format is 1. -/
def profileGood (ws : List Word) : Bool := sumWords ws = 0#32 && field (nth ws 0) 0 8 = 1

/-! ### The default profile (Table 10-4) -/

/-- A disabled window at base 0. -/
def disabledWindow (size : Nat) : Window := ⟨false, size, 0#22⟩

/-- The default profile. -/
def defaultProfile : Profile where
  format := 1
  mode := .service
  deskId := 0#32
  borrowerWin := disabledWindow 3
  loanWin := disabledWindow 4
  scanWin := disabledWindow 7
  journalWin := disabledWindow 8
  statusWin := disabledWindow 6
  calendarWin := disabledWindow 6
  borrowerClasses := List.replicate 8
    { loanLimit := 10, overdueLimit := 0, cardGrace := 0, hysteresis := false, reportBoth := false,
      dueNotPastExpiry := false, hourLoans := false, fineHigh := 0, fineLow := 0 }
  itemClasses := List.replicate 16
    { hours := false, period := 21, grace := 0, renewalLimit := 2, loanable := true, rate := 0, cap := 0 }
  weeklyHours := [⟨540, 1080⟩, ⟨540, 1080⟩, ⟨540, 1080⟩, ⟨540, 1080⟩, ⟨540, 1080⟩, ⟨600, 960⟩, ⟨0, 0⟩]
  minHourLoan := 0
  idleTimeout := 0
  glitchLimit := 3
  quietTime := 25
  repeatGuard := 750
  toneA := 833
  toneB := 417
  sounderEnable := true
  alarm := { minute := 0, minuteEnable := false, hour := 0, hourEnable := false, weekdays := 0#7 }
  upload :=
    { lineRate := 1, ackTimeout := 1000, shortLimit := 3, longLimit := 7, batchStart := 1, batchMax := 16,
      acceptCentral := false, tolerance := 60 }
  reserve := 8
  journalRefusals := false
  stampLast := false
  slipEnable := false
  printerRate := 1
  maskA := BitVec.allOnes 15
  maskB := BitVec.allOnes 12
  header := List.replicate 32 0x20#8
  generation := 0#32

/-! ### What the windows give (R26, R131, R156, R160) -/

/-- The aligned base of a window: its base with the low n bits cleared. -/
def Window.aligned (w : Window) : Addr := (w.base >>> w.size) <<< w.size

/-- An address hits an enabled window when both agree above the low n bits. -/
def Window.hits (w : Window) (a : Addr) : Bool := w.enable && (a >>> w.size = w.base >>> w.size)

/-- The address of word `n` of a window. -/
def Window.at (w : Window) (n : Nat) : Addr := w.aligned + BitVec.ofNat 22 n

/-- The word of an address within a window. -/
def Window.offset (w : Window) (a : Addr) : Nat := (a - w.aligned).toNat

/-- The borrower slot count (R26). -/
def Profile.borrowerCount (p : Profile) : Nat :=
  if p.borrowerWin.enable then
    (if p.borrowerWin.size = 19 then 2 ^ 16 - 1 else 2 ^ (p.borrowerWin.size - 3))
  else 0

/-- The loan slot count (R160). -/
def Profile.loanCount (p : Profile) : Nat := if p.loanWin.enable then 2 ^ (p.loanWin.size - 4) else 0

/-- The journal capacity (R131). -/
def Profile.capacity (p : Profile) : Nat := if p.journalWin.enable then 2 ^ (p.journalWin.size - 3) else 0

/-- The fields of a borrower class of the profile. -/
def Profile.borrowerClass (p : Profile) (c : Nat) : BorrowerClass :=
  p.borrowerClasses.getD c
    { loanLimit := 0, overdueLimit := 0, cardGrace := 0, hysteresis := false, reportBoth := false,
      dueNotPastExpiry := false, hourLoans := false, fineHigh := 0, fineLow := 0 }

/-- The fields of an item class of the profile. -/
def Profile.itemClass (p : Profile) (c : Nat) : ItemClass :=
  p.itemClasses.getD c
    { hours := false, period := 1, grace := 0, renewalLimit := 0, loanable := false, rate := 0, cap := 0 }

end Sys2Proof.Machine
end

