-- ==== Sys2Proof/Machine/State.lean ====
section
/-! DEFINITION. The state of the DX-40, its desk store and its lines included; the reasons a step can stop; the state
after reset. Every field and its rule stand in INVENTORY.md under "State". -/

namespace Sys2Proof.Machine

/-- Why a step would stop the part with a fault. No rule of the spec stops the part at a command: every upstream access
has a treatment (Table 9-2), every request that is not accepted is refused with an event, and every address of the
store bus is a word of the desk store. So no meaning raises a fault. -/
inductive Fault where
  /-- Raised by no meaning. It is kept so that the type is not empty. Safe: it is never answered. -/
  | unreachable
  deriving DecidableEq, Repr

/-- Why a step would refuse a command. Every command of the table has a meaning, so no meaning refuses. -/
inductive Refusal where
  /-- Raised only by an arm of `exec` whose command has no meaning yet. Safe: the model stops. -/
  | notModelled (mnemonic : String)
  deriving DecidableEq, Repr

/-- The state of the part: the desk store downstream, the lines, the state of each block of Table 0-1, and the queue of
commands waiting, first in first out. -/
structure State where
  store : List Host.Cell
  pins : Pins
  path : StorePath
  engine : Engine
  calendar : Calendar
  wand : Wand
  visit : VisitUnit
  journal : Journal
  upload : Upload
  profile : ProfileUnit
  events : EventUnit
  pending : List Instr
  deriving DecidableEq, Repr

/-! ### Each block after a start -/

/-- A cleared stamp record (R185). -/
def clearedStamp : Stamp := ⟨0#8, 0, 0, false, 0⟩

/-- The Event Unit when a start begins (R182, R185, R187). -/
def EventUnit.fresh : EventUnit where
  latchA := 0#15
  latchB := 0#12
  stamps := [clearedStamp, clearedStamp, clearedStamp, clearedStamp]
  sounder := none

/-- The sweep record after every start (Table 5-4), the last-swept day not yet restored. -/
def Sweep.fresh : Sweep where
  state := .idle
  cursor := 0
  target := none
  marks := 0
  recovery := false
  lastSwept := 0
  restarted := false

/-- The Circulation Engine after every start (R7, R9, R10, R11, R89). -/
def Engine.fresh : Engine where
  crq := []
  busy := []
  state := .idle
  op := none
  stateMap := []
  sweep := .fresh
  sweepWord := 0#32
  resolutions := 0
  interruptedWord := 65535#32

/-- The Calendar Unit after a start, with the clock of the backup domain as it stands (R45, R47). -/
def Calendar.freshWith (c : Calendar) : Calendar :=
  { c with copy3 := 0#32, copy4 := 0#32, mark3 := false, mark4 := false, table := List.replicate 61 0#32, load := none }

/-- An empty element buffer. -/
def emptyPass : Pass := ⟨[], 0, 0#32, 0#32⟩

/-- The Wand Front End after every start (Table 6-1), its counts not yet restored. -/
def Wand.fresh : Wand where
  capture := .quietWait
  counter := 0
  base := 0
  spaceBefore := 0
  ms := 0#32
  msPhase := 0
  passQuiet := 0
  passGlitch := 0
  buffer := []
  count := 0
  startStamp := 0#32
  decodeBuffer := emptyPass
  decoder := .free
  guard := none
  producer := 0#16
  consumerCopy := 0#32
  repeats := 0
  overruns := 0

/-- The Visit Unit after every start (Table 7-1). -/
def VisitUnit.fresh : VisitUnit where
  visit := none
  idleTimer := none
  patronCopy := 65535#32
  slips := []
  lastSlip := none
  printer := .idle
  lineRate := 0
  byteInProgress := false
  verdictWord := 65535#32
  finesWord := 0#32

/-- The journal after every start (Table 8-1), its pointers not yet restored. -/
def Journal.fresh : Journal where
  head := 0#32
  tail := 0#32
  lossCount := 0
  lowArmed := true
  systemQueue := []

/-- The Upload Engine after every start with the upload fields of the profile in force (R154). -/
def Upload.freshWith (u : UploadParams) : Upload where
  state := .idle
  params := u
  batchSize := u.batchStart
  batchCounter := 0#16
  outstanding := none
  reading := false
  shortRetries := 0
  longRetries := 0
  retries := 0#16
  rollover := false
  entriesSent := 0#32
  cause := .none
  ackTimer := false
  tx := []
  cutByte := false
  rxState := .hunt
  rxBytes := []

/-- The Profile Unit when a start begins: nothing read yet, the default profile standing until a profile is put in
force (notes/assumptions/2.md). -/
def ProfileUnit.fresh : ProfileUnit where
  shadow := List.replicate 128 0#32
  active := defaultProfile
  candidate := none
  outcome := .none
  defaultInForce := false

/-- The Store Path when a start of kind `k` begins, with the access it holds. -/
def StorePath.freshWith (k : StartKind) (u : Upstream) : StorePath where
  state := .starting
  stage := .profileReads
  startKind := k
  resetSeen := false
  repairedConsumer := false
  repairedTail := false
  upstream := u
  completion := .none
  pwq := []
  waiting := []
  fresh := 0
  startReads := []

/-- The clock of a backup domain whose loss the backup monitor recorded (R45): day 0, minute 0, second 0, not valid. -/
def Calendar.lost : Calendar where
  day := 0
  minute := 0
  second := 0
  prescaler := 0
  valid := false
  backupLoss := false
  copy3 := 0#32
  copy4 := 0#32
  mark3 := false
  mark4 := false
  table := List.replicate 61 0#32
  load := none

/-- The lines at reset: main power present, no line asserted, WAND_IN at the space level. -/
def Pins.atReset : Pins where
  mainPower := true
  pfail := false
  reset := false
  uplReady := false
  prnBusy := false
  prnPaperOut := false
  wandBar := false

/-- The machine right after reset: a power-on start has just begun over a store that nothing has written, after a loss
of the backup supply (notes/assumptions/1.md). -/
def State.reset : State where
  store := []
  pins := .atReset
  path := .freshWith .powerOn .idle
  engine := .fresh
  calendar := .lost
  wand := .fresh
  visit := .fresh
  journal := .fresh
  upload := .freshWith defaultProfile.upload
  profile := .fresh
  events := .fresh
  pending := []

/-! ### One update for each block -/

/-- The state with another desk store. -/
def State.setStore (s : State) (m : List Host.Cell) : State := { s with store := m }

/-- The state with other lines. -/
def State.setPins (s : State) (p : Pins) : State := { s with pins := p }

/-- The state with another Store Path. -/
def State.setPath (s : State) (p : StorePath) : State := { s with path := p }

/-- The state with another Circulation Engine. -/
def State.setEngine (s : State) (e : Engine) : State := { s with engine := e }

/-- The state with another Calendar Unit. -/
def State.setCalendar (s : State) (c : Calendar) : State := { s with calendar := c }

/-- The state with another Wand Front End. -/
def State.setWand (s : State) (w : Wand) : State := { s with wand := w }

/-- The state with another Visit Unit. -/
def State.setVisit (s : State) (v : VisitUnit) : State := { s with visit := v }

/-- The state with another journal. -/
def State.setJournal (s : State) (j : Journal) : State := { s with journal := j }

/-- The state with another Upload Engine. -/
def State.setUpload (s : State) (u : Upload) : State := { s with upload := u }

/-- The state with another Profile Unit. -/
def State.setProfile (s : State) (p : ProfileUnit) : State := { s with profile := p }

/-- The state with another Event Unit. -/
def State.setEvents (s : State) (e : EventUnit) : State := { s with events := e }

end Sys2Proof.Machine
end

