-- ==== Sys2Proof/Machine/Ops.lean ====
section
/-! DEFINITION. The operations every block shares: the end of an act, readings and addresses, internal reads, the busy
set and the slot state map, the Posted Write Queue with its waiting groups, and the downstream arbiter. -/

namespace Sys2Proof.Machine

/-- What a step answers. -/
abbrev Answer := Host.Outcome State Fault Refusal

/-! ### Acts -/

/-- The end of an act: groups produced later begin to wait at a later moment (R167). -/
def endAct (s : State) : State := s.setPath { s.path with fresh := 0 }

/-- The act that leaves `s`. -/
def done (s : State) : Answer := .next (endAct s)

/-- An event that does not occur in state `s`: nothing happens (notes/assumptions/6.md). -/
def idle (s : State) : Answer := .next s

/-- The act of `f` when the event occurs in `s`, which `c` says. -/
def actIf (c : Bool) (f : State → State) (s : State) : Answer := if c then done (f s) else idle s

/-- The part is running: from the release of upstream accesses to the beginning of an orderly stop (R51). -/
def State.running (s : State) : Bool := s.path.state = .running

/-- The active profile. -/
def State.active (s : State) : Profile := s.profile.active

/-- SERVICE mode is in force. -/
def State.service (s : State) : Bool := s.active.mode = .service

/-- One reading of the desk clock (R13). -/
def State.reading (s : State) : Reading := ⟨s.calendar.day, s.calendar.minute, s.calendar.second, s.calendar.valid⟩

/-! ### Addresses (R131, R156) -/

/-- Word `n` of loan slot `i`. -/
def Profile.loanAddr (p : Profile) (i n : Nat) : Addr := p.loanWin.at (16 * i + n)

/-- Word `n` of borrower `i`. -/
def Profile.borrowerAddr (p : Profile) (i n : Nat) : Addr := p.borrowerWin.at (8 * i + n)

/-- STATUS word `n`. -/
def Profile.statusAddr (p : Profile) (n : Nat) : Addr := p.statusWin.at n

/-- Word `n` of the ring place of sequence number `seq`. -/
def Profile.journalAddr (p : Profile) (seq : Word) (n : Nat) : Addr := p.journalWin.at (8 * (seq.toNat % p.capacity) + n)

/-! ### Internal reads (R155, R168) -/

/-- The data of the newest queue entry for a word. -/
def queued : List QEntry → Addr → Option Word
  | [], _ => none
  | e :: rest, a =>
    match queued rest a with
    | some d => some d
    | none => if e.addr = a then some e.data else none

/-- The newest value of a word behind the upstream side: the queue's, or else the store's. -/
def behind (s : State) (a : Addr) : Word :=
  match queued s.path.pwq a with
  | some d => d
  | none => readWord s.store a

/-- The value a judged upstream write will place in its word (R155). -/
def willPlace (s : State) (a : Addr) : Option Word :=
  match s.path.upstream with
  | .forwarded acc => if acc.write && acc.addr = a then some (mergeLanes (behind s a) acc.data acc.strobes) else none
  | _ => none

/-- What an internal read of a word returns. -/
def internalRead (s : State) (a : Addr) : Word :=
  match willPlace s a with
  | some d => d
  | none => behind s a

/-- An internal read of the word needs no turn of the port. -/
def servedAtOnce (s : State) (a : Addr) : Bool := (willPlace s a).isSome || (queued s.path.pwq a).isSome

/-! ### The busy set (R10) -/

/-- The claim `c` stands. -/
def State.claimed (s : State) (c : Claim) : Bool := s.engine.busy.contains c

/-- A claim begins. -/
def claim (c : Claim) (s : State) : State := s.setEngine { s.engine with busy := s.engine.busy ++ [c] }

/-- A claim ends. -/
def release (c : Claim) (s : State) : State := s.setEngine { s.engine with busy := s.engine.busy.erase c }

/-! ### The slot state map (R7) -/

/-- The state the map holds for a slot. -/
def mapGet : List (Nat × LoanState) → Nat → Option LoanState
  | [], _ => none
  | (k, v) :: rest, i => if k = i then some v else mapGet rest i

/-- A state recorded in the map, the slots kept in rising order. -/
def mapSet : List (Nat × LoanState) → Nat → LoanState → List (Nat × LoanState)
  | [], i, v => [(i, v)]
  | (k, w) :: rest, i, v =>
    if i < k then (i, v) :: (k, w) :: rest else if i = k then (i, v) :: rest else (k, w) :: mapSet rest i v

/-- The state of a slot recorded by the engine, by a taken request, by a clear or by a status read. -/
def recordState (i : Nat) (v : LoanState) (s : State) : State :=
  s.setEngine { s.engine with stateMap := mapSet s.engine.stateMap i v }

/-! ### The Posted Write Queue (R167) -/

/-- The free entries of the queue. -/
def pwqFree (s : State) : Nat := Config.pwqDepth - s.path.pwq.length

/-- Words placed in the queue, in order. -/
def enqueue (es : List QEntry) (s : State) : State := s.setPath { s.path with pwq := s.path.pwq ++ es }

/-- A group's STATUS words at the addresses they have at its admission. -/
def statusEntries (s : State) (ws : List (Nat × Word)) : List QEntry := ws.map fun p => ⟨s.active.statusAddr p.1, p.2⟩

/-- The owners that keep at most one group waiting, a newer one taking its place (R46, R113, R152). -/
def GroupOwner.replaces : GroupOwner → Bool
  | .clockMirror => true
  | .visitWord => true
  | .uploadWord => true
  | _ => false

/-- The groups built at their own acts. -/
def GroupOwner.builtLater : GroupOwner → Bool
  | .engineCommit => true
  | .scanRecord => true
  | .systemEntry => true
  | _ => false

/-- A group begins to wait, behind every group waiting. `ordered` says that a rule gives its order after the groups of the
same act; without one, two groups of one act may be admitted in either order. A group produced after an ordered one is tied to
that one alone, and is not admitted before the act's earlier groups, though R167 allows it (DESIGN CHOICE,
notes/assumptions/3.md). -/
def beginWait (o : GroupOwner) (ws : List (Nat × Word)) (ordered : Bool) (s : State) : State :=
  s.setPath { s.path with
    waiting := s.path.waiting ++ [⟨o, ws, decide (0 < s.path.fresh) && !ordered⟩]
    fresh := s.path.fresh + 1 }

/-- A newer group takes the place of its owner's waiting one. -/
def replaceWaiting (o : GroupOwner) (ws : List (Nat × Word)) (s : State) : State :=
  s.setPath { s.path with waiting := s.path.waiting.map fun g => if g.owner = o then { g with words := ws } else g }

/-- The part writes STATUS words now: the window is enabled, and the part is starting or running (R170). -/
def writesStatus (s : State) : Bool :=
  s.active.statusWin.enable && (s.path.state = .starting || s.path.state = .running)

/-- A group of STATUS words is produced: it enters the queue at once when no group waits and the queue has room, and
waits otherwise. -/
def produce (o : GroupOwner) (ws : List (Nat × Word)) (ordered : Bool) (s : State) : State :=
  if !writesStatus s then s
  else if o.replaces && s.path.waiting.any (fun g => g.owner = o) then replaceWaiting o ws s
  else if s.path.waiting.isEmpty && decide (ws.length ≤ pwqFree s) then enqueue (statusEntries s ws) s
  else beginWait o ws ordered s

/-- The waiting groups that may be admitted next: the oldest, and those that began to wait in the same act. -/
def frontGroups : List Group → List Group
  | [] => []
  | g :: rest => g :: rest.takeWhile (fun h => h.tied)

/-- A group built at its own act is among the groups that may be admitted next. -/
def atFront (s : State) (o : GroupOwner) : Bool := (frontGroups s.path.waiting).any (fun g => g.owner = o)

/-- The line behind a group that has left it: the next group is tied to the one before only when both of them began to wait
in the same act as the group that left. -/
def closeGap (g : Group) : List Group → List Group
  | [] => []
  | h :: rest => { h with tied := h.tied && g.tied } :: rest

/-- The first waiting group of an owner leaves the line. -/
def dropGroup (o : GroupOwner) : List Group → List Group
  | [] => []
  | g :: rest => if g.owner = o then closeGap g rest else g :: dropGroup o rest

/-- The groups that stay in the line when those for which `keep` is false leave it. Of the groups of one act, the first that
stays is tied to none (R167); `gap` says that the groups of its act before it have all left. -/
def keepWaiting (keep : Group → Bool) (gap : Bool) : List Group → List Group
  | [] => []
  | g :: rest =>
    if keep g then { g with tied := g.tied && !gap } :: keepWaiting keep false rest
    else keepWaiting keep (gap || !g.tied) rest

/-- The waiting group of an owner is gone. -/
def leaveWait (o : GroupOwner) (s : State) : State :=
  s.setPath { s.path with waiting := dropGroup o s.path.waiting }

/-- The group that `pick` names may be admitted: a group of STATUS words among those that may be admitted next, behind no
group of its own owner, for which the queue has room. R185 keeps the groups of one stamp record in order; for two groups of
another owner that began to wait in one act (the two w18 groups of an adoption request that is judged at once) R167 allows
either order, and the model admits them in the order in which they were produced (DESIGN CHOICE, notes/assumptions/3.md). -/
def admissible (s : State) (pick : Nat) : Option Group :=
  match (frontGroups s.path.waiting)[pick]? with
  | some g =>
    if !g.owner.builtLater && !((s.path.waiting.take pick).any fun h => h.owner = g.owner) &&
        decide (g.words.length ≤ pwqFree s) then some g
    else none
  | none => none

/-- The value a word of a waiting adoption group has once its owner has written the STATUS words `ws`: w10 to w31 hold the value
their owner last wrote (R176), and w0 to w2 that of the adoption. -/
def followed (ws : List (Nat × Word)) (p : Nat × Word) : Nat × Word :=
  if 10 ≤ p.1 then (p.1, (ws.lookup p.1).getD p.2) else p

/-- A waiting group once the STATUS words `ws` have been written before it. -/
def Group.follow (ws : List (Nat × Word)) (g : Group) : Group :=
  if g.owner = .adoption then { g with words := g.words.map (followed ws) } else g

/-- The STATUS words `ws` are written: an adoption's groups that still wait take their values, so that no older value overwrites a
newer one (R176; notes/assumptions/10.md). A commit's group never stands before them, since an adoption finds no operation in
flight (R174). -/
def follow (ws : List (Nat × Word)) (s : State) : State :=
  s.setPath { s.path with waiting := s.path.waiting.map (Group.follow ws) }

/-- The admission of the group at place `pick` of the line. -/
def admitAt (pick : Nat) (g : Group) (s : State) : State :=
  let s1 := enqueue (statusEntries s g.words) s
  follow g.words (s1.setPath { s1.path with waiting := s.path.waiting.eraseIdx pick })

/-! ### The downstream arbiter (R169) -/

/-- The requesters of the port in their fixed order. -/
inductive Requester where
  | pwqUrgent
  | upstream
  | pwq
  | engine
  | listLoad
  | batch
  | slip
  | startUp
  deriving DecidableEq, Repr

/-- The store word an operation's next fetch reads. -/
def fetchAddr (s : State) (op : Op) (w : FetchWord) : Addr :=
  match w, op.kind with
  | .slot n, .entry (.loan i) => s.active.loanAddr i n
  | .slot n, .entry (.ret i _) => s.active.loanAddr i n
  | .slot n, .entry (.renew i _) => s.active.loanAddr i n
  | .slot n, .sweepStep i _ => s.active.loanAddr i n
  | .slot n, _ => s.active.loanAddr 0 n
  | .borrower n, _ => s.active.borrowerAddr (op.borrower.getD 0) n

/-- The next word the operation in flight fetches. -/
def nextFetch (s : State) : Option (FetchWord × Addr) :=
  match s.engine.state, s.engine.op with
  | .fetch, some op =>
    match op.todo with
    | w :: _ => some (w, fetchAddr s op w)
    | [] => none
  | _, _ => none

/-- The CALENDAR word a list load reads next. -/
def nextLoad (s : State) : Option (Nat × Addr) :=
  match s.calendar.load with
  | some n => some (n, s.active.calendarWin.at n)
  | none => none

/-- The journal word a batch being read reads next: word `n % 8` of the entry `n / 8` places behind the tail, after `n` reads
(R146). -/
def nextBatchAddr (s : State) : Option Addr :=
  match s.upload.reading, s.upload.outstanding with
  | true, some b => some (s.active.journalAddr (s.journal.tail + word (b.words.length / 8)) (b.words.length % 8))
  | _, _ => none

/-- The oldest slip in COMPOSING. -/
def oldestJob : List Slip → Option SlipJob
  | [] => none
  | .composing j :: _ => some j
  | .ready _ :: rest => oldestJob rest

/-- The store words a slip's composition reads, in order: the patron's w0, w1 and w2, and w8 to w12 of each listed slot
(R122). -/
def jobAddrs (j : SlipJob) : List Addr :=
  [0#22, 1#22, 2#22].map (fun k => j.patronAddr + k) ++
    j.slotAddrs.flatMap fun a => [8#22, 9#22, 10#22, 11#22, 12#22].map fun k => a + k

/-- The store word a slip's composition reads next. -/
def nextJobAddr (j : SlipJob) : Addr := (jobAddrs j).getD j.words.length j.patronAddr

/-- The STATUS words a start restores its counts from, in the order of its reads (R180). -/
def restoredWords : List Nat := [11, 1, 12, 13, 17, 20]

/-- The store word a start reads next (R179, R180). -/
def nextStartAddr (s : State) : Option Addr :=
  match s.path.stage with
  | .profileReads => some (BitVec.ofNat 22 s.path.startReads.length)
  | .statusReads => some (s.active.statusAddr (restoredWords.getD s.path.startReads.length 20))
  | _ => none

/-- The loan slot a held write waits to learn the state of: the one its word lies in (R7). An adoption that takes the word
out of the LOAN window, or adopts MAINTENANCE mode, ends the wait. -/
def statusReadSlot (s : State) : Option Nat :=
  match s.path.upstream with
  | .held a .statusRead =>
    if s.service && s.active.loanWin.hits a.addr then some (s.active.loanWin.offset a.addr / 16) else none
  | _ => none

/-- The status word of that slot. -/
def statusReadAddr (s : State) : Option Addr := (statusReadSlot s).map fun i => s.active.loanAddr i 0

/-- A read that a block waits for needs a turn of the port. -/
def needsPort (s : State) (a : Option Addr) : Bool :=
  match a with
  | some x => !servedAtOnce s x
  | none => false

/-- The upstream access waits for the port: forwarded to it, or held for a status read. -/
def upstreamWaits (s : State) : Bool :=
  match s.path.upstream with
  | .forwarded _ => true
  | _ => needsPort s (statusReadAddr s)

/-- A requester waits for the port. One with several words to read waits for its next word from the moment the read before has
returned, so no lower requester has a turn between two words that both need the port: R169 lets two requesters interleave and
does not say when the next word is asked for (DESIGN CHOICE, notes/assumptions/13.md). -/
def waitsFor (s : State) : Requester → Bool
  | .pwqUrgent => decide (Config.pwqUrgent ≤ s.path.pwq.length)
  | .upstream => upstreamWaits s
  | .pwq => !s.path.pwq.isEmpty
  | .engine => needsPort s ((nextFetch s).map fun p => p.2)
  | .listLoad => needsPort s ((nextLoad s).map fun p => p.2)
  | .batch => needsPort s (nextBatchAddr s)
  | .slip => needsPort s ((oldestJob s.visit.slips).map nextJobAddr)
  | .startUp => needsPort s (nextStartAddr s)

/-- The fixed order of R169, highest first. -/
def Requester.order : List Requester :=
  [.pwqUrgent, .upstream, .pwq, .engine, .listLoad, .batch, .slip, .startUp]

/-- The requester the port is granted to: the highest waiting one. -/
def granted (s : State) : Option Requester := Requester.order.find? (waitsFor s)

/-- A read of word `a` by requester `r` is served now: at once, or at the requester's turn of the port. -/
def readServed (s : State) (r : Requester) (a : Addr) : Bool := servedAtOnce s a || granted s = some r

/-! ### Upstream accesses -/

/-- An upstream write completes. -/
def completeWrite (s : State) : State := s.setPath { s.path with upstream := .idle, completion := .write }

/-- An upstream read completes with its data. -/
def completeRead (d : Word) (s : State) : State := s.setPath { s.path with upstream := .idle, completion := .read d }

/-- The access is held. -/
def hold (a : Access) (why : Hold) (s : State) : State := s.setPath { s.path with upstream := .held a why }

/-- The judged access is forwarded to the arbiter. -/
def forward (a : Access) (s : State) : State := s.setPath { s.path with upstream := .forwarded a }

/-- A write rewritten: the store is to receive the whole word `d` in place of the data written. -/
def rewrite (a : Access) (d : Word) (s : State) : State := forward { a with data := d, strobes := fullWord } s

end Sys2Proof.Machine
end

