-- ==== Sys2Proof/Machine/Flags.lean ====
section
/-! DEFINITION. The Event Unit (Chapter 11): the latches and ATTN, the stamp records with their mirror words, and the
sounder. -/

namespace Sys2Proof.Machine

/-! ### Events (R182) -/

/-- The place of an event in Table 11-1: 0 to 14 in latch A, 15 to 26 in latch B. -/
def Event.place : Event → Nat
  | .requestDone => 0
  | .refusal => 1
  | .badRequest => 2
  | .patronBlocked => 3
  | .fineBlockSet => 4
  | .fineBlockCleared => 5
  | .countClamped => 6
  | .countSuspect => 7
  | .visitClosed => 8
  | .scanReady => 9
  | .scanBad => 10
  | .scanOverrun => 11
  | .slipDropped => 12
  | .paperOut => 13
  | .sweepDone => 14
  | .startUp => 15
  | .clockInvalid => 16
  | .clockSet => 17
  | .profileAdopted => 18
  | .profileRejected => 19
  | .profileClamped => 20
  | .journalLow => 21
  | .journalLost => 22
  | .uploadDone => 23
  | .uploadFailed => 24
  | .timeRefused => 25
  | .alarmMissed => 26

/-- The stamp record of an event (Table 11-2). -/
def Event.record : Event → Option Nat
  | .refusal => some 0
  | .scanBad => some 1
  | .badRequest => some 2
  | .journalLost => some 3
  | _ => none

/-- The event's bit is set in its latch. -/
def EventUnit.latch (u : EventUnit) (e : Event) : EventUnit :=
  if e.place < 15 then { u with latchA := u.latchA ||| (1#15 <<< e.place) }
  else { u with latchB := u.latchB ||| (1#12 <<< (e.place - 15)) }

/-- The event is latched. -/
def EventUnit.has (u : EventUnit) (e : Event) : Bool :=
  if e.place < 15 then u.latchA.getLsbD e.place else u.latchB.getLsbD (e.place - 15)

/-- ATTN (R183): some latched bit has its enable set in the active profile. -/
def State.attn (s : State) : Bool :=
  (s.events.latchA &&& s.active.maskA) ≠ 0#15 || (s.events.latchB &&& s.active.maskB) ≠ 0#12

/-! ### Stamps (R185) -/

/-- A stamp record after one more event with detail `d` at reading `r`. The count wraps from 255 to 0. -/
def Stamp.note (st : Stamp) (last : Bool) (r : Reading) (d : Nat) : Stamp :=
  if last || st.count = 0#8 then ⟨st.count + 1#8, r.day, r.minute, r.valid, d⟩
  else { st with count := st.count + 1#8 }

/-- The two mirror words of a stamp record (Table 12-8). -/
def Stamp.words (st : Stamp) : List Word :=
  [put 0 8 st.count.toNat ||| put 8 24 st.detail, instantWord ⟨st.day, st.minute⟩ st.valid]

/-- Stamp record `k`. -/
def EventUnit.stamp (u : EventUnit) (k : Nat) : Stamp := u.stamps.getD k clearedStamp

/-- The mirror words of record `k`, with their STATUS word numbers. -/
def stampMirror (u : EventUnit) (k : Nat) : List (Nat × Word) :=
  [(24 + 2 * k, nth (u.stamp k).words 0), (25 + 2 * k, nth (u.stamp k).words 1)]

/-- Record `k` updated, and its mirror produced. -/
def stampEvent (k d : Nat) (s : State) : State :=
  let u : EventUnit :=
    { s.events with stamps := s.events.stamps.set k ((s.events.stamp k).note s.active.stampLast s.reading d) }
  produce (.stamp k) (stampMirror u k) false (s.setEvents u)

/-- An event is raised, with its detail when it has a stamp. -/
def raise (e : Event) (d : Nat) (s : State) : State :=
  let s1 := s.setEvents (s.events.latch e)
  match e.record with
  | some k => stampEvent k d s1
  | none => s1

/-- Events without stamps, raised in one act. -/
def raiseAll (es : List Event) (s : State) : State := es.foldl (fun t e => raise e 0 t) s

/-- BAD_REQUEST with a word address as its detail. -/
def badRequest (a : Addr) (s : State) : State := raise .badRequest a.toNat s

/-- The four records cleared, with their eight mirror words as one group (R186). -/
def clearStamps (s : State) : State :=
  let u : EventUnit := { s.events with stamps := EventUnit.fresh.stamps }
  produce .clearStamps (stampMirror u 0 ++ stampMirror u 1 ++ stampMirror u 2 ++ stampMirror u 3) false (s.setEvents u)

/-! ### The sounder (R187 to R189) -/

/-- The priority of a pattern (Table 11-3). -/
def Pattern.priority : Pattern → Nat
  | .accept => 1
  | .lent => 2
  | .rejectScan => 3
  | .alarm => 4

/-- How many segments a pattern has; ALARM's twenty of 500 ms make its 10 s. -/
def Pattern.segments : Pattern → Nat
  | .accept => 1
  | .lent => 3
  | .rejectScan => 1
  | .alarm => 20

/-- What segment `k` of a pattern sounds. -/
def Pattern.tone (p : Pattern) (k : Nat) : Tone :=
  match p with
  | .accept => .toneA
  | .lent => if k % 2 = 0 then .toneA else .silent
  | .rejectScan => .toneB
  | .alarm => if k % 2 = 0 then .toneA else .toneB

/-- The length of segment `k` of a pattern in milliseconds. -/
def Pattern.segmentMs : Pattern → Nat
  | .accept => 60
  | .lent => 60
  | .rejectScan => 250
  | .alarm => 500

/-- The divider a segment takes from the active profile as it begins; a silent segment holds SOUNDER low. -/
def dividerFor (p : Profile) : Tone → Nat
  | .toneA => p.toneA
  | .toneB => p.toneB
  | .silent => 0

/-- Segment `k` of a pattern begins. -/
def playing (p : Profile) (pat : Pattern) (k : Nat) : Playing := ⟨pat, k, dividerFor p (pat.tone k)⟩

/-- The sounder after a request (R188): a request of higher or equal priority starts its pattern, ACCEPT ends an ALARM,
and any other request is dropped. -/
def soundAfter (p : Profile) (now : Option Playing) (req : Pattern) : Option Playing :=
  match now with
  | none => some (playing p req 0)
  | some cur =>
    if cur.pattern.priority ≤ req.priority then some (playing p req 0)
    else if cur.pattern = .alarm && req = .accept then some (playing p req 0)
    else some cur

/-- A tone request. With the sounder enable clear, or from the beginning of an orderly stop, it is dropped. -/
def requestTone (req : Pattern) (s : State) : State :=
  if s.active.sounderEnable && s.running then
    s.setEvents { s.events with sounder := soundAfter s.active s.events.sounder req }
  else s

/-- A tone request that need not be there. -/
def requestToneIf (req : Option Pattern) (s : State) : State :=
  match req with
  | some p => requestTone p s
  | none => s

/-- The sounder falls silent. -/
def silenceSounder (s : State) : State := s.setEvents { s.events with sounder := none }

/-- The segment being played ends: the next begins, or the sounder returns to IDLE. -/
def nextSegment (s : State) : State :=
  match s.events.sounder with
  | some cur =>
    if cur.segment + 1 < cur.pattern.segments then
      s.setEvents { s.events with sounder := some (playing s.active cur.pattern (cur.segment + 1)) }
    else silenceSounder s
  | none => s

end Sys2Proof.Machine
end

