-- ==== Sys2Proof/Machine/Mirrors.lean ====
section
/-! DEFINITION. The words the part writes into the STATUS block (Table 12-8) and the reports its blocks make there at each
change. -/

namespace Sys2Proof.Machine

/-! ### The words -/

/-- The code of the visit's standing in STATUS w23; 0 is NONE. -/
def Standing.code : Standing → Nat
  | .pending => 1
  | .clear => 2
  | .blocked => 3

/-- The code of the printer state in STATUS w23. -/
def Printer.code : Printer → Nat
  | .idle => 0
  | .sending _ => 1
  | .paperWait => 2

/-- The entries of the slip list, none with no visit open. -/
def VisitUnit.listLength (v : VisitUnit) : Nat :=
  match v.visit with
  | some r => r.list.length
  | none => 0

/-- STATUS w23, the visit word (R113). -/
def visitWord (v : VisitUnit) : Word :=
  let standing := match v.visit with
    | some r => r.standing.code
    | none => 0
  let continued := match v.visit with
    | some r => r.continued
    | none => false
  put 0 2 standing ||| put 2 5 v.listLength ||| put 7 1 (flag continued) ||| put 8 3 v.slips.length |||
    put 11 1 (flag v.lastSlip.isSome) ||| put 12 2 v.printer.code

/-- The code of the Upload Engine state in STATUS w19. -/
def UploadState.code : UploadState → Nat
  | .idle => 0
  | .waitLine => 1
  | .helloSent => 2
  | .sending => 3
  | .doneSent => 4

/-- The code of the last failure cause in STATUS w19. -/
def FailCause.code : FailCause → Nat
  | .none => 0
  | .noLine => 1
  | .abort => 2
  | .retries => 3

/-- STATUS w19, the upload word (R152). -/
def uploadWord (u : Upload) : Word :=
  put 0 16 u.retries.toNat ||| put 16 1 (flag u.rollover) ||| put 17 3 u.state.code ||| put 20 3 u.cause.code

/-- The code of the last adoption outcome in STATUS w18. -/
def AdoptionOutcome.code : AdoptionOutcome → Nat
  | .none => 0
  | .adopted => 1
  | .rejectedCheck => 2
  | .rejectedJournal => 3

/-- The mode as one bit. -/
def Mode.bit : Mode → Nat
  | .service => 0
  | .maintenance => 1

/-- STATUS w18, the profile word (R172). -/
def profileWord (p : ProfileUnit) : Word :=
  put 0 1 (flag p.candidate.isSome) ||| put 1 3 p.outcome.code ||| put 4 1 (flag p.defaultInForce) |||
    put 5 1 p.active.mode.bit

/-- STATUS w15: the minute of day and the second. -/
def timeWord (c : Calendar) : Word := put 0 16 c.minute ||| put 16 8 c.second

/-- STATUS w16: the day and the clock-valid flag. -/
def dayWord (c : Calendar) : Word := put 0 16 c.day ||| put 31 1 (flag c.valid)

/-- The clock mirror pair, w16 and then w15 (R46). -/
def clockPair (c : Calendar) : List (Nat × Word) := [(16, dayWord c), (15, timeWord c)]

/-- STATUS w17: the last-swept day and the marks made. -/
def sweepWordOf (sw : Sweep) : Word := put 0 16 sw.lastSwept ||| put 16 15 sw.marks

/-- STATUS w20: the loss count. -/
def lossWord (j : Journal) : Word := put 0 16 j.lossCount

/-- STATUS w22: the repeat count and the overrun count (R111). -/
def wandCountWord (w : Wand) : Word := put 0 16 w.repeats ||| put 16 16 w.overruns

/-- The scan consumer count: the low 16 bits of the copy of STATUS w1 (R110). -/
def Wand.consumer (w : Wand) : BitVec 16 := w.consumerCopy.setWidth 16

/-- STATUS w10: an index, a standing code and verdict bits. -/
def verdictWordOf (index standing verdict : Nat) : Word := put 0 16 index ||| put 16 4 standing ||| put 20 5 verdict

/-- The value each owner's STATUS word has now; for w10, w14, w17 and w21, the value it last took (R176). -/
def statusValue (s : State) (n : Nat) : Word :=
  match n with
  | 0 => s.visit.patronCopy
  | 1 => word s.wand.consumer.toNat
  | 10 => s.visit.verdictWord
  | 11 => word s.wand.producer.toNat
  | 12 => s.journal.head
  | 13 => s.journal.tail
  | 14 => s.visit.finesWord
  | 15 => timeWord s.calendar
  | 16 => dayWord s.calendar
  | 17 => s.engine.sweepWord
  | 18 => profileWord s.profile
  | 19 => uploadWord s.upload
  | 20 => lossWord s.journal
  | 21 => s.engine.interruptedWord
  | 22 => wandCountWord s.wand
  | 23 => visitWord s.visit
  | 24 => nth (s.events.stamp 0).words 0
  | 25 => nth (s.events.stamp 0).words 1
  | 26 => nth (s.events.stamp 1).words 0
  | 27 => nth (s.events.stamp 1).words 1
  | 28 => nth (s.events.stamp 2).words 0
  | 29 => nth (s.events.stamp 2).words 1
  | 30 => nth (s.events.stamp 3).words 0
  | 31 => nth (s.events.stamp 3).words 1
  | _ => 0#32

/-- STATUS words with the values they have now. -/
def statusWords (s : State) (ns : List Nat) : List (Nat × Word) := ns.map fun n => (n, statusValue s n)

/-! ### Reports at each change -/

/-- The visit word is written when it differs from what it was in `before` (R113). -/
def reportVisit (before : State) (s : State) : State :=
  if visitWord s.visit = visitWord before.visit then s else produce .visitWord [(23, visitWord s.visit)] true s

/-- The upload word is written when it differs from what it was in `before` (R152). -/
def reportUpload (before : State) (s : State) : State :=
  if uploadWord s.upload = uploadWord before.upload then s else produce .uploadWord [(19, uploadWord s.upload)] false s

/-- The profile word is written when it differs from what it was in `before` (R172). -/
def reportProfile (before : State) (s : State) : State :=
  if profileWord s.profile = profileWord before.profile then s
  else produce .profileWord [(18, profileWord s.profile)] false s

/-- The wand count word is written (R111). -/
def reportWandCounts (s : State) : State := produce .wandCounts [(22, wandCountWord s.wand)] false s

/-- The clock mirror is written while the part is running (R46). -/
def writeClockMirror (s : State) : State :=
  if s.running then produce .clockMirror (clockPair s.calendar) false s else s

/-- STATUS w10 and w14 written as one group by the Visit Unit, and their values kept. -/
def writePatronStatus (o : GroupOwner) (w10 w14 : Word) (s : State) : State :=
  produce o [(10, w10), (14, w14)] true (s.setVisit { s.visit with verdictWord := w10, finesWord := w14 })

end Sys2Proof.Machine
end

