-- ==== Sys2Proof/Machine/JournalUnit.lean ====
section
/-! DEFINITION. The journal ring (8.1): its free entries, the low mark, appends, lost entries and the system append queue. -/

namespace Sys2Proof.Machine

/-- The entries present: head − tail modulo 2^32 (R131). -/
def State.present (s : State) : Nat := (s.journal.head - s.journal.tail).toNat

/-- The free entries (R132). -/
def State.freeEntries (s : State) : Nat := s.active.capacity - s.present

/-- The low mark judged (R135). -/
def judgeLow (s : State) : State :=
  if s.freeEntries ≤ s.active.reserve then
    if s.journal.lowArmed then raise .journalLow 0 (s.setJournal { s.journal with lowArmed := false }) else s
  else s.setJournal { s.journal with lowArmed := true }

/-- The word address a lost entry would have taken, or 0 while the window is disabled (R134). -/
def lostAddress (s : State) : Nat :=
  if s.active.journalWin.enable then (s.active.journalAddr s.journal.head 0).toNat else 0

/-- The loss count one higher, saturating at 65,535. -/
def countLoss (s : State) : State := s.setJournal { s.journal with lossCount := min (s.journal.lossCount + 1) 65535 }

/-- The entry's eight words at its ring place (R133). -/
def entryWrites (s : State) (e : JEntry) : List QEntry :=
  ((e.words s.journal.head).zipIdx).map fun p => ⟨s.active.journalAddr s.journal.head p.2, p.1⟩

/-- The head advanced by one, the entry being kept. -/
def advanceHead (s : State) : State := s.setJournal { s.journal with head := s.journal.head + 1#32 }

/-- A STATUS word of a group placed at its act, left out while the window is disabled (R16). -/
def mirrorWrite (s : State) (n : Nat) (w : Word) : List QEntry :=
  if s.active.statusWin.enable then [⟨s.active.statusAddr n, w⟩] else []

/-- A kept entry's group: the entry, the words `ws` between, and the head mirror with the new head; the head advances
and the low mark is judged. -/
def appendKept (e : JEntry) (ws : List QEntry) (s : State) : State :=
  judgeLow (advanceHead (follow [(12, s.journal.head + 1#32)]
    (enqueue (entryWrites s e ++ ws ++ mirrorWrite s 12 (s.journal.head + 1#32)) s)))

/-- A lost entry's group: the words `ws` and the loss count mirror; JOURNAL_LOST is raised (R134). -/
def appendLost (ws : List QEntry) (s : State) : State :=
  let s1 := countLoss s
  raise .journalLost (lostAddress s)
    (follow [(20, lossWord s1.journal)] (enqueue (ws ++ mirrorWrite s1 20 (lossWord s1.journal)) s1))

/-- An entry joins the system append queue, or is lost at once when the queue is full (R136). The w20 group of
such a loss that has to wait keeps the loss count of its moment, also when a group admitted before it loses an entry and writes a
higher one: R136 and R167 do not say (DESIGN CHOICE, notes/assumptions/8.md). -/
def systemEntry (e : JEntry) (s : State) : State :=
  if s.journal.systemQueue.length < Config.systemDepth then
    beginWait .systemEntry [] false (s.setJournal { s.journal with systemQueue := s.journal.systemQueue ++ [e] })
  else
    let s1 := countLoss s
    raise .journalLost (lostAddress s) (produce .lossCount [(20, lossWord s1.journal)] false s1)

/-- The queue room a system entry's group waits for: 9 while the STATUS window is enabled, 8 while it is disabled. -/
def systemRoom (s : State) : Nat := if s.active.statusWin.enable then 9 else 8

/-- The head of the system append queue can be appended now. -/
def systemReady (s : State) : Bool :=
  !s.journal.systemQueue.isEmpty && atFront s .systemEntry && decide (systemRoom s ≤ pwqFree s)

/-- The head of the system append queue is appended, its room judged in the act. -/
def appendSystem (s : State) : State :=
  match s.journal.systemQueue with
  | [] => s
  | e :: rest =>
    let s1 := leaveWait .systemEntry (s.setJournal { s.journal with systemQueue := rest })
    if 0 < s1.freeEntries then appendKept e [] s1 else appendLost [] s1

/-- A system entry with no borrower, no slot and no item class. -/
def plainEntry (k : EntryKind) (r : Reading) (flags : Nat) (bar0 bar1 : Word) (amount : Word) : JEntry where
  kind := k
  itemClass := 0
  reading := r
  flags := flags
  borrower := Config.noIndex
  slot := Config.noIndex
  bar0 := bar0
  bar1 := bar1
  bar2 := 0#32
  amount := amount

end Sys2Proof.Machine
end

