-- ==== Sys2Proof/Machine/SweepUnit.lean ====
section
/-! DEFINITION. The sweep record (5.2, 5.3): starting, restarting, stopping and ending a sweep or a recovery pass. -/

namespace Sys2Proof.Machine

/-- The sweep record changed. -/
def setSweep (sw : Sweep) (s : State) : State := s.setEngine { s.engine with sweep := sw }

/-- A sweep ends (R87): the record returns to IDLE, the last-swept day takes the target's, STATUS w17 is written and
SWEEP_DONE raised. The record keeps the cursor and the target it ended with (DEDUCED, notes/assumptions/20.md). -/
def sweepEnd (s : State) : State :=
  let sw := s.engine.sweep
  let day := match sw.target with
    | some t => t.day
    | none => sw.lastSwept
  let sw1 : Sweep := { sw with state := .idle, recovery := false, lastSwept := day }
  let s1 := s.setEngine { s.engine with sweep := sw1, sweepWord := sweepWordOf sw1 }
  raise .sweepDone 0 (produce .sweepEnd [(17, sweepWordOf sw1)] false s1)

/-- A sweep whose cursor has reached the slot count ends. -/
def endIfDone (s : State) : State :=
  if s.engine.sweep.state = .running && decide (s.active.loanCount ≤ s.engine.sweep.cursor) then sweepEnd s else s

/-- A sweep or a recovery pass is started in IDLE (R81, R88). -/
def sweepBegin (target : Option Instant) (recovery : Bool) (s : State) : State :=
  endIfDone (setSweep { s.engine.sweep with
    state := .running, cursor := 0, target := target, marks := 0, recovery := recovery, restarted := false } s)

/-- A running or paused sweep restarts from slot 0 (R81). -/
def sweepRestart (target : Option Instant) (s : State) : State :=
  endIfDone (setSweep { s.engine.sweep with
    state := .running, cursor := 0, target := target, restarted := true } s)

/-- A rollover notice starts the sweep, or restarts one that is RUNNING or PAUSED (R81). -/
def rolloverNotice (i : Instant) (s : State) : State :=
  if s.engine.sweep.state = .idle then sweepBegin (some i) false s else sweepRestart (some i) s

/-- A notice is sent when the part is running in SERVICE mode and the day is later than the last-swept day (R51). -/
def sendNotice (i : Instant) (s : State) : State :=
  if s.running && s.service && decide (s.engine.sweep.lastSwept < i.day) then rolloverNotice i s else s

/-- The recovery pass starts, with the clock as its target when the clock is valid (R88). -/
def recoveryPass (s : State) : State :=
  sweepBegin (if s.calendar.valid then some s.reading.instant else none) true s

/-- A RUNNING or PAUSED sweep is stopped by MAINTENANCE (R81). -/
def sweepStop (s : State) : State :=
  if s.engine.sweep.state = .idle then s
  else setSweep { s.engine.sweep with state := .idle, cursor := 0, target := none, recovery := false } s

/-- Free journal room is reported to the engine: a PAUSED sweep returns to RUNNING (R85). -/
def reportRoom (s : State) : State :=
  if s.engine.sweep.state = .paused then setSweep { s.engine.sweep with state := .running } s else s

end Sys2Proof.Machine
end

