-- ==== Sys2Proof/Machine/Adoption.lean ====
section
/-! DEFINITION. Adoption requests, the judgement of a candidate and the adoption (10.2), with the list load of the
Closed-Date Table (R57). -/

namespace Sys2Proof.Machine

/-- A list load begins, or begins again, at word 0 (R57). -/
def beginLoad (s : State) : State := s.setCalendar { s.calendar with load := some 0 }

/-- The copy cleared without reading. -/
def clearTable (s : State) : State :=
  s.setCalendar { s.calendar with table := List.replicate 61 0#32, load := none }

/-- The CALENDAR descriptor's effect at an adoption (R57). The base moves when its field changes, also in the bits below the
size that R156 ignores: R57 says "moves its base", makes no load for a descriptor left as it was, and does not say which holds
for those bits (DESIGN CHOICE, notes/assumptions/35.md). -/
def adoptCalendar (old new : Window) (s : State) : State :=
  if !new.enable then (if old.enable then clearTable s else s)
  else if !old.enable || old.base ≠ new.base then beginLoad s
  else s

/-- The effect of an adoption on the sweep (R81, R88). -/
def adoptSweep (old new : Profile) (s : State) : State :=
  if old.mode = .service && new.mode = .maintenance then sweepStop s
  else if old.mode = .maintenance && new.mode = .service then recoveryPass s
  else if (old.loanWin ≠ new.loanWin || old.borrowerWin ≠ new.borrowerWin) && s.engine.sweep.state ≠ .idle then
    sweepRestart s.engine.sweep.target s
  else s

/-- The slot state map is emptied by a change of the mode or of the LOAN descriptor (R7). -/
def adoptMap (old new : Profile) (s : State) : State :=
  if old.mode ≠ new.mode || old.loanWin ≠ new.loanWin then s.setEngine { s.engine with stateMap := [] } else s

/-- A change that enables or replaces the JOURNAL window reports free room (R138). -/
def adoptJournal (old new : Window) (s : State) : State :=
  if old ≠ new && new.enable then reportRoom s else s

/-- The line when the STATUS window is disabled: status groups still waiting are written nowhere (R46, R176). The groups of the
act being made are the last `fresh` ones. -/
def StorePath.withoutStatus (p : StorePath) : StorePath :=
  { p with
    waiting := keepWaiting (fun g => g.owner.builtLater) false p.waiting
    fresh := ((p.waiting.drop (p.waiting.length - p.fresh)).filter fun g => g.owner.builtLater).length }

/-- The waiting groups at an adoption. -/
def adoptWaiting (new : Window) (s : State) : State := if new.enable then s else s.setPath s.path.withoutStatus

/-- The two groups of an adoption that enables the STATUS window or moves its aligned base (R176). They stand behind the
adoption's other groups, the PROFILE_ADOPT entry's with its head mirror among them, and follow what those write (`follow`). -/
def adoptStatus (old new : Window) (s : State) : State :=
  if new.enable && (!old.enable || old.aligned ≠ new.aligned) then
    let s1 := produce .adoption (statusWords s [0, 1, 2, 10, 11, 12, 13, 14, 15, 16, 17]) true s
    produce .adoption (statusWords s [18, 19, 20, 21, 22, 23, 24, 25, 26, 27, 28, 29, 30, 31]) true s1
  else s

/-- An adoption that clears the sounder enable ends the pattern playing (R188). -/
def adoptSounder (new : Profile) (s : State) : State := if new.sounderEnable then s else silenceSounder s

/-- PROFILE_CLAMPED, once for the whole set (R171). -/
def raiseClamped (made : Bool) (s : State) : State := if made then raise .profileClamped 0 s else s

/-- The effects of Table 10-3. -/
def adoptEffects (old new : Profile) (s : State) : State :=
  adoptJournal old.journalWin new.journalWin (adoptCalendar old.calendarWin new.calendarWin
    (adoptSweep old new (adoptMap old new (adoptWaiting new.statusWin s))))

/-- The PROFILE_ADOPT entry (Table 8-3). -/
def adoptEntry (p : Profile) (clamped : Bool) (r : Reading) : JEntry :=
  plainEntry .profileAdopt r (2048 * p.mode.bit + 4096 * flag clamped) 0#32 0#32 p.generation

/-- The adoption of a candidate's words, one act (R175). -/
def adopt (ws : List Word) (s : State) : State :=
  let old := s.active
  let written := readProfile ws
  let new := written.clamp
  let s1 := s.setProfile { s.profile with
    active := new, candidate := none, outcome := .adopted, defaultInForce := false }
  let s2 := adoptEffects old new (raiseClamped written.clampsMade s1)
  let s3 := reportProfile s s2
  let s4 := raise .profileAdopted 0 (systemEntry (adoptEntry new written.clampsMade s3.reading) s3)
  adoptStatus old.statusWin new.statusWin (adoptSounder new (judgeLow s4))

/-- A request or a candidate is rejected: PROFILE_REJECTED, the outcome kept, any candidate discarded. -/
def rejectProfile (o : AdoptionOutcome) (s : State) : State :=
  raise .profileRejected 0 (reportProfile s (s.setProfile { s.profile with candidate := none, outcome := o }))

/-- The candidate's clamped JOURNAL descriptor differs from the active one. -/
def changesJournal (s : State) (ws : List Word) : Bool := (readProfile ws).clamp.journalWin ≠ s.active.journalWin

/-- The conditions under which a candidate takes effect (R174). -/
def candidateReady (s : State) (ws : List Word) : Bool :=
  s.running && s.visit.visit.isNone && s.engine.crq.isEmpty && s.engine.op.isNone &&
    (!changesJournal s ws || s.upload.state = .idle)

/-- The waiting candidate is judged (R174). -/
def judgeCandidate (s : State) : State :=
  match s.profile.candidate with
  | none => s
  | some ws =>
    if !candidateReady s ws then s
    else if changesJournal s ws && s.journal.head ≠ s.journal.tail then rejectProfile .rejectedJournal s
    else adopt ws s

/-- An adoption request, made by the write of word 127 once its lanes are in the shadow (R173). -/
def requestAdoption (s : State) : State :=
  if profileGood s.profile.shadow then
    judgeCandidate (reportProfile s (s.setProfile { s.profile with candidate := some s.profile.shadow }))
  else rejectProfile .rejectedCheck s

end Sys2Proof.Machine
end

