-- ==== Sys2Proof/Machine/OpenDays.lean ====
section
/-! DEFINITION. The Calendar Unit's arithmetic: dates (R53, R54), open days (R55, R56, R59), due instants (Chapter 4) and
fines (R76 to R80). -/

namespace Sys2Proof.Machine

/-! ### Dates -/

/-- Every year of 2000..2099 divisible by 4 is a leap year. -/
def leapYear (y : Nat) : Bool := y % 4 = 0

/-- The length of a year. -/
def yearLength (y : Nat) : Nat := if leapYear y then 366 else 365

/-- The lengths of the months, January first (Table 3-3). -/
def monthLengths (y : Nat) : List Nat :=
  [31, if leapYear y then 29 else 28, 31, 30, 31, 30, 31, 31, 30, 31, 30, 31]

/-- The days of a year before month `m` (1..12). -/
def daysBefore (y m : Nat) : Nat := ((monthLengths y).take (m - 1)).sum

/-- The day number of a date (R53). -/
def dayNumber (y m d : Nat) : Nat := 365 * (y - 2000) + (y - 2000 + 3) / 4 + daysBefore y m + (d - 1)

/-- The weekday of a day number, Monday 0 (R53). -/
def weekday (n : Nat) : Nat := (n + 5) % 7

/-- Year lengths subtracted from 2000 upward: the year reached and the remainder. -/
def subYears : Nat → Nat → Nat → Nat × Nat
  | 0, y, n => (y, n)
  | fuel + 1, y, n => if yearLength y ≤ n then subYears fuel (y + 1) (n - yearLength y) else (y, n)

/-- Month lengths subtracted from January upward: the month reached (1..12) and the remainder. -/
def subMonths : List Nat → Nat → Nat → Nat × Nat
  | [], m, n => (m, n)
  | l :: rest, m, n => if l ≤ n then subMonths rest (m + 1) (n - l) else (m, n)

/-- A calendar date. -/
structure Date where
  year : Nat
  month : Nat
  dayOfMonth : Nat
  deriving DecidableEq, Repr

/-- The date of a day number (R54). -/
def dateOf (n : Nat) : Date :=
  let yr := subYears 100 2000 n
  let mo := subMonths (monthLengths yr.1) 1 yr.2
  ⟨yr.1, mo.1, mo.2 + 1⟩

/-! ### Open days -/

/-- The dates in force of a Closed-Date Table copy (R56): the entries within the count, those above the calendar ignored. -/
def closedDates (table : List Word) : List Nat :=
  (((table.drop 1).take (min (nth table 0).toNat 60)).map fun w => w.toNat).filter fun d => d ≤ Config.lastDay

/-- What the Calendar Unit answers from: the weekly hours and the closed dates of one snapshot (R59). -/
structure OpenCal where
  hours : List DayHours
  closed : List Nat
  deriving DecidableEq, Repr

/-- The hours of a day's weekday. -/
def OpenCal.hoursOf (c : OpenCal) (d : Nat) : DayHours := c.hours.getD (weekday d) ⟨0, 0⟩

/-- A day is open when its weekday's closing minute is greater than its opening minute and it is not in the table. -/
def OpenCal.isOpen (c : OpenCal) (d : Nat) : Bool :=
  decide ((c.hoursOf d).opening < (c.hoursOf d).closing) && !c.closed.contains d

/-- The open days among the `n` days from `d` on. -/
def OpenCal.countOpen (c : OpenCal) (d : Nat) : Nat → Nat
  | 0 => 0
  | n + 1 => flag (c.isOpen (d + n)) + c.countOpen d n

/-- The first open day among the `n` days from `d` on, none beyond the calendar. -/
def OpenCal.firstOpen (c : OpenCal) : Nat → Nat → Option Nat
  | _, 0 => none
  | d, n + 1 => if Config.lastDay < d then none else if c.isOpen d then some d else c.firstOpen (d + 1) n

/-- The last open day among the `n` days of which `d` is the last. -/
def OpenCal.lastOpen (c : OpenCal) : Nat → Nat → Option Nat
  | _, 0 => none
  | d, n + 1 => if c.isOpen d then some d else c.lastOpen (d - 1) n

/-! ### Due instants -/

/-- The answer to a due request (Table 4-2). -/
inductive DueResult where
  | due (i : Instant) (noOpenDay shortened : Bool)
  | dateLimit
  | expiryNear
  deriving DecidableEq, Repr

/-- The due minute of a day loan (R68). -/
def OpenCal.dueMinute (c : OpenCal) (d : Nat) : Nat := if c.isOpen d then (c.hoursOf d).closing else Config.lastMinute

/-- The target day T of a day loan (R65). -/
def targetDay (loanDay period : Nat) : Nat := min (loanDay + period) Config.lastDay

/-- The due day the forward search gives, with NO_OPEN_DAY (R66). -/
def OpenCal.forwardDue (c : OpenCal) (target : Nat) : Nat × Bool :=
  match c.firstOpen target 14 with
  | some d => (d, false)
  | none => (target, true)

/-- The day-loan computation (R65 to R68). -/
def OpenCal.dayLoan (c : OpenCal) (loanDay period expiry : Nat) (notPastExpiry : Bool) : DueResult :=
  if loanDay = Config.lastDay then .dateLimit
  else
    let f := c.forwardDue (targetDay loanDay period)
    if notPastExpiry && decide (expiry < f.1) then
      match c.lastOpen (min expiry f.1) (min expiry f.1 - loanDay) with
      | some d => .due ⟨d, c.dueMinute d⟩ false true
      | none => .expiryNear
    else .due ⟨f.1, c.dueMinute f.1⟩ f.2 false

/-- An instant as minutes from day 0, minute 0. -/
def Instant.minutes (i : Instant) : Nat := 1440 * i.day + i.minute

/-- The instant a count of minutes from day 0 reaches. -/
def ofMinutes (n : Nat) : Instant := ⟨n / 1440, n % 1440⟩

/-- The last instant of the calendar, in minutes. -/
def lastInstant : Nat := 1440 * Config.lastDay + Config.lastMinute

/-- The closing instant of a day, which only an open day has (R62). -/
def OpenCal.closing (c : OpenCal) (d : Nat) : Option Nat :=
  if c.isOpen d then some (1440 * d + (c.hoursOf d).closing) else none

/-- The latest closing instant within `lo..hi` of the `n` days of which `d` is the last (R71). -/
def OpenCal.lastClosing (c : OpenCal) (lo hi : Nat) : Nat → Nat → Option Nat
  | _, 0 => none
  | d, n + 1 =>
    match c.closing d with
    | some k => if lo ≤ k && k ≤ hi then some k else c.lastClosing lo hi (d - 1) n
    | none => c.lastClosing lo hi (d - 1) n

/-- The earliest closing instant after `x` of the `n` days from `d` on (R72). -/
def OpenCal.nextClosing (c : OpenCal) (x : Nat) : Nat → Nat → Option Nat
  | _, 0 => none
  | d, n + 1 =>
    if Config.lastDay < d then none
    else
      match c.closing d with
      | some k => if x < k then some k else c.nextClosing x (d + 1) n
      | none => c.nextClosing x (d + 1) n

/-- The candidate of an hour loan falls within the hours of an open day, its opening and closing minutes included (R70). -/
def OpenCal.inHours (c : OpenCal) (i : Instant) : Bool :=
  c.isOpen i.day && decide ((c.hoursOf i.day).opening ≤ i.minute) && decide (i.minute ≤ (c.hoursOf i.day).closing)

/-- The due instant of an hour loan from its candidate, in minutes, with NO_OPEN_DAY (R70 to R72). -/
def OpenCal.hourDue (c : OpenCal) (now x minLength : Nat) : Nat × Bool :=
  if c.inHours (ofMinutes x) then (x, false)
  else
    match c.lastClosing (max (now + 1) (now + minLength)) x (x / 1440) (x / 1440 - now / 1440 + 1) with
    | some k => (k, false)
    | none =>
      match c.nextClosing x (x / 1440) 14 with
      | some k => (k, false)
      | none => (x, true)

/-- The hour-loan computation (R69 to R73). -/
def OpenCal.hourLoan (c : OpenCal) (now : Instant) (period minLength expiry : Nat) (notPastExpiry : Bool) : DueResult :=
  if now.minutes = lastInstant then .dateLimit
  else
    let r := c.hourDue now.minutes (min (now.minutes + 60 * period) lastInstant) minLength
    if notPastExpiry && decide (expiry < (ofMinutes r.1).day) then .expiryNear
    else .due (ofMinutes r.1) r.2 false

/-- The due computation under a unit, the class's period clamped for that unit (R64). -/
def OpenCal.due (c : OpenCal) (hours : Bool) (now : Instant) (period minLength expiry : Nat) (notPastExpiry : Bool) :
    DueResult :=
  if hours then c.hourLoan now (clampTo 1 72 period) minLength expiry notPastExpiry
  else c.dayLoan now.day (clampTo 1 365 period) expiry notPastExpiry

/-! ### Fines -/

/-- The chargeable days of a day loan (R77). -/
def OpenCal.chargeableDays (c : OpenCal) (due ret : Instant) (grace : Nat) : Nat :=
  c.countOpen (due.day + 1) (ret.day - due.day) - grace

/-- The chargeable hours of an hour loan (R78). -/
def chargeableHours (due ret : Instant) (grace : Nat) : Nat :=
  let late := ret.minutes - due.minutes
  if late ≤ grace then 0 else (late - grace + 59) / 60

/-- The fine of a return (R76, R79): the chargeable count times the rate, replaced by the cap when it exceeds it. -/
def OpenCal.fine (c : OpenCal) (hourLoan : Bool) (due ret : Instant) (grace rate cap : Nat) : Nat :=
  min cap (rate * (if hourLoan then chargeableHours due ret (min grace 59)
    else c.chargeableDays due ret (min grace 7)))

end Sys2Proof.Machine
end

