-- ==== Sys2Proof/Machine/SlipText.lean ====
section
/-! DEFINITION. The text of a slip (R123 to R125), as printable bytes. -/

namespace Sys2Proof.Machine

/-- The byte of a decimal digit; a value above 9 is printed as "?". -/
def digitByte (n : Nat) : Byte := if n ≤ 9 then byte (0x30 + n) else 0x3F#8

/-- Two decimal digits. -/
def twoDigits (n : Nat) : List Byte := [digitByte (n / 10 % 10), digitByte (n % 10)]

/-- Four decimal digits. -/
def fourDigits (n : Nat) : List Byte := twoDigits (n / 100) ++ twoDigits (n % 100)

/-- A number from 1 to 16 without a leading zero. -/
def shortNumber (n : Nat) : List Byte := if n < 10 then [digitByte n] else twoDigits n

/-- The three letters of a month (1..12): JAN, FEB, MAR, APR, MAY, JUN, JUL, AUG, SEP, OCT, NOV, DEC. -/
def monthName (m : Nat) : List Byte :=
  ([[0x4A, 0x41, 0x4E], [0x46, 0x45, 0x42], [0x4D, 0x41, 0x52], [0x41, 0x50, 0x52], [0x4D, 0x41, 0x59], [0x4A, 0x55, 0x4E],
    [0x4A, 0x55, 0x4C], [0x41, 0x55, 0x47], [0x53, 0x45, 0x50], [0x4F, 0x43, 0x54], [0x4E, 0x4F, 0x56],
    [0x44, 0x45, 0x43]] : List (List Byte)).getD (m - 1) []

/-- "dd-MMM". -/
def dayMonth (d : Nat) : List Byte := twoDigits (dateOf d).dayOfMonth ++ [0x2D#8] ++ monthName (dateOf d).month

/-- "dd-MMM-yyyy". -/
def fullDate (d : Nat) : List Byte := dayMonth d ++ [0x2D#8] ++ fourDigits (dateOf d).year

/-- "hh:mm". -/
def clockTime (minute : Nat) : List Byte := twoDigits (minute / 60) ++ [0x3A#8] ++ twoDigits (minute % 60)

/-- A space or a null byte. -/
def blankByte (b : Byte) : Bool := b = 0x20#8 || b = 0x00#8

/-- Trailing space and null bytes removed. -/
def trimEnd (bs : List Byte) : List Byte := (bs.reverse.dropWhile blankByte).reverse

/-- A byte outside 0x20..0x7E is printed as "?". -/
def printable (b : Byte) : Byte := if 0x20 ≤ b.toNat ∧ b.toNat ≤ 0x7E then b else 0x3F#8

/-- Text of the header or of a title as it is printed. -/
def printed (bs : List Byte) : List Byte := (trimEnd bs).map printable

/-- A line with its line feed. -/
def line (bs : List Byte) : List Byte := bs ++ [0x0A#8]

/-- "DATE ". -/
def txtDate : List Byte := [0x44, 0x41, 0x54, 0x45, 0x20]

/-- "CARD ....". -/
def txtCard : List Byte := [0x43, 0x41, 0x52, 0x44, 0x20, 0x2E, 0x2E, 0x2E, 0x2E]

/-- "ITEM". -/
def txtItem : List Byte := [0x49, 0x54, 0x45, 0x4D]

/-- "R ". -/
def txtRenewal : List Byte := [0x52, 0x20]

/-- Two spaces. -/
def txtIndent : List Byte := [0x20, 0x20]

/-- " DUE ". -/
def txtDue : List Byte := [0x20, 0x44, 0x55, 0x45, 0x20]

/-- "CARD EXPIRES ". -/
def txtExpires : List Byte := [0x43, 0x41, 0x52, 0x44, 0x20, 0x45, 0x58, 0x50, 0x49, 0x52, 0x45, 0x53, 0x20]

/-- "ITEMS ". -/
def txtItems : List Byte := [0x49, 0x54, 0x45, 0x4D, 0x53, 0x20]

/-- "CONTINUED". -/
def txtContinued : List Byte := [0x43, 0x4F, 0x4E, 0x54, 0x49, 0x4E, 0x55, 0x45, 0x44]

/-- The form feed that ends a slip. -/
def formFeed : Byte := 0x0C#8

/-- The opening lines (R123); `w2` is the patron's w2, whose high half holds digit places 9 to 12 of the card number. -/
def openingLines (header : List Byte) (date : Reading) (w2 : Word) : List Byte :=
  line (printed header) ++ line (txtDate ++ fullDate date.day ++ [0x20#8] ++ clockTime date.minute) ++
    line (txtCard ++ [digitByte (field w2 28 4), digitByte (field w2 24 4), digitByte (field w2 20 4), digitByte (field w2 16 4)]) ++
    line []

/-- A title as it is printed: "ITEM" when each of its bytes is a space or null (R124). -/
def titleText (title : List Byte) : List Byte := if title.all blankByte then txtItem else printed title

/-- The two lines of a list entry (R124). -/
def entryLines (e : SlipEntry) (title : List Byte) : List Byte :=
  line ((if e.renewal then txtRenewal else []) ++ titleText title) ++
    line (txtIndent ++ e.tail.map digitByte ++ txtDue ++
      (if e.hourLoan then clockTime e.due.minute ++ [0x20#8] ++ dayMonth e.due.day else fullDate e.due.day))

/-- The closing lines (R125); `w0` is the patron's w0, which holds the card-expiry day. -/
def closingLines (entries : List SlipEntry) (continued : Bool) (w0 : Word) : List Byte :=
  (if entries.any (fun e => e.shortened) then line (txtExpires ++ fullDate (min (field w0 16 16) Config.lastDay)) else []) ++
    line (txtItems ++ shortNumber entries.length) ++ (if continued then line txtContinued else [])

/-- The text of a slip, with its form feed. `titles` are the title bytes of the entries, in list order. -/
def slipText (j : SlipJob) (date : Reading) (w0 w2 : Word) (titles : List (List Byte)) : List Byte :=
  openingLines j.header date w2 ++ (j.entries.zip titles).flatMap (fun p => entryLines p.1 p.2) ++
    closingLines j.entries j.continued w0 ++ [formFeed]

end Sys2Proof.Machine
end

