-- ==== Sys2Proof/Machine/VisitOps.lean ====
section
/-! DEFINITION. The Visit Unit (Chapter 7): the idle timer, opening and closing a visit, the slip list, the Slip Queue and
the printer line. -/

namespace Sys2Proof.Machine

/-! ### The idle timer (R119) -/

/-- The timer a load gives: the visit idle timeout, or STOPPED when that is 0. -/
def timerLoad (p : Profile) : Option Nat := if p.idleTimeout = 0 then none else some p.idleTimeout

/-- The timer loaded. -/
def loadTimer (s : State) : State := s.setVisit { s.visit with idleTimer := timerLoad s.active }

/-- The timer reloaded when a visit is open. -/
def reloadTimer (s : State) : State := if s.visit.visit.isSome then loadTimer s else s

/-- A visit is open and its patron is the borrower. -/
def State.visiting (s : State) (borrower : Nat) : Bool :=
  match s.visit.visit with
  | some v => v.patron = borrower
  | none => false

/-! ### Slips (R122) -/

/-- A slip of the queue is in COMPOSING. -/
def composes (v : VisitUnit) : Bool := (oldestJob v.slips).isSome

/-- The slip asked for from a list: its copies, its addresses and, when no other slip composes, its beginning. -/
def newJob (s : State) (v : Visit) (continued : Bool) : SlipJob where
  entries := v.list
  patron := v.patron
  openedAt := v.openedAt
  continued := continued
  header := s.active.header
  patronAddr := s.active.borrowerAddr v.patron 0
  slotAddrs := v.list.map fun e => s.active.loanAddr e.slot 0
  words := []
  begun := if composes s.visit then none else some s.reading

/-- A slip is asked for: it joins the queue in COMPOSING, or is dropped when the queue holds 4 slips. -/
def askSlip (v : Visit) (continued : Bool) (s : State) : State :=
  if Config.slipDepth ≤ s.visit.slips.length then raise .slipDropped 0 s
  else s.setVisit { s.visit with slips := s.visit.slips ++ [.composing (newJob s v continued)] }

/-- A slip is asked for when the slip enable is set; otherwise the list is discarded. -/
def askSlipIfEnabled (v : Visit) (continued : Bool) (s : State) : State :=
  if s.active.slipEnable then askSlip v continued s else s

/-! ### The printer line (R126, R127) -/

/-- The printer goes on from IDLE: a READY slip at the head of the queue is started and takes its rate, its first byte beginning
unless PRN_BUSY is asserted; with PRN_PAPER_OUT asserted it waits for paper first. -/
def startPrinter (s : State) : State :=
  match s.visit.printer, s.visit.slips with
  | .idle, .ready _ :: _ =>
    if !s.running then s
    else if s.pins.prnPaperOut then
      raise .paperOut 0 (s.setVisit { s.visit with printer := .paperWait, lineRate := s.active.printerRate })
    else
      s.setVisit { s.visit with
        printer := .sending 0, lineRate := s.active.printerRate, byteInProgress := !s.pins.prnBusy }
  | _, _ => s

/-! ### Composition (R122 to R125) -/

/-- The title bytes of the listed slot at place `i`: its w8 to w12, as they were read. -/
def titleRead (ws : List Word) (i : Nat) : List Byte := textOf ((ws.drop (3 + 5 * i)).take 5)

/-- The date a slip prints: the opened-at instant, or the clock as composition began when that reading was not valid. -/
def slipDate (j : SlipJob) : Reading := if j.openedAt.valid then j.openedAt else j.begun.getD j.openedAt

/-- The text of a slip, from the words its reads have returned. -/
def composeText (j : SlipJob) : List Byte :=
  slipText j (slipDate j) (nth j.words 0) (nth j.words 2) ((List.range j.slotAddrs.length).map (titleRead j.words))

/-- The next slip in COMPOSING begins its composition. -/
def beginNext (r : Reading) : List Slip → List Slip
  | [] => []
  | .composing j :: rest => .composing { j with begun := some r } :: rest
  | .ready t :: rest => .ready t :: beginNext r rest

/-- The oldest slip in COMPOSING becomes READY with its text, and the next one begins. -/
def finishJob (text : List Byte) (r : Reading) : List Slip → List Slip
  | [] => []
  | .composing _ :: rest => .ready text :: beginNext r rest
  | .ready t :: rest => .ready t :: finishJob text r rest

/-- The oldest slip in COMPOSING changed. -/
def setJob (j : SlipJob) : List Slip → List Slip
  | [] => []
  | .composing _ :: rest => .composing j :: rest
  | .ready t :: rest => .ready t :: setJob j rest

/-- The slip is finished, and the printer started when it is idle. -/
def slipComposed (j : SlipJob) (s : State) : State :=
  reportVisit s (startPrinter (s.setVisit { s.visit with slips := finishJob (composeText j) s.reading s.visit.slips }))

/-- A composition read returns: its word is kept, and the last one finishes the slip (R122). -/
def slipRead (j : SlipJob) (w : Word) (s : State) : State :=
  let j1 : SlipJob := { j with words := j.words ++ [w] }
  if j1.words.length < (jobAddrs j).length then s.setVisit { s.visit with slips := setJob j1 s.visit.slips }
  else slipComposed j1 s

/-! ### Opening and closing (R115, R116, R120) -/

/-- STATUS w10 with index 65,535, standing NONE and no verdict bits. -/
def closedVerdict : Word := verdictWordOf Config.noIndex 0 0

/-- A close by the idle timer writes 65,535 to STATUS w0 and to its copy; a close by a write leaves w0 to that write. -/
def closeWord (byTimer : Bool) (s : State) : State :=
  if byTimer then
    produce .patronWord [(0, 65535#32)] true (s.setVisit { s.visit with patronCopy := 65535#32 })
  else s

/-- The visit record returns to NONE. -/
def clearVisit (s : State) : State := s.setVisit { s.visit with visit := none, idleTimer := none }

/-- At an orderly stop an open visit is discarded once the engine has settled its work (R130). -/
def settleVisit (s : State) : State := if s.path.state = .stopping && s.engine.op.isNone then clearVisit s else s

/-- An open visit closes, one act of the Visit Unit, in the order of R120. -/
def closeAct (byTimer : Bool) (v : Visit) (s : State) : State :=
  let s1 := if v.list.isEmpty then s else askSlipIfEnabled v false s
  let s2 := closeWord byTimer (writePatronStatus .visitClose closedVerdict 0#32 (clearVisit s1))
  reportVisit s (raise .visitClosed 0 s2)

/-- The open visit closes, when there is one, and a waiting candidate is judged (R120, R174). -/
def closeVisit (byTimer : Bool) (s : State) : State :=
  match s.visit.visit with
  | none => s
  | some v => judgeCandidate (closeAct byTimer v s)

/-- A PATRON_OPEN entry joins the CRQ and claims its borrower (R9, R10). -/
def queuePatronOpen (b : Nat) (s : State) : State :=
  claim (.borrower b) (s.setEngine { s.engine with crq := s.engine.crq ++ [.patronOpen b] })

/-- The visit record of a visit that opens. -/
def newVisit (b : Nat) (r : Reading) : Visit := ⟨b, .pending, r, [], false⟩

/-- A visit opens for a borrower (R115). -/
def openVisit (b : Nat) (s : State) : State :=
  queuePatronOpen b (reportVisit s (loadTimer (s.setVisit { s.visit with visit := some (newVisit b s.reading) })))

/-- The standing of the open visit changes, and the visit word with it. -/
def setStanding (st : Standing) (s : State) : State :=
  match s.visit.visit with
  | some v => reportVisit s (s.setVisit { s.visit with visit := some { v with standing := st } })
  | none => s

/-- The open visit is refreshed (R116). -/
def refreshVisit (b : Nat) (s : State) : State := queuePatronOpen b (loadTimer (setStanding .pending s))

/-! ### The slip list (R121) -/

/-- An entry joins the list of the open visit; the seventeenth splits the list. During an orderly stop no slip is asked for
(R130). -/
def appendGrant (e : SlipEntry) (borrower : Nat) (s : State) : State :=
  match s.visit.visit with
  | none => s
  | some v =>
    if v.patron ≠ borrower then s
    else if v.list.length < Config.slipListMax then
      reportVisit s (s.setVisit { s.visit with visit := some { v with list := v.list ++ [e] } })
    else
      let s1 := if s.running then askSlipIfEnabled v true s else s
      reportVisit s (s1.setVisit { s1.visit with visit := some { v with list := [e], continued := true } })

/-! ### REPRINT (R129) -/

/-- A READY copy joins the Slip Queue, and the printer is started when it is idle: two changes of the visit word. -/
def queueReady (t : List Byte) (s : State) : State :=
  let s1 := reportVisit s (s.setVisit { s.visit with slips := s.visit.slips ++ [.ready t] })
  reportVisit s1 (startPrinter s1)

/-- A REPRINT taken from the command word at address `a`. -/
def reprintCommand (a : Addr) (s : State) : State :=
  match s.visit.lastSlip with
  | none => badRequest a s
  | some t => if Config.slipDepth ≤ s.visit.slips.length then badRequest a s else queueReady t s

/-! ### The slip being sent -/

/-- The form feed of the head slip has been sent: the printer returns to IDLE, and from there starts the next READY slip at
once (R128), two changes of the visit word. -/
def slipDone (s : State) : State :=
  match s.visit.slips with
  | .ready t :: rest =>
    let s1 := reportVisit s (s.setVisit { s.visit with
      slips := rest, lastSlip := some t, printer := .idle, byteInProgress := false })
    reportVisit s1 (startPrinter s1)
  | _ => s

/-- The length of the slip at the head of the queue. -/
def headLength (v : VisitUnit) : Nat :=
  match v.slips with
  | .ready t :: _ => t.length
  | _ => 0

end Sys2Proof.Machine
end

