-- ==== Sys2Proof/Machine/Verdicts.lean ====
section
/-! DEFINITION. A borrower's standing (2.3, 2.4), the refusal reasons (Table 1-8) and what the records an operation fetched
say. -/

namespace Sys2Proof.Machine

/-! ### The fine latch and the verdict -/

/-- A re-evaluation of the fine latch (Table 2-4). -/
def latchAfter (c : BorrowerClass) (fines : Nat) (start : Bool) : Bool :=
  if c.fineHigh = 0 then false
  else if c.fineHigh ≤ fines then true
  else if !c.hysteresis then false
  else if fines ≤ c.fineLow then false
  else start

/-- The verdict of Table 2-3 on given counts and a given latch. -/
def verdictOf (c : BorrowerClass) (b : BorrowerRec) (loansOut overdueCount : Nat) (latch : Bool) (r : Reading) : Verdict where
  expired := r.valid && decide (b.expiry + c.cardGrace < r.day)
  manual := b.manualBlock
  fines := latch
  overdue := decide (c.overdueLimit < overdueCount)
  limit := decide (c.loanLimit ≤ loansOut)

/-- The fine latch events of a group that writes w3 (R32). -/
def latchEvents (c : BorrowerClass) (before after : Bool) : List Event :=
  if !before && after then [.fineBlockSet]
  else if before && !after && c.reportBoth then [.fineBlockCleared]
  else []

/-- COUNT_CLAMPED, once, when a count was clamped (R34). -/
def clampEvent (clamped : Bool) : List Event := if clamped then [.countClamped] else []

/-- COUNT_SUSPECT when an operation that changes counts has no borrower. -/
def suspectEvent (borrower : Option Nat) : List Event := if borrower.isNone then [.countSuspect] else []

/-! ### Refusal reasons (Table 1-8) -/

/-- CLOCK_UNSET. -/
abbrev reasonClockUnset : Nat := 1
/-- NO_VISIT. -/
abbrev reasonNoVisit : Nat := 2
/-- BAD_BORROWER. -/
abbrev reasonBadBorrower : Nat := 3
/-- NOT_LOANABLE. -/
abbrev reasonNotLoanable : Nat := 4
/-- CARD_EXPIRED. -/
abbrev reasonCardExpired : Nat := 5
/-- MANUAL_BLOCK. -/
abbrev reasonManualBlock : Nat := 6
/-- FINES. -/
abbrev reasonFines : Nat := 7
/-- OVERDUE_ITEMS. -/
abbrev reasonOverdueItems : Nat := 8
/-- LOAN_LIMIT. -/
abbrev reasonLoanLimit : Nat := 9
/-- JOURNAL_FULL. -/
abbrev reasonJournalFull : Nat := 10
/-- EXPIRY_NEAR. -/
abbrev reasonExpiryNear : Nat := 11
/-- HOURS_NOT_PERMITTED. -/
abbrev reasonHoursNotPermitted : Nat := 12
/-- RENEW_LIMIT. -/
abbrev reasonRenewLimit : Nat := 13
/-- ITEM_OVERDUE. -/
abbrev reasonItemOverdue : Nat := 14
/-- DATE_LIMIT. -/
abbrev reasonDateLimit : Nat := 15
/-- INTERRUPTED. -/
abbrev reasonInterrupted : Nat := 16

/-- The reason of the first check that fails, the checks in their order. -/
def firstFailing : List (Bool × Nat) → Option Nat
  | [] => none
  | (fails, reason) :: rest => if fails then some reason else firstFailing rest

/-! ### What an operation has fetched -/

/-- The slot's status word as read. -/
def Op.status (op : Op) : StatusWord := readStatus (fetched op.slotWords 0)

/-- The borrower index as written in w1. -/
def Op.index (op : Op) : Nat := field (fetched op.slotWords 1) 0 16

/-- The item class named in w1. -/
def Op.itemNo (op : Op) : Nat := field (fetched op.slotWords 1) 16 4

/-- The barcode's digits. -/
def Op.digits (op : Op) : List Nat := barDigits (fetched op.slotWords 2) (fetched op.slotWords 3) (fetched op.slotWords 4)

/-- The due instant in w6. -/
def Op.due (op : Op) : Instant := readDue (fetched op.slotWords 6)

/-- The borrower's fields. -/
def Op.record (op : Op) : BorrowerRec :=
  readBorrower (fetched op.borrowerWords 0) (fetched op.borrowerWords 3) (fetched op.borrowerWords 4)

/-- The borrower's class. -/
def Op.cls (op : Op) (p : Profile) : BorrowerClass := p.borrowerClass op.record.cls

/-- The item's class. -/
def Op.item (op : Op) (p : Profile) : ItemClass := p.itemClass op.itemNo

/-- The latch of the first re-evaluation (R31). -/
def Op.firstLatch (op : Op) (p : Profile) : Bool := latchAfter (op.cls p) op.record.fines op.record.latch

/-- The verdict computed from the words as fetched (R29). -/
def Op.verdict (op : Op) (p : Profile) (r : Reading) : Verdict :=
  verdictOf (op.cls p) op.record op.record.loansOut op.record.overdueCount (op.firstLatch p) r

/-- A borrower word of the operation's group, when it has a borrower. -/
def Op.borrowerWord (op : Op) (n : Nat) (w : Word) : List (Nat × Word) := if op.borrower.isSome then [(n, w)] else []

/-- The journal entry of a slot operation (Table 8-3), with the barcode it fetched. -/
def Op.slotEntry (op : Op) (k : EntryKind) (slot : Nat) (r : Reading) (flags : Nat) (amount : Word) : JEntry where
  kind := k
  itemClass := op.itemNo
  reading := r
  flags := flags
  borrower := op.index
  slot := slot
  bar0 := barWord0 op.digits
  bar1 := barWord1 op.digits
  bar2 := barWord2 op.digits
  amount := amount

end Sys2Proof.Machine
end

