-- ==== Sys2Proof/Machine/Decisions.lean ====
section
/-! DEFINITION. DECIDE (R13, R22): the checks of each operation in their order, and what each outcome commits (R17 to R21,
R37, R40, R84, R89). -/

namespace Sys2Proof.Machine

/-- A plan that commits nothing. -/
def emptyPlan : Plan where
  mapState := none
  borrowerWords := []
  slotWords := []
  link := false
  status := none
  entry := none
  resolved := none
  events := []
  reason := none
  tone := none
  slip := none

/-- The Calendar Unit's snapshot (R59). -/
def State.openCal (s : State) : OpenCal := ⟨s.active.weeklyHours, closedDates s.calendar.table⟩

/-! ### LOAN -/

/-- The checks of a LOAN before its due computation (Table 1-8). A LOAN whose w1 names no borrower slot is refused with NO_VISIT
(R22). -/
def loanRefusal (s : State) (op : Op) (r : Reading) : Option Nat :=
  let p := s.active
  let v := op.verdict p r
  firstFailing
    [(!r.valid, reasonClockUnset), (op.borrower.isNone || !s.visiting op.index, reasonNoVisit),
     (!(op.item p).loanable, reasonNotLoanable),
     ((op.item p).hours && !(op.cls p).hourLoans, reasonHoursNotPermitted), (v.expired, reasonCardExpired),
     (v.manual, reasonManualBlock), (v.fines, reasonFines), (v.overdue, reasonOverdueItems), (v.limit, reasonLoanLimit),
     (decide (s.freeEntries ≤ p.reserve), reasonJournalFull)]

/-- The status word of a granted LOAN (R2, R17). -/
def lentStatus (hourLoan shortened noOpenDay : Bool) : StatusWord where
  state := .lent
  kind := 0
  reason := 0
  renewals := 0
  hourLoan := hourLoan
  shortened := shortened
  noOpenDay := noOpenDay
  lastRefused := false
  noClock := false

/-- What a granted LOAN commits (R17). -/
def loanGranted (p : Profile) (op : Op) (slot : Nat) (r : Reading) (due : Instant) (noOpenDay shortened : Bool) : Plan :=
  let b := op.record
  let out := min (b.loansOut + 1) 255
  let latch := op.firstLatch p
  let hourLoan := (op.item p).hours
  { emptyPlan with
    mapState := some .lent
    borrowerWords :=
      op.borrowerWord 3 (countsWord out b.overdueCount latch (verdictOf (op.cls p) b out b.overdueCount latch r)) ++
        op.borrowerWord 6 (put 0 16 r.day)
    slotWords := [(5, instantWord r.instant false), (6, instantWord due false), (7, 0#32)]
    link := true
    status := some (lentStatus hourLoan shortened noOpenDay).encode
    entry := some (op.slotEntry .loan slot r (flag hourLoan + 2 * flag shortened + 4 * flag noOpenDay) (instantWord due false))
    events := .requestDone :: (latchEvents (op.cls p) b.latch latch ++ clampEvent (255 < b.loansOut + 1))
    tone := some .lent
    slip := some ⟨slot, due, hourLoan, shortened, false, lastTen op.digits⟩ }

/-- The status word of a refused LOAN (R20). -/
def refusedStatus (reason : Nat) : StatusWord where
  state := .refused
  kind := 0
  reason := reason
  renewals := 0
  hourLoan := false
  shortened := false
  noOpenDay := false
  lastRefused := false
  noClock := false

/-- The REFUSAL entry of a refused request, when refusal journalling is on (R20). -/
def refusalEntry (p : Profile) (op : Op) (slot : Nat) (r : Reading) (reason : Nat) (renew : Bool) : Option JEntry :=
  if p.journalRefusals then some (op.slotEntry .refusal slot r (reason + 256 * flag renew) 0#32) else none

/-- What a refused LOAN commits (R20). -/
def loanRefused (p : Profile) (op : Op) (slot : Nat) (r : Reading) (reason : Nat) : Plan :=
  { emptyPlan with
    mapState := some .refused
    status := some (refusedStatus reason).encode
    entry := refusalEntry p op slot r reason false
    events := [.requestDone]
    reason := some reason
    tone := some .alarm }

/-- A LOAN with the answer to its due request (R63, R75). -/
def loanAnswered (s : State) (op : Op) (slot : Nat) (r : Reading) : Decided :=
  let p := s.active
  let i := op.item p
  match s.openCal.due i.hours r.instant i.period p.minHourLoan op.record.expiry (op.cls p).dueNotPastExpiry with
  | .due d noOpenDay shortened => .grant (loanGranted p op slot r d noOpenDay shortened)
  | .dateLimit => .plan (loanRefused p op slot r reasonDateLimit)
  | .expiryNear => .plan (loanRefused p op slot r reasonExpiryNear)

/-! ### RENEW -/

/-- The checks of a RENEW before its due computation (Table 1-8). -/
def renewRefusal (s : State) (op : Op) (prior : LoanState) (r : Reading) : Option Nat :=
  let p := s.active
  let v := op.verdict p r
  firstFailing
    [(!r.valid, reasonClockUnset), (op.borrower.isNone, reasonBadBorrower), (prior = .overdue, reasonItemOverdue),
     (decide ((op.item p).renewalLimit ≤ op.status.renewals), reasonRenewLimit), (v.expired, reasonCardExpired),
     (v.manual, reasonManualBlock), (v.fines, reasonFines), (v.overdue, reasonOverdueItems),
     (decide (s.freeEntries ≤ p.reserve), reasonJournalFull)]

/-- What a granted RENEW commits (R19): the later of the computed and the old due instant is kept. The old one
is written back as read under R80 (DEDUCED, notes/assumptions/28.md). -/
def renewGranted (op : Op) (slot : Nat) (r : Reading) (due : Instant) (noOpenDay shortened : Bool) : Plan :=
  let old := op.status
  let later := op.due.before due
  let kept := if later then due else op.due
  let nod := if later then noOpenDay else old.noOpenDay
  let short := if later then shortened else old.shortened
  let after := old.renewals + 1
  { emptyPlan with
    mapState := some .lent
    borrowerWords := op.borrowerWord 6 (put 0 16 r.day)
    slotWords := [(6, instantWord kept false)]
    link := true
    status := some { old with
      state := .lent, kind := 0, reason := 0, renewals := after, shortened := short, noOpenDay := nod, lastRefused := false }.encode
    entry := some (op.slotEntry .renew slot r (2 * flag short + 4 * flag nod + 16 * after) (instantWord kept false))
    events := [.requestDone]
    tone := some .lent
    slip := some ⟨slot, kept, old.hourLoan, short, true, lastTen op.digits⟩ }

/-- What a refused RENEW commits (R21). -/
def renewRefused (p : Profile) (op : Op) (slot : Nat) (prior : LoanState) (r : Reading) (reason : Nat) : Plan :=
  { emptyPlan with
    mapState := some prior
    status := some { op.status with state := prior, kind := 0, reason := reason, lastRefused := true }.encode
    entry := refusalEntry p op slot r reason true
    events := [.requestDone]
    reason := some reason }

/-- A RENEW with the answer to its due request (R64, R74). -/
def renewAnswered (s : State) (op : Op) (slot : Nat) (prior : LoanState) (r : Reading) : Decided :=
  let p := s.active
  let i := op.item p
  match s.openCal.due op.status.hourLoan r.instant i.period p.minHourLoan op.record.expiry (op.cls p).dueNotPastExpiry with
  | .due d noOpenDay shortened => .grant (renewGranted op slot r d noOpenDay shortened)
  | .dateLimit => .plan (renewRefused p op slot prior r reasonDateLimit)
  | .expiryNear => .plan (renewRefused p op slot prior r reasonExpiryNear)

/-! ### RETURN -/

/-- The fine of a RETURN, 0 with the clock invalid (R76, R80). -/
def returnFine (s : State) (op : Op) (r : Reading) : Nat :=
  let i := op.item s.active
  if r.valid then s.openCal.fine op.status.hourLoan op.due r.instant i.grace i.rate i.cap else 0

/-- What a RETURN commits with a fine (R18). -/
def returned (p : Profile) (op : Op) (slot : Nat) (prior : LoanState) (r : Reading) (fine : Nat) : Plan :=
  let b := op.record
  let out := b.loansOut - 1
  let overdues := if prior = .overdue then b.overdueCount - 1 else b.overdueCount
  let fines := min (b.fines + fine) Config.maxFines
  let latch := latchAfter (op.cls p) fines (op.firstLatch p)
  let clamped := decide (b.loansOut = 0) || (decide (prior = .overdue) && decide (b.overdueCount = 0)) ||
    decide (Config.maxFines < b.fines + fine)
  { emptyPlan with
    mapState := some .returned
    borrowerWords :=
      op.borrowerWord 3 (countsWord out overdues latch (verdictOf (op.cls p) b out overdues latch r)) ++
        op.borrowerWord 4 (word fines)
    slotWords := [(7, put 0 17 fine ||| put 17 11 r.minute)]
    link := true
    status := some { op.status with
      state := .returned, kind := 0, reason := 0, lastRefused := false, noClock := !r.valid }.encode
    entry := some (op.slotEntry .ret slot r (8 * flag (!r.valid) + 256 * flag (prior = .overdue)) (word fine))
    events := .requestDone ::
      ((if op.borrower.isSome then latchEvents (op.cls p) b.latch latch ++ clampEvent clamped else []) ++
        suspectEvent op.borrower) }

/-! ### PAYMENT and PATRON_OPEN -/

/-- What a PAYMENT commits (R37, R38). -/
def paid (p : Profile) (op : Op) (borrower amount : Nat) (r : Reading) : Plan :=
  let b := op.record
  let applied := min amount b.fines
  let fines := b.fines - applied
  let latch := latchAfter (op.cls p) fines (op.firstLatch p)
  { emptyPlan with
    borrowerWords :=
      [(3, countsWord b.loansOut b.overdueCount latch (verdictOf (op.cls p) b b.loansOut b.overdueCount latch r)),
        (4, word fines)]
    entry := some { plainEntry .payment r 0 (word (amount - applied)) 0#32 (word applied) with borrower := borrower }
    events := .requestDone :: latchEvents (op.cls p) b.latch latch }

/-- The evaluation of a PATRON_OPEN (R40, R41). -/
def patronEvaluated (p : Profile) (op : Op) (r : Reading) : Decided :=
  let b := op.record
  let v := op.verdict p r
  .patron (countsWord b.loansOut b.overdueCount (op.firstLatch p) v) v b.fines (latchEvents (op.cls p) b.latch (op.firstLatch p))

/-! ### Sweep and recovery steps -/

/-- A loan is past due against a target (Table 5-5). -/
def pastDue (st : StatusWord) (due : Instant) (target : Option Instant) : Bool :=
  match target with
  | none => false
  | some t => st.state = .lent && (if st.hourLoan then due.before t else decide (due.day < t.day))

/-- What an overdue mark commits (R84). -/
def marked (p : Profile) (op : Op) (slot : Nat) (r : Reading) : Plan :=
  let b := op.record
  let overdues := min (b.overdueCount + 1) 255
  let latch := op.firstLatch p
  { emptyPlan with
    mapState := some .overdue
    borrowerWords :=
      op.borrowerWord 3 (countsWord b.loansOut overdues latch (verdictOf (op.cls p) b b.loansOut overdues latch r))
    link := true
    status := some { op.status with state := .overdue, kind := 0 }.encode
    entry := some (op.slotEntry .overdueMark slot r (flag op.status.hourLoan) (instantWord op.due false))
    events :=
      (if op.borrower.isSome then latchEvents (op.cls p) b.latch latch ++ clampEvent (255 < b.overdueCount + 1) else []) ++
        suspectEvent op.borrower }

/-- What an interrupted resolution commits (R89). -/
def resolution (op : Op) : Plan :=
  { emptyPlan with
    mapState := some .refused
    status := some { op.status with state := .refused, kind := 0, reason := reasonInterrupted }.encode
    resolved := some op.status.kind
    events := [.countSuspect] }

/-- A step's classification of its slot (Table 5-5); none is no change. -/
def stepOutcome (s : State) (op : Op) (slot : Nat) (target : Option Instant) (r : Reading) : Option Decided :=
  if pastDue op.status op.due target then some (.plan (marked s.active op slot r))
  else if op.status.state = .inProgress && s.engine.sweep.recovery then some (.plan (resolution op))
  else none

/-! ### DECIDE -/

/-- What the checks of an operation come to: no change, a decision, or a question to the Calendar Unit. -/
inductive Judged where
  | noChange
  | decided (d : Decided)
  | ask
  deriving DecidableEq, Repr

/-- The checks of an operation on entering DECIDE with the reading `r`. -/
def judgeOp (s : State) (op : Op) (r : Reading) : Judged :=
  match op.kind with
  | .entry (.loan i) =>
    match loanRefusal s op r with
    | some reason => .decided (.plan (loanRefused s.active op i r reason))
    | none => .ask
  | .entry (.renew i prior) =>
    match renewRefusal s op prior r with
    | some reason => .decided (.plan (renewRefused s.active op i prior r reason))
    | none => .ask
  | .entry (.ret i prior) => if r.valid then .ask else .decided (.plan (returned s.active op i prior r 0))
  | .entry (.payment b amount) => .decided (.plan (paid s.active op b amount r))
  | .entry (.patronOpen _) => .decided (patronEvaluated s.active op r)
  | .sweepStep i target =>
    match stepOutcome s op i target r with
    | some d => .decided d
    | none => .noChange

/-- The decision once the Calendar Unit has answered. -/
def answered (s : State) (op : Op) (r : Reading) : Decided :=
  match op.kind with
  | .entry (.loan i) => loanAnswered s op i r
  | .entry (.renew i prior) => renewAnswered s op i prior r
  | .entry (.ret i prior) => .plan (returned s.active op i prior r (returnFine s op r))
  | _ => .plan emptyPlan

end Sys2Proof.Machine
end

