-- ==== Sys2Proof/Machine/EngineOps.lean ====
section
/-! DEFINITION. The Circulation Engine at work (1.4, 5.2): taking entries and steps, fetching, entering DECIDE, committing and
finishing. -/

namespace Sys2Proof.Machine

/-- The operation in flight changed. -/
def setOp (st : EngineState) (op : Option Op) (s : State) : State := s.setEngine { s.engine with state := st, op := op }

/-! ### Taking work (R11, R82) -/

/-- The words a CRQ entry fetches first (R12, R37, R40), in the order of the reads. R12 names the words and no order: that they
are read in the order in which the text names them, the loan slot's before the borrower's, so that the borrower's claim comes
with the second read, is the model's choice (DESIGN CHOICE, notes/assumptions/13.md). -/
def entryFetches : CrqEntry → List FetchWord
  | .loan _ => [.slot 0, .slot 1, .slot 2, .slot 3, .slot 4, .slot 5, .slot 6, .slot 13]
  | .ret _ _ => [.slot 0, .slot 1, .slot 2, .slot 3, .slot 4, .slot 5, .slot 6, .slot 13]
  | .renew _ _ => [.slot 0, .slot 1, .slot 2, .slot 3, .slot 4, .slot 5, .slot 6, .slot 13]
  | .payment _ _ => [.borrower 0, .borrower 3, .borrower 4]
  | .patronOpen _ => [.borrower 0, .borrower 3, .borrower 4]

/-- The borrower an entry names itself. -/
def entryBorrower : CrqEntry → Option Nat
  | .payment b _ => some b
  | .patronOpen b => some b
  | _ => none

/-- An operation that has fetched nothing. -/
def newOp (k : OpKind) (todo : List FetchWord) (borrower : Option Nat) : Op where
  kind := k
  todo := todo
  slotWords := []
  borrowerWords := []
  borrower := borrower
  reading := none
  decided := none

/-- The engine takes the entry at the head of the CRQ (R11). -/
def takeEntry (e : CrqEntry) (rest : List CrqEntry) (s : State) : State :=
  s.setEngine { s.engine with
    crq := rest, state := .fetch, op := some (newOp (.entry e) (entryFetches e) (entryBorrower e)) }

/-- The engine starts a sweep step on the slot at the cursor (R82). The claim begins also over an access to the slot that is
already forwarded, which completes under it (DESIGN CHOICE, notes/assumptions/12.md). -/
def startStep (s : State) : State :=
  let sw := s.engine.sweep
  claim (.loan sw.cursor) (s.setEngine { s.engine with
    state := .fetch, op := some (newOp (.sweepStep sw.cursor sw.target) [.slot 0, .slot 6] none)
    sweep := { sw with restarted := false } })

/-! ### Finishing without a group -/

/-- The loan slot an operation claims. -/
def OpKind.slot : OpKind → Option Nat
  | .entry (.loan i) => some i
  | .entry (.ret i _) => some i
  | .entry (.renew i _) => some i
  | .entry _ => none
  | .sweepStep i _ => some i

/-- The operation is a LOAN. -/
def OpKind.isLoan : OpKind → Bool
  | .entry (.loan _) => true
  | _ => false

/-- The operation is a sweep or recovery step. -/
def OpKind.isStep : OpKind → Bool
  | .sweepStep _ _ => true
  | .entry _ => false

/-- A claim ends when there is one. -/
def releaseIf (c : Option Claim) (s : State) : State :=
  match c with
  | some x => release x s
  | none => s

/-- The claims of an operation end. -/
def releaseClaims (op : Op) (s : State) : State :=
  releaseIf (op.borrower.map Claim.borrower) (releaseIf (op.kind.slot.map Claim.loan) s)

/-- A step that finishes advances the cursor by one, unless a restart came during it (R82). -/
def advanceCursor (s : State) : State :=
  let sw := s.engine.sweep
  endIfDone (setSweep { sw with cursor := if sw.restarted then sw.cursor else sw.cursor + 1, restarted := false } s)

/-- The end of the operation in flight on the sweep record. -/
def stepEnds (k : OpKind) (s : State) : State :=
  match k with
  | .sweepStep _ _ => advanceCursor s
  | .entry _ => s

/-- The engine returns to IDLE, the claims of its operation ended, and a waiting candidate is judged (R15, R174). -/
def finishIdle (op : Op) (s : State) : State := judgeCandidate (stepEnds op.kind (releaseClaims op (setOp .idle none s)))

/-! ### FETCH and DECIDE -/

/-- The decision is complete: the engine enters COMMIT and its group begins to wait (R14). -/
def toCommit (op : Op) (d : Decided) (s : State) : State :=
  beginWait .engineCommit [] false (setOp .commit (some { op with decided := some d }) s)

/-- The engine enters DECIDE with one reading of the desk clock. While a list load is in progress a question to the
Calendar Unit waits for its end (R57, R63, R76). A set taken before it gives the reading and a set taken after it does not, as R13
and Table 1-9 say; the row of Table 3-2 (R52) stands the other way round under its column heads (DEDUCED,
notes/assumptions/33.md). -/
def enterDecide (op : Op) (s : State) : State :=
  let r := s.reading
  match judgeOp s op r with
  | .noChange => finishIdle op s
  | .decided d => toCommit { op with reading := some r } d s
  | .ask =>
    if s.calendar.load.isNone then toCommit { op with reading := some r } (answered s op r) s
    else setOp .decide (some { op with reading := some r }) s

/-- The list load has ended: a question that waited for it is answered. -/
def decideAfterLoad (s : State) : State :=
  match s.engine.state, s.engine.op with
  | .decide, some op =>
    match op.reading with
    | some r => toCommit op (answered s op r) s
    | none => s
  | _, _ => s

/-- The borrower words a slot operation reads once w1 names a borrower. -/
def borrowerFetches : OpKind → List FetchWord
  | .sweepStep _ _ => [.borrower 0, .borrower 3, .borrower 4]
  | .entry _ => [.borrower 0, .borrower 3, .borrower 4, .borrower 6]

/-- A LOAN whose index is the open visit's patron reloads the idle timer (R12). -/
def signalPatron (k : OpKind) (index : Nat) (s : State) : State :=
  match k with
  | .entry (.loan _) => if s.visiting index then loadTimer s else s
  | _ => s

/-- w1 has been read: a borrower it names joins the busy set and its words are read as well (R12, R83), also
over an access to the borrower that is already forwarded, which completes under the claim (DESIGN CHOICE,
notes/assumptions/12.md). -/
def noteBorrower (op : Op) (s : State) : State :=
  if op.index < s.active.borrowerCount then
    let op1 : Op := { op with todo := op.todo ++ borrowerFetches op.kind, borrower := some op.index }
    signalPatron op.kind op.index (claim (.borrower op.index) (setOp .fetch (some op1) s))
  else setOp .fetch (some op) s

/-- The words read have all returned: a sweep step that finds its slot past due reads further, and every other operation
enters DECIDE. -/
def afterFetch (op : Op) (s : State) : State :=
  match op.kind with
  | .sweepStep _ target =>
    if pastDue op.status op.due target && !(op.slotWords.any fun p => p.1 = 1) then
      setOp .fetch (some { op with todo := [.slot 1, .slot 2, .slot 3, .slot 4] }) s
    else enterDecide op s
  | .entry _ => enterDecide op s

/-- A fetched word kept. -/
def Op.keep (op : Op) (w : FetchWord) (d : Word) : Op :=
  match w with
  | .slot n => { op with todo := op.todo.tail, slotWords := op.slotWords ++ [(n, d)] }
  | .borrower n => { op with todo := op.todo.tail, borrowerWords := op.borrowerWords ++ [(n, d)] }

/-- A fetch read returns (R12). -/
def fetchReturned (op : Op) (w : FetchWord) (d : Word) (s : State) : State :=
  let op1 := op.keep w d
  if w = .slot 1 then noteBorrower op1 s
  else if op1.todo.isEmpty then afterFetch op1 s
  else setOp .fetch (some op1) s

/-! ### COMMIT (R14 to R16) -/

/-- The group's borrower words at their addresses. -/
def borrowerEntries (p : Profile) (op : Op) (ws : List (Nat × Word)) : List QEntry :=
  ws.map fun w => ⟨p.borrowerAddr (op.borrower.getD 0) w.1, w.2⟩

/-- The group's slot words at their addresses. -/
def slotEntries (p : Profile) (op : Op) (ws : List (Nat × Word)) : List QEntry :=
  ws.map fun w => ⟨p.loanAddr (op.kind.slot.getD 0) w.1, w.2⟩

/-- The journal link of a group that keeps its entry. -/
def linkWord (plan : Plan) (kept : Bool) (head : Word) : List (Nat × Word) := if plan.link && kept then [(13, head)] else []

/-- The status word, the last slot word. -/
def statusWordOf (plan : Plan) : List (Nat × Word) :=
  match plan.status with
  | some w => [(0, w)]
  | none => []

/-- The words of a group between its journal entry and its mirror. -/
def groupWords (s : State) (op : Op) (plan : Plan) (kept : Bool) : List QEntry :=
  borrowerEntries s.active op plan.borrowerWords ++
    slotEntries s.active op (plan.slotWords ++ linkWord plan kept s.journal.head ++ statusWordOf plan)

/-- An entry that is lost and counted without room, where a REFUSAL is left out (Table 8-2). -/
def EntryKind.counted : EntryKind → Bool
  | .refusal => false
  | _ => true

/-- STATUS w21 after one more resolution (R89, Table 12-8). -/
def interruptedWord (slot kind count : Nat) : Word := put 0 14 slot ||| put 14 2 kind ||| put 16 15 count

/-- The resolution counted, and its mirror word. -/
def countResolution (op : Op) (kind : Nat) (s : State) : State :=
  let n := min (s.engine.resolutions + 1) Config.maxMarks
  s.setEngine { s.engine with
    resolutions := n, interruptedWord := interruptedWord (op.kind.slot.getD 0) kind n }

/-- The group of a plan enters the queue (R14, R16, R133, R134). -/
def placeGroup (op : Op) (plan : Plan) (s : State) : State :=
  match plan.entry, plan.resolved with
  | some e, _ =>
    if 0 < s.freeEntries then appendKept e (groupWords s op plan true) s
    else if e.kind.counted then appendLost (groupWords s op plan false) s
    else enqueue (groupWords s op plan false) s
  | none, some k =>
    let s1 := countResolution op k s
    enqueue (groupWords s1 op plan false ++ mirrorWrite s1 21 s1.engine.interruptedWord) s1
  | none, none => enqueue (groupWords s op plan false) s

/-- The committed state is recorded in the slot state map. -/
def recordPlan (op : Op) (plan : Plan) (s : State) : State :=
  match plan.mapState, op.kind.slot with
  | some v, some i => recordState i v s
  | _, _ => s

/-- The grant is passed to the Visit Unit. -/
def passGrant (op : Op) (plan : Plan) (s : State) : State :=
  match plan.slip, op.borrower with
  | some e, some b => appendGrant e b s
  | _, _ => s

/-- REFUSAL with its reason. -/
def raiseReason (reason : Option Nat) (s : State) : State :=
  match reason with
  | some d => raise .refusal d s
  | none => s

/-- Marks made rises by 1 with an overdue mark. -/
def countMark (op : Op) (plan : Plan) (s : State) : State :=
  if op.kind.isStep && plan.mapState = some .overdue then
    setSweep { s.engine.sweep with marks := min (s.engine.sweep.marks + 1) Config.maxMarks } s
  else s

/-- The reports of a finish: its events and its tone (R23). -/
def reportFinish (plan : Plan) (s : State) : State :=
  requestToneIf plan.tone (raiseReason plan.reason (raiseAll plan.events s))

/-- A plan committed and finished, one act (R14, R15). -/
def commitPlan (op : Op) (plan : Plan) (s : State) : State :=
  let s1 := placeGroup op plan (leaveWait .engineCommit s)
  finishIdle op (countMark op plan (reportFinish plan (passGrant op plan (recordPlan op plan s1))))

/-- An overdue mark that finds no free journal entry: the sweep enters PAUSED at its slot (R85), or, when a restart
came during the step, at the cursor 0 that the restart has set (DEDUCED, notes/assumptions/20.md). -/
def pauseSweep (op : Op) (s : State) : State :=
  let s1 := setSweep { s.engine.sweep with state := .paused, restarted := false } (leaveWait .engineCommit s)
  judgeCandidate (releaseClaims op (setOp .idle none s1))

/-- The words STATUS w10 and w14 of a PATRON_OPEN whose visit stands. -/
def patronWords (borrower : Nat) (v : Verdict) (fines : Nat) : Word × Word :=
  (verdictWordOf borrower (if v.any then 2 else 1) v.bits, word fines)

/-- The group of a PATRON_OPEN (Table 2-5). -/
def patronGroup (s : State) (op : Op) (w3 : Word) (ws : Option (Word × Word)) : List QEntry :=
  (if s.service then borrowerEntries s.active op [(3, w3)] else []) ++
    (match ws with
    | some w => mirrorWrite s 10 w.1 ++ mirrorWrite s 14 w.2
    | none => [])

/-- The verdict is delivered to the visit that stands (R41, R118). -/
def deliverVerdict (v : Verdict) (ws : Word × Word) (s : State) : State :=
  let s1 := setStanding (if v.any then .blocked else .clear)
    (s.setVisit { s.visit with verdictWord := ws.1, finesWord := ws.2 })
  if v.any then requestTone .alarm (raise .patronBlocked 0 s1) else s1

/-- A PATRON_OPEN committed and finished (R41). -/
def commitPatron (op : Op) (w3 : Word) (v : Verdict) (fines : Nat) (events : List Event) (s : State) : State :=
  let b := op.borrower.getD Config.noIndex
  let stands := s.visiting b
  let ws := patronWords b v fines
  let s1 := enqueue (patronGroup s op w3 (if stands then some ws else none)) (leaveWait .engineCommit s)
  let s2 := if stands then deliverVerdict v ws s1 else s1
  finishIdle op (if s.service then raiseAll events s2 else s2)

/-- A granted LOAN refused at commit, or a granted RENEW (R14). -/
def refusedAtCommit (s : State) (op : Op) (reason : Nat) : Plan :=
  let r := op.reading.getD s.reading
  match op.kind with
  | .entry (.renew i prior) => renewRefused s.active op i prior r reason
  | k => loanRefused s.active op (k.slot.getD 0) r reason

/-- A decided grant, its two conditions judged again (R14). -/
def commitGrant (op : Op) (plan : Plan) (s : State) : State :=
  if op.kind.isLoan && !s.visiting op.index then commitPlan op (refusedAtCommit s op reasonNoVisit) s
  else if s.freeEntries ≤ s.active.reserve then commitPlan op (refusedAtCommit s op reasonJournalFull) s
  else commitPlan op plan s

/-- A decided plan: an overdue mark needs one free journal entry (R85). -/
def commitDecided (op : Op) (plan : Plan) (s : State) : State :=
  if op.kind.isStep && plan.entry.isSome && s.freeEntries = 0 then pauseSweep op s else commitPlan op plan s

/-- The commit group of the operation in flight is admitted. -/
def commitOp (op : Op) (d : Decided) (s : State) : State :=
  match d with
  | .grant plan => commitGrant op plan s
  | .plan plan => commitDecided op plan s
  | .patron w3 v fines events => commitPatron op w3 v fines events s

/-- The operation whose commit group may be admitted now: its group stands at the front of the line, and the queue has 16
free entries. -/
def commitReady (s : State) : Option (Op × Decided) :=
  match s.engine.state, s.engine.op with
  | .commit, some op =>
    match op.decided with
    | some d => if atFront s .engineCommit && decide (Config.commitRoom ≤ pwqFree s) then some (op, d) else none
    | none => none
  | _, _ => none

end Sys2Proof.Machine
end

