-- ==== Sys2Proof/Machine/ClockSet.lean ====
section
/-! DEFINITION. Setting the desk clock (R49, R50), from SET_CLOCK or from an accepted central time. -/

namespace Sys2Proof.Machine

/-- The two sources of a set. -/
inductive SetSource where
  | command
  | central
  deriving DecidableEq, Repr

/-- The source as one bit (Table 12-7). -/
def SetSource.bit : SetSource → Nat
  | .command => 0
  | .central => 1

/-- A time of the calendar: a day, a minute of day and a second within their ranges (R48, R145). -/
def timeInRange (day minute second : Nat) : Bool :=
  decide (day ≤ Config.lastDay) && decide (minute ≤ Config.lastMinute) && decide (second ≤ 59)

/-- The CLOCK_SET entry: the new instant, the old instant in the barcode place, and the flags (Tables 8-3, 12-6, 12-7). -/
def clockSetEntry (new old : Reading) (src : SetSource) : JEntry :=
  plainEntry .clockSet new (512 * src.bit + 1024 * flag old.valid) (instantWord old.instant false) (put 0 6 old.second) 0#32

/-- The clock takes a new instant, the prescaler 0, and the clock-valid flag is set. -/
def placeClock (day minute second : Nat) (s : State) : State :=
  s.setCalendar { s.calendar with day := day, minute := minute, second := second, prescaler := 0, valid := true }

/-- A set, one act (R49): the mirror is written, the CLOCK_SET entry asked for and CLOCK_SET raised; a set that moves the
day forward sends a rollover notice (R50). -/
def setClock (day minute second : Nat) (src : SetSource) (s : State) : State :=
  let old := s.reading
  let s1 := writeClockMirror (placeClock day minute second s)
  let s2 := raise .clockSet 0 (systemEntry (clockSetEntry s1.reading old src) s1)
  if old.day < day then sendNotice ⟨day, minute⟩ s2 else s2

end Sys2Proof.Machine
end

