-- ==== Sys2Proof/Machine/UploadOps.lean ====
section
/-! DEFINITION. The Upload Engine and its line (8.3, 8.4): frames and their check, the conversation with the central, the
retries, and the receiver. -/

namespace Sys2Proof.Machine

/-! ### Frames (R140) -/

/-- One bit of the CRC-16 with the generator polynomial 0x1021. -/
def crcBit (c : BitVec 16) : BitVec 16 := if c.msb then (c <<< 1) ^^^ 0x1021#16 else c <<< 1

/-- `n` bits of the CRC. -/
def crcBits : Nat → BitVec 16 → BitVec 16
  | 0, c => c
  | n + 1, c => crcBits n (crcBit c)

/-- One byte taken into the CRC, most significant bit first. -/
def crcByte (c : BitVec 16) (b : Byte) : BitVec 16 := crcBits 8 (c ^^^ (b.setWidth 16 <<< 8))

/-- The CRC of a list of bytes from the initial value 0xFFFF. -/
def crc16 (bs : List Byte) : BitVec 16 := bs.foldl crcByte 0xFFFF#16

/-- The bytes of a frame that its check covers: the type, the length and the payload. -/
def frameBody (type : Byte) (payload : List Byte) : List Byte := type :: (bytes16 payload.length ++ payload)

/-- A whole frame: the start byte, the body and the check. -/
def frameBytes (type : Byte) (payload : List Byte) : List Byte :=
  Config.startByte :: (frameBody type payload ++ bytes16 (crc16 (frameBody type payload)).toNat)

/-- The type codes of Table 8-5. -/
def typeHello : Byte := 0x01#8

/-- BATCH. -/
def typeBatch : Byte := 0x02#8

/-- DONE. -/
def typeDone : Byte := 0x03#8

/-- WELCOME. -/
def typeWelcome : Byte := 0x81#8

/-- ACK. -/
def typeAck : Byte := 0x82#8

/-- NAK. -/
def typeNak : Byte := 0x83#8

/-- BYE. -/
def typeBye : Byte := 0x84#8

/-- The payload of HELLO (Table 12-10), as the part stands at the sending. -/
def helloPayload (s : State) : List Byte :=
  bytesOf s.active.deskId ++ bytesOf s.active.generation ++ bytesOf s.journal.tail ++ bytes16 s.present ++
    [byte Config.partRevision]

/-- The payload of a BATCH. -/
def batchPayload (b : Batch) : List Byte := bytes16 b.number.toNat ++ [byte b.count] ++ textOf b.words

/-- The payload of DONE: the last sequence sent and the entries sent. -/
def donePayload (s : State) : List Byte := bytesOf (s.journal.tail - 1#32) ++ bytesOf s.upload.entriesSent

/-- The frame that sends a batch. -/
def batchFrame (b : Batch) : TxFrame := ⟨.batch b.number, frameBytes typeBatch (batchPayload b)⟩

/-- A frame is asked for on the line, behind those asked for before it (R139). -/
def sendFrame (f : TxFrame) (s : State) : State := s.setUpload { s.upload with tx := s.upload.tx ++ [f] }

/-! ### The conversation -/

/-- HELLO is sent and HELLO_SENT entered (R144). DESIGN CHOICE: its fields are those of the moment the engine asks for the
frame, also when the line is still sending another one (notes/assumptions/18.md). -/
def sendHello (s : State) : State :=
  let s1 := sendFrame ⟨.hello, frameBytes typeHello (helloPayload s)⟩ s
  s1.setUpload { s1.upload with state := .helloSent, ackTimer := false }

/-- WAIT_LINE is entered from `before`; with UPL_READY asserted HELLO is sent at once (R143). The upload word reports each of
the two changes (R152). -/
def enterWaitLine (before : State) (s : State) : State :=
  let s1 := reportUpload before (s.setUpload { s.upload with state := .waitLine, ackTimer := false })
  if s1.pins.uplReady then reportUpload s1 (sendHello s1) else s1

/-- The Upload Engine as a start of an upload leaves it, before WAIT_LINE (R142). The line keeps what it is sending. -/
def Upload.begun (u : Upload) (p : UploadParams) : Upload :=
  { u with
    params := p, batchSize := p.batchStart, batchCounter := 0#16, outstanding := none, reading := false
    shortRetries := 0, longRetries := 0, retries := 0#16, rollover := false, entriesSent := 0#32, cause := .none
    ackTimer := false }

/-- An upload starts, one act (R142). -/
def startUpload (s : State) : State := enterWaitLine s (s.setUpload (s.upload.begun s.active.upload))

/-- One more retry; past 65,535 the count wraps and the rollover flag is set (R152). -/
def Upload.countRetry (u : Upload) : Upload :=
  { u with retries := u.retries + 1#16, rollover := u.rollover || u.retries = 0xFFFF#16 }

/-- The Upload Engine after a failure. -/
def Upload.failed (u : Upload) (cause : FailCause) : Upload :=
  { u with
    state := .idle, cause := cause, ackTimer := false, outstanding := none, reading := false, rxState := .hunt, rxBytes := [] }

/-- The upload fails, one act (R150). A waiting candidate is judged again (R138). -/
def failUpload (cause : FailCause) (s : State) : State :=
  judgeCandidate (raise .uploadFailed 0 (reportUpload s (s.setUpload (s.upload.failed cause))))

/-- A long retry, or the failure of the upload once the long limit is reached (R149). -/
def longRetry (s : State) : State :=
  let u := s.upload
  if u.longRetries < u.params.longLimit then
    enterWaitLine s (s.setUpload { u.countRetry with
      longRetries := u.longRetries + 1, shortRetries := 0, outstanding := none, reading := false })
  else failUpload .retries s

/-- A failed attempt of the outstanding batch (R148). -/
def failedAttempt (b : Batch) (s : State) : State :=
  let u : Upload := { s.upload with ackTimer := false, batchSize := s.upload.params.batchStart }
  if u.shortRetries < u.params.shortLimit then
    reportUpload s (sendFrame (batchFrame b) (s.setUpload { u.countRetry with shortRetries := u.shortRetries + 1 }))
  else longRetry (s.setUpload u)

/-- DONE is sent and DONE_SENT entered (R151). -/
def sendDone (s : State) : State :=
  let s1 := sendFrame ⟨.done, frameBytes typeDone (donePayload s)⟩ s
  s1.setUpload { s1.upload with state := .doneSent, ackTimer := false }

/-- A batch is formed, or DONE is sent when no entry is present (R146). Its reads are asked for. -/
def formBatch (s : State) : State :=
  let n := min s.upload.batchSize s.present
  if n = 0 then sendDone s
  else
    s.setUpload { s.upload with
      state := .sending, batchCounter := s.upload.batchCounter + 1#16
      outstanding := some ⟨s.upload.batchCounter + 1#16, n, []⟩
      reading := true, shortRetries := 0, ackTimer := false }

/-- A read of the batch returns: its word is kept in the batch buffer, and after the last one the BATCH frame is sent. -/
def batchRead (b : Batch) (w : Word) (s : State) : State :=
  let b1 : Batch := { b with words := b.words ++ [w] }
  if b1.words.length < 8 * b1.count then s.setUpload { s.upload with outstanding := some b1 }
  else sendFrame (batchFrame b1) (s.setUpload { s.upload with outstanding := some b1, reading := false })

/-- The tail advances by a batch's count, and STATUS w13 is written (R137, R147). -/
def advanceTail (n : Nat) (s : State) : State :=
  let t := s.journal.tail + word n
  produce .tailMirror [(13, t)] false (s.setJournal { s.journal with tail := t })

/-- The ACK of the outstanding batch is accepted (R147). -/
def acceptAck (b : Batch) (s : State) : State :=
  let s1 := s.setUpload { s.upload with
    ackTimer := false, entriesSent := s.upload.entriesSent + word b.count, outstanding := none
    batchSize := min (s.upload.batchSize + 1) s.upload.params.batchMax }
  formBatch (reportRoom (judgeLow (advanceTail b.count s1)))

/-! ### The time of a WELCOME (R145) -/

/-- An instant with its second, in seconds. -/
def secondsOf (day minute second : Nat) : Nat := 86400 * day + 60 * minute + second

/-- The difference of two counts, in either direction. -/
def apart (a b : Nat) : Nat := (a - b) + (b - a)

/-- The offer of a central time, judged in the order of R145. -/
def offerTime (day minute second timeValid : Nat) (s : State) : State :=
  if !s.upload.params.acceptCentral || timeValid ≠ 1 then s
  else if !timeInRange day minute second then raise .timeRefused 0 s
  else if !s.calendar.valid then setClock day minute second .central s
  else if s.upload.params.tolerance <
      apart (secondsOf day minute second) (secondsOf s.calendar.day s.calendar.minute s.calendar.second) then
    setClock day minute second .central s
  else s

/-! ### Frames delivered -/

/-- The outstanding batch when its reads have returned and the engine is in SENDING, which is when a reply to it is heard. -/
def heardBatch (s : State) (number : Nat) : Option Batch :=
  match s.upload.state, s.upload.reading, s.upload.outstanding with
  | .sending, false, some b => if b.number.toNat = number then some b else none
  | _, _, _ => none

/-- A WELCOME delivered (R144, R145). -/
def welcomeDelivered (day minute second timeValid : Nat) (s : State) : State :=
  if s.upload.state = .helloSent then
    let s1 := s.setUpload { s.upload with ackTimer := false }
    reportUpload s (formBatch (offerTime day minute second timeValid s1))
  else s

/-- An ACK delivered (R147). -/
def ackDelivered (number : Nat) (s : State) : State :=
  match heardBatch s number with
  | some b => reportUpload s (acceptAck b s)
  | none => s

/-- A NAK delivered: cause 1 is RESEND (R148), cause 2 ABORT (R150). -/
def nakDelivered (number cause : Nat) (s : State) : State :=
  match heardBatch s number with
  | some b =>
    if cause = 1 then failedAttempt b s
    else if cause = 2 then failUpload .abort s
    else s
  | none => s

/-- A BYE delivered (R151). -/
def byeDelivered (s : State) : State :=
  if s.upload.state = .doneSent then
    let s1 := s.setUpload { s.upload with state := .idle, ackTimer := false }
    judgeCandidate (reportUpload s (raise .uploadDone 0 s1))
  else s

/-- A frame of a right check: delivered when its type, its length and its cause are known, discarded otherwise (R141). -/
def deliver (type : Byte) (payload : List Byte) (s : State) : State :=
  match payload with
  | [d1, d0, m1, m0, sec, tv] =>
    if type = typeWelcome then
      welcomeDelivered (256 * d1.toNat + d0.toNat) (256 * m1.toNat + m0.toNat) sec.toNat tv.toNat s
    else s
  | [n1, n0] => if type = typeAck then ackDelivered (256 * n1.toNat + n0.toNat) s else s
  | [n1, n0, cause] => if type = typeNak then nakDelivered (256 * n1.toNat + n0.toNat) cause.toNat s else s
  | [] => if type = typeBye then byeDelivered s else s
  | _ => s

/-! ### The receiver (R141) -/

/-- The receiver changed. -/
def setRx (st : RxState) (bs : List Byte) (s : State) : State := s.setUpload { s.upload with rxState := st, rxBytes := bs }

/-- The payload length a received header names. -/
def rxLength (bs : List Byte) : Nat :=
  match bs with
  | _ :: h :: l :: _ => 256 * h.toNat + l.toNat
  | _ => 0

/-- A frame received whole, after its start byte: its check judged, and the frame delivered when it is right. -/
def frameReceived (bs : List Byte) (s : State) : State :=
  let n := rxLength bs
  match bs with
  | type :: _ =>
    if bs.drop (3 + n) = bytes16 (crc16 (bs.take (3 + n))).toNat then deliver type ((bs.drop 3).take n) s else s
  | [] => s

/-- The header is complete: an oversize length discards the frame. -/
def headerReceived (bs : List Byte) (s : State) : State :=
  if Config.maxPayload < rxLength bs then setRx .hunt [] s
  else if rxLength bs = 0 then setRx .check bs s
  else setRx .payload bs s

/-- One byte received. While the engine is IDLE it is discarded. -/
def rxByte (s : State) (b : Byte) : State :=
  let bs := s.upload.rxBytes ++ [b]
  match s.upload.state, s.upload.rxState with
  | .idle, _ => s
  | _, .hunt => if b = Config.startByte then setRx .header [] s else s
  | _, .header => if bs.length = 3 then headerReceived bs s else setRx .header bs s
  | _, .payload => if bs.length = 3 + rxLength bs then setRx .check bs s else setRx .payload bs s
  | _, .check => if bs.length = 5 + rxLength bs then frameReceived bs (setRx .hunt [] s) else setRx .check bs s

/-- Bytes received one after another on UPL_RXD. -/
def rxBytesIn (bs : List Byte) (s : State) : State := bs.foldl rxByte s

/-! ### The line (R139, R144) -/

/-- The reply a frame waits for is still waited for. A HELLO or a DONE is known by its kind alone, and a BATCH by its number
alone, so one that an earlier attempt or a failed upload left on the line starts the timer of a later HELLO_SENT or DONE_SENT,
or that of a later batch of the same number, too (DESIGN CHOICE, notes/assumptions/18.md). -/
def replyAwaited (s : State) (t : FrameTag) : Bool :=
  match t, s.upload.state with
  | .hello, .helloSent => true
  | .done, .doneSent => true
  | .batch n, .sending => (heardBatch s n.toNat).isSome
  | _, _ => false

/-- The stop bit of the last byte of the frame being sent has gone: the acknowledgement timer starts, and the next frame
asked for follows. -/
def frameGone (f : TxFrame) (rest : List TxFrame) (s : State) : State :=
  s.setUpload { s.upload with tx := rest, ackTimer := s.upload.ackTimer || replyAwaited s f.tag }

end Sys2Proof.Machine
end

