-- ==== Sys2Proof/Machine/StorePathOps.lean ====
section
/-! DEFINITION. The Store Path (Chapter 9): the region of an address, the holds, the guard of the fields the part writes, and
the treatment of upstream accesses with their effects on the other blocks. -/

namespace Sys2Proof.Machine

/-! ### Regions (R156, R157) -/

/-- The descriptor of a window kind. -/
def Profile.window (p : Profile) : WindowKind → Window
  | .borrower => p.borrowerWin
  | .loan => p.loanWin
  | .scan => p.scanWin
  | .journal => p.journalWin
  | .status => p.statusWin
  | .calendar => p.calendarWin

/-- The window kinds by their numbers, 0 to 5. -/
def WindowKind.order : List WindowKind := [.borrower, .loan, .scan, .journal, .status, .calendar]

/-- The eight words at index 65,535 of a BORROWER window of size code 19, which are no borrower (R26). -/
def noBorrowerWord (p : Profile) (a : Addr) : Bool :=
  p.borrowerWin.hits a && p.borrowerWin.size = 19 && p.borrowerWin.offset a / 8 = Config.noIndex

/-- The Store Path takes an address as lying in the window of kind `k`. The eight words of no borrower are decoded as no
window, whatever other window covers them, and every access to them passes (R26, R161). -/
def Profile.hits (p : Profile) (k : WindowKind) (a : Addr) : Bool := (p.window k).hits a && !noBorrowerWord p a

/-- The word of an address within the window of kind `k`. -/
def Profile.wordIn (p : Profile) (k : WindowKind) (a : Addr) : Nat := (p.window k).offset a

/-- The region an address is decoded as. -/
inductive Region where
  | profile (n : Nat)
  | window (k : WindowKind) (n : Nat)
  | outside
  deriving DecidableEq, Repr

/-- The decoding of an address: the profile region first, then the window of the lowest kind number. -/
def regionOf (p : Profile) (a : Addr) : Region :=
  if a.toNat < 128 then .profile a.toNat
  else
    match WindowKind.order.find? (fun k => p.hits k a) with
    | some k => .window k (p.wordIn k a)
    | none => .outside

/-! ### Holds (R155) -/

/-- The word lies in a loan slot or a borrower slot that is in the busy set, in SERVICE mode. -/
def busyAt (s : State) (a : Addr) : Bool :=
  s.service &&
    ((s.active.hits .loan a && s.claimed (.loan (s.active.wordIn .loan a / 16))) ||
      (s.active.hits .borrower a && s.claimed (.borrower (s.active.wordIn .borrower a / 8))))

/-- The queue holds a write of the word. -/
def queueHolds (s : State) (a : Addr) : Bool := (queued s.path.pwq a).isSome

/-- The CRQ holds 16 entries. -/
def crqFull (s : State) : Bool := decide (Config.crqDepth ≤ s.engine.crq.length)

/-! ### Guarded fields (R159, R160) -/

/-- What a window says of a write to one of its words. -/
inductive GuardSays where
  | free
  | guarded
  | unknown
  deriving DecidableEq, Repr

/-- The guard of the descriptive words w1 to w4 of a loan slot: guarded while the loan is live (R160). -/
def liveGuard (s : State) (slot : Nat) : GuardSays :=
  match mapGet s.engine.stateMap slot with
  | some st => if st.live then .guarded else .free
  | none => .unknown

/-- The guard of word `n` of a window of kind `k`. -/
def guardOf (s : State) (k : WindowKind) (n : Nat) : GuardSays :=
  match k with
  | .borrower => if s.service && [3, 4, 6].contains (n % 8) then .guarded else .free
  | .loan =>
    if !s.service then .free
    else if [5, 6, 7, 13].contains (n % 16) then .guarded
    else if [1, 2, 3, 4].contains (n % 16) then liveGuard s (n / 16)
    else .free
  | .scan => .guarded
  | .journal => .guarded
  | .status => if [0, 1, 2, 3, 4, 8, 9].contains n then .free else .guarded
  | .calendar => .free

/-- What the windows an address hits say of it, one by one. -/
def guardsAt (s : State) (a : Addr) : List GuardSays :=
  (WindowKind.order.filter fun k => s.active.hits k a).map fun k => guardOf s k (s.active.wordIn k a)

/-- The guard of an address: guarded by any window it hits; otherwise not known while one of them does not know (R157). -/
def guardAt (s : State) (a : Addr) : GuardSays :=
  if (guardsAt s a).contains .guarded then .guarded
  else if (guardsAt s a).contains .unknown then .unknown
  else .free

/-! ### Requests and commands that are not accepted (R3, R36, R165) -/

/-- The write is suppressed, and BAD_REQUEST raised with its word address. -/
def refuseWrite (a : Access) (s : State) : State := badRequest a.addr (completeWrite s)

/-! ### Loan slot requests (R3 to R8) -/

/-- What Table 1-3 gives. -/
inductive Acceptance where
  | taken (kind : Nat)
  | clear
  | bad
  deriving DecidableEq, Repr

/-- A slot from which the desk processor may lend and which it may clear. -/
def LoanState.free (s : LoanState) : Bool := s = .empty || s = .refused || s = .returned

/-- Table 1-3, for a full word written and a current state. A taken request's kind is its code. -/
def acceptance (w : Word) (st : LoanState) : Acceptance :=
  if w = 0#32 then (if st.free then .clear else .bad)
  else if w = 1#32 then (if st.free then .taken 1 else .bad)
  else if w = 2#32 then (if st.live then .taken 2 else .bad)
  else if w = 3#32 then (if st.live then .taken 3 else .bad)
  else .bad

/-- The CRQ entry of a taken request. -/
def requestEntry (kind slot : Nat) (prior : LoanState) : CrqEntry :=
  if kind = 1 then .loan slot else if kind = 2 then .ret slot prior else .renew slot prior

/-- An entry joins the tail of the CRQ (R9). -/
def joinCrq (e : CrqEntry) (s : State) : State := s.setEngine { s.engine with crq := s.engine.crq ++ [e] }

/-- The IN_PROGRESS word of a taken request: the previous word's reason, renewals and flags are kept (R5). -/
def inProgressWord (old : Word) (kind : Nat) : Word := { readStatus old with state := .inProgress, kind := kind }.encode

/-- A request is taken, one act (R5). The previous status word is read inside that act, from the store too, without a turn of
the port: R158 and R169 send internal reads through the arbiter, and R5 names no read of its own (DESIGN CHOICE,
notes/assumptions/23.md). -/
def takeRequest (a : Access) (slot kind : Nat) (prior : LoanState) (s : State) : State :=
  let w := inProgressWord (internalRead s (s.active.loanAddr slot 0)) kind
  rewrite a w (joinCrq (requestEntry kind slot prior) (recordState slot .inProgress (claim (.loan slot) s)))

/-- A request write judged on a known state (R3, R4, R8). -/
def judgeRequest (a : Access) (slot : Nat) (st : LoanState) (s : State) : State :=
  if a.strobes ≠ fullWord then refuseWrite a s
  else
    match acceptance a.data st with
    | .bad => refuseWrite a s
    | .clear => forward a (recordState slot .empty s)
    | .taken kind => if crqFull s then hold a .requestRoom s else takeRequest a slot kind st s

/-- A write to a loan slot's w0 in SERVICE mode (R3, R7). -/
def requestWrite (a : Access) (slot : Nat) (s : State) : State :=
  match mapGet s.engine.stateMap slot with
  | none => hold a .statusRead s
  | some st => judgeRequest a slot st s

/-! ### Payments (R36) -/

/-- A write to a borrower's w5 in SERVICE mode. -/
def paymentWrite (a : Access) (borrower : Nat) (s : State) : State :=
  if a.strobes ≠ fullWord then refuseWrite a s
  else if a.data = 0#32 then forward a s
  else if crqFull s then hold a .requestRoom s
  else rewrite a 0#32 (joinCrq (.payment borrower (min a.data.toNat Config.maxFines)) (claim (.borrower borrower) s))

/-! ### The current-patron word (R114 to R117) -/

/-- The Visit Unit's copy of STATUS w0. -/
def setPatronCopy (w : Word) (s : State) : State := s.setVisit { s.visit with patronCopy := w }

/-- A refused value (R117). -/
def refusePatron (a : Access) (s : State) : State :=
  let s1 := closeVisit false (rewrite a 65535#32 (setPatronCopy 65535#32 s))
  badRequest a.addr (writePatronStatus .badBorrower (verdictWordOf Config.noIndex 3 0) 0#32 s1)

/-! ### The scan consumer (R110) -/

/-- The Wand Front End's copy of STATUS w1. -/
def setConsumer (w : Word) (s : State) : State := s.setWand { s.wand with consumerCopy := w }

/-- A write to STATUS w1. -/
def consumerWrite (a : Access) (s : State) : State :=
  let m := mergeLanes s.wand.consumerCopy a.data a.strobes
  if (s.wand.producer - m.setWidth 16).toNat ≤ Config.ringSize then forward a (setConsumer m s)
  else rewrite a (word s.wand.producer.toNat) (setConsumer (word s.wand.producer.toNat) s)

/-! ### The clock-set words (R47, R48) -/

/-- A write to STATUS w3 snooped into its copy. -/
def snoopDay (a : Access) (s : State) : State :=
  s.setCalendar { s.calendar with copy3 := mergeLanes s.calendar.copy3 a.data a.strobes, mark3 := true }

/-- A write to STATUS w4 snooped into its copy. -/
def snoopTime (a : Access) (s : State) : State :=
  s.setCalendar { s.calendar with copy4 := mergeLanes s.calendar.copy4 a.data a.strobes, mark4 := true }

/-- The copies hold a time that a SET_CLOCK takes (R48). -/
def copiesGood (c : Calendar) : Bool :=
  c.mark3 && c.mark4 && timeInRange c.copy3.toNat (field c.copy4 0 16) (field c.copy4 16 8)

/-- A SET_CLOCK taken from the command word at address `a` (R48). -/
def setClockCommand (a : Addr) (s : State) : State :=
  let c := s.calendar
  if copiesGood c then setClock c.copy3.toNat (field c.copy4 0 16) (field c.copy4 16 8) .command s else badRequest a s

/-! ### The command word (R165) -/

/-- An UPLOAD_NOW taken from the command word at address `a` (R142). -/
def uploadNowCommand (a : Addr) (s : State) : State := if s.upload.state = .idle then startUpload s else badRequest a s

/-- A command code handed to its owner (Table 9-3). -/
def runCommand (a : Addr) (code : Nat) (s : State) : State :=
  match code with
  | 1 => uploadNowCommand a s
  | 2 => reprintCommand a s
  | 3 => silenceSounder s
  | 4 => clearStamps s
  | 5 => setClockCommand a s
  | _ => badRequest a s

/-- A write to STATUS w2. -/
def commandWrite (a : Access) (s : State) : State :=
  if a.strobes ≠ fullWord then refuseWrite a s
  else if a.data = 0#32 then forward a s
  else runCommand a.addr a.data.toNat (rewrite a 0#32 s)

/-! ### The other snoops (R58, R172, R173) -/

/-- A write to CALENDAR word `n` snooped into the Closed-Date Table copy; words 61 to 63 are firmware's (R58). -/
def snoopCalendar (a : Access) (n : Nat) (s : State) : State :=
  if n ≤ 60 then
    s.setCalendar { s.calendar with table := s.calendar.table.set n (mergeLanes (nth s.calendar.table n) a.data a.strobes) }
  else s

/-- A write to profile word `n` merged into the pending shadow (R172). -/
def mergeShadow (a : Access) (n : Nat) (s : State) : State :=
  s.setProfile { s.profile with shadow := s.profile.shadow.set n (mergeLanes (nth s.profile.shadow n) a.data a.strobes) }

/-- The effects of a write in the profile region: the shadow, and with word 127 a request for adoption. -/
def profileSnoop (a : Access) (s : State) : State :=
  let n := a.addr.toNat
  if n < 128 then (if n = 127 then requestAdoption (mergeShadow a n s) else mergeShadow a n s) else s

/-! ### Treatment (Table 9-2) -/

/-- A write to a word of the STATUS block that is no guarded field, `patron` being what a write to w0 does; w8 and w9 are
suppressed (R162). -/
def statusWrite (patron : Access → State → State) (a : Access) (n : Nat) (s : State) : State :=
  match n with
  | 0 => patron a s
  | 1 => consumerWrite a s
  | 2 => commandWrite a s
  | 3 => forward a (snoopDay a s)
  | 4 => forward a (snoopTime a s)
  | _ => completeWrite s

/-- A write to a word of a window that guards it not. -/
def windowWrite (patron : Access → State → State) (a : Access) (k : WindowKind) (n : Nat) (s : State) : State :=
  match k with
  | .borrower => if s.service && n % 8 = 5 then paymentWrite a (n / 8) s else forward a s
  | .loan => if s.service && n % 16 = 0 then requestWrite a (n / 16) s else forward a s
  | .scan => completeWrite s
  | .journal => completeWrite s
  | .status => statusWrite patron a n s
  | .calendar => forward a (snoopCalendar a n s)

/-- A write that no window guards takes the treatment of the region it is decoded as (R157). -/
def freeWrite (patron : Access → State → State) (a : Access) (s : State) : State :=
  match regionOf s.active a.addr with
  | .profile _ => profileSnoop a (forward a s)
  | .window k n => windowWrite patron a k n s
  | .outside => forward a s

/-- The treatment of a write. A guarded write is suppressed; in the profile region it is still merged into the shadow. -/
def treatWrite (patron : Access → State → State) (a : Access) (s : State) : State :=
  match guardAt s a.addr with
  | .guarded => profileSnoop a (completeWrite s)
  | .unknown => hold a .statusRead s
  | .free => freeWrite patron a s

/-! ### Opening a visit (R114 to R116) -/

/-- An opening once the open visit has closed: a visit opens for a borrower slot of the profile in force (R22), and any other
index is refused. -/
def openOrRefuse (m : Word) (a : Access) (s : State) : State :=
  if m.toNat < s.active.borrowerCount then openVisit m.toNat (forward a (setPatronCopy m s)) else refusePatron a s

/-- An opening write (R115): any open visit closes first, the copy standing at 65,535 while none is open (R176). The close may
let a waiting candidate be adopted, and the write is then treated under the new profile (R155, R174): a visit opens only where
the word is still STATUS w0, so none opens once the adoption has disabled or moved the STATUS window (R113). -/
def openingWrite (a : Access) (m : Word) (s : State) : State :=
  treatWrite (openOrRefuse m) a (closeVisit false (setPatronCopy 65535#32 s))

/-- A write to STATUS w0, judged by Table 7-3 on the merged copy. -/
def patronWrite (a : Access) (s : State) : State :=
  let m := mergeLanes s.visit.patronCopy a.data a.strobes
  if m.toNat < s.active.borrowerCount then
    if crqFull s then hold a .requestRoom s
    else if s.visiting m.toNat then refreshVisit m.toNat (forward a (setPatronCopy m s))
    else openingWrite a m s
  else if m = 65535#32 then closeVisit false (forward a (setPatronCopy m s))
  else refusePatron a s

/-- An event word is answered with its latch, and every bit returned is cleared (R184). -/
def answerLatchA (s : State) : State :=
  completeRead (s.events.latchA.setWidth 32) (s.setEvents { s.events with latchA := 0#15 })

/-- The same of latch B. -/
def answerLatchB (s : State) : State :=
  completeRead (s.events.latchB.setWidth 32) (s.setEvents { s.events with latchB := 0#12 })

/-- A read served from the queue, or forwarded to the store (R155). -/
def passRead (a : Access) (s : State) : State :=
  match queued s.path.pwq a.addr with
  | some d => completeRead d s
  | none => forward a s

/-- The treatment of a read. -/
def treatRead (a : Access) (s : State) : State :=
  match regionOf s.active a.addr with
  | .window .status 8 => answerLatchA s
  | .window .status 9 => answerLatchB s
  | _ => passRead a s

/-- The judgement of an upstream access while RUNNING (R155). -/
def judge (a : Access) (s : State) : State :=
  if busyAt s a.addr then hold a .busy s
  else if a.write && queueHolds s a.addr then hold a .ordering s
  else if a.write then treatWrite patronWrite a s
  else treatRead a s

/-! ### Arrival, resumption and the store access -/

/-- An upstream access is presented: judged while RUNNING, and held otherwise. The bus carries one access at a time, so
with another outstanding, or without power, none is presented. -/
def arrive (a : Access) (s : State) : Answer :=
  actIf (s.pins.mainPower && s.path.upstream = .idle)
    (fun s => if s.running then judge a s else hold a .startStop s) s

/-- An upstream write arrives. -/
def arriveWrite (addr : Addr) (data : Word) (strobes : Strobes) (s : State) : Answer :=
  arrive ⟨true, addr, data, strobes⟩ s

/-- An upstream read arrives. -/
def arriveRead (addr : Addr) (s : State) : Answer := arrive ⟨false, addr, 0#32, 0#4⟩ s

/-- The hold of an access has ended (Table 9-4). A hold for a status read ends at that read, unless an adoption has taken
its word out of the loan slots. -/
def holdEnded (s : State) (a : Access) (why : Hold) : Bool :=
  s.running &&
    (match why with
    | .startStop => true
    | .busy => !busyAt s a.addr
    | .ordering => !queueHolds s a.addr
    | .statusRead => (statusReadSlot s).isNone
    | .requestRoom => !crqFull s)

/-- The held access whose hold has ended. -/
def resumable (s : State) : Option Access :=
  match s.path.upstream with
  | .held a why => if holdEnded s a why then some a else none
  | _ => none

/-- The status read of a held write returns: its state is recorded and the write judged (R7). -/
def statusReadReturned (a : Access) (slot : Nat) (s : State) : State :=
  let st := (readStatus (internalRead s (s.active.loanAddr slot 0))).state
  judge a (recordState slot st s)

/-- The access held for a status read and its slot, when the read can return now. -/
def statusReadReady (s : State) : Option (Access × Nat) :=
  match s.path.upstream, statusReadSlot s with
  | .held a .statusRead, some i =>
    if readServed s .upstream (s.active.loanAddr i 0) then some (a, i) else none
  | _, _ => none

/-- The store access of a judged upstream access (R155, R169). A read takes the newest queue entry for its word. -/
def storeAccess (a : Access) (s : State) : State :=
  if a.write then completeWrite (s.setStore (writeWord s.store a.addr a.data a.strobes))
  else completeRead (behind s a.addr) s

/-- The judged access whose store access can be made now: at its turn of the port, or for a read of a queued word at once. An
access that was judged and forwarded before a claim on its slot or borrower began completes while that claim stands: R155 judges
no forwarded access again, and R10 has no access complete in that time (DESIGN CHOICE, notes/assumptions/12.md). -/
def storeReady (s : State) : Option Access :=
  match s.path.upstream with
  | .forwarded a =>
    if granted s = some .upstream || (!a.write && queueHolds s a.addr) then some a else none
  | _ => none

end Sys2Proof.Machine
end

