-- ==== Sys2Proof/Machine/Accesses.lean ====
section
/-! DEFINITION. The other upstream accesses (Chapters 3, 6, 9, 10, 11) and what the Store Path does with an access it holds or
has judged: SCAN_CONSUMER_WRITE, CLOCK_SET_WORD_WRITE, EVENT_WORD_READ, PROFILE_WORD_WRITE, ADOPTION_REQUEST, CALENDAR_WRITE,
LOAN_DESCRIPTIVE_WRITE, GUARDED_WRITE, HELD_ACCESS_RESUME and FORWARDED_UPSTREAM_ACCESS. -/

namespace Sys2Proof.Machine

/-- SCAN_CONSUMER_WRITE (R110). -/
def execScanConsumerWrite (addr : Addr) (data : Word) (strobes : Strobes) (s : State) : Answer :=
  arriveWrite addr data strobes s

/-- CLOCK_SET_WORD_WRITE (R47). -/
def execClockSetWordWrite (addr : Addr) (data : Word) (strobes : Strobes) (s : State) : Answer :=
  arriveWrite addr data strobes s

/-- EVENT_WORD_READ (R184). Any other read is treated by R155. -/
def execEventWordRead (addr : Addr) (s : State) : Answer := arriveRead addr s

/-- PROFILE_WORD_WRITE (R163, R172). -/
def execProfileWordWrite (addr : Addr) (data : Word) (strobes : Strobes) (s : State) : Answer :=
  arriveWrite addr data strobes s

/-- ADOPTION_REQUEST: a write to profile word 127 (R173). -/
def execAdoptionRequest (data : Word) (strobes : Strobes) (s : State) : Answer := arriveWrite 127#22 data strobes s

/-- CALENDAR_WRITE (R58). -/
def execCalendarWrite (addr : Addr) (data : Word) (strobes : Strobes) (s : State) : Answer := arriveWrite addr data strobes s

/-- LOAN_DESCRIPTIVE_WRITE (R160). -/
def execLoanDescriptiveWrite (addr : Addr) (data : Word) (strobes : Strobes) (s : State) : Answer :=
  arriveWrite addr data strobes s

/-- GUARDED_WRITE (R159). -/
def execGuardedWrite (addr : Addr) (data : Word) (strobes : Strobes) (s : State) : Answer := arriveWrite addr data strobes s

/-- HELD_ACCESS_RESUME (R166). -/
def execHeldAccessResume (s : State) : Answer :=
  match resumable s with
  | some a => done (judge a s)
  | none => idle s

/-- FORWARDED_UPSTREAM_ACCESS (R155, R169). -/
def execForwardedUpstreamAccess (s : State) : Answer :=
  match storeReady s with
  | some a => done (storeAccess a s)
  | none => idle s

end Sys2Proof.Machine
end

