-- ==== Sys2Proof/Machine/ClockTick.lean ====
section
/-! DEFINITION. The advance of the desk clock (R43, R44), the day rollover (R51) and the upload alarm (R60). -/

namespace Sys2Proof.Machine

/-- The clock one second later, carrying into minutes and days. -/
def Calendar.advanced (c : Calendar) : Calendar :=
  if c.second + 1 < 60 then { c with second := c.second + 1 }
  else if c.minute + 1 < 1440 then { c with second := 0, minute := c.minute + 1 }
  else { c with second := 0, minute := 0, day := c.day + 1 }

/-- The last second of the calendar, at which the clock holds (R44). -/
def Calendar.atHold (c : Calendar) : Bool :=
  c.day = Config.lastDay && c.minute = Config.lastMinute && c.second = 59

/-- The alarm fields match the clock (R60). -/
def alarmMatches (f : AlarmFields) (c : Calendar) : Bool :=
  f.weekdays.getLsbD (weekday c.day) && (!f.minuteEnable || c.minute % 60 = f.minute) &&
    (!f.hourEnable || c.minute / 60 = f.hour)

/-- A start request of the alarm: an upload starts, or ALARM_MISSED is raised (R142). -/
def alarmFires (s : State) : State := if s.upload.state = .idle then startUpload s else raise .alarmMissed 0 s

/-- The upload alarm evaluated at second 0 of a minute (R60). -/
def evaluateAlarm (s : State) : State :=
  if s.running && s.calendar.valid && s.calendar.second = 0 && s.active.alarm.weekdays ≠ 0#7 &&
      alarmMatches s.active.alarm s.calendar then alarmFires s
  else s

/-- The turn of a day sends a rollover notice with minute 0, while the clock is valid (R51). -/
def rollover (before : Nat) (s : State) : State :=
  if before < s.calendar.day && s.calendar.valid then sendNotice ⟨s.calendar.day, 0⟩ s else s

/-- The prescaler returns to 0 (R43, R44, R46). -/
def clockAdvance (s : State) : State :=
  let c : Calendar := { s.calendar with prescaler := 0 }
  if c.atHold then writeClockMirror (s.setCalendar c)
  else evaluateAlarm (rollover s.calendar.day (writeClockMirror (s.setCalendar c.advanced)))

end Sys2Proof.Machine
end

