-- ==== Sys2Proof/Machine/Symbols.lean ====
section
/-! DEFINITION. The symbology and the decoding of a pass (6.2, 6.3, R97 to R106), as a function of its element widths. -/

namespace Sys2Proof.Machine

/-! ### Scan errors (Table 6-4) -/

/-- LENGTH. -/
abbrev errLength : Nat := 1
/-- AMBIGUOUS. -/
abbrev errAmbiguous : Nat := 2
/-- RATIO. -/
abbrev errRatio : Nat := 3
/-- GAP. -/
abbrev errGap : Nat := 4
/-- SPEED. -/
abbrev errSpeed : Nat := 5
/-- PATTERN. -/
abbrev errPattern : Nat := 6
/-- NO_START. -/
abbrev errNoStart : Nat := 7
/-- NO_STOP. -/
abbrev errNoStop : Nat := 8
/-- NO_MARK. -/
abbrev errNoMark : Nat := 9
/-- NOT_DIGIT. -/
abbrev errNotDigit : Nat := 10
/-- CHECK. -/
abbrev errCheck : Nat := 11
/-- BAR_TOO_LONG. -/
abbrev errBarTooLong : Nat := 12
/-- TOO_LONG. -/
abbrev errTooLong : Nat := 13
/-- DECODER_BUSY. -/
abbrev errDecoderBusy : Nat := 14

/-! ### Characters (R97, Table 6-3) -/

/-- What a character says. -/
inductive Meaning where
  | start
  | stop
  | item
  | patron
  | digit (n : Nat)
  deriving DecidableEq, Repr

/-- The meaning of a pair of wide positions in the forward reading (Table 6-3). -/
def forwardMeaning (p q : Nat) : Option Meaning :=
  match p, q with
  | 1, 2 => some (.digit 0)
  | 1, 3 => some .start
  | 1, 4 => some (.digit 1)
  | 1, 5 => some (.digit 2)
  | 1, 6 => some (.digit 3)
  | 1, 7 => some (.digit 4)
  | 2, 3 => some (.digit 5)
  | 2, 4 => some (.digit 6)
  | 2, 6 => some (.digit 7)
  | 2, 7 => some (.digit 8)
  | 3, 4 => some (.digit 9)
  | 3, 5 => some .item
  | 3, 6 => some .stop
  | 3, 7 => some .patron
  | _, _ => none

/-- The meaning of a pair in the backward reading: position p is read as 8 − p. -/
def backwardMeaning (p q : Nat) : Option Meaning := forwardMeaning (8 - q) (8 - p)

/-- A width placed among widths in falling order. -/
def insertDown (w : Nat) : List Nat → List Nat
  | [] => [w]
  | x :: rest => if x ≤ w then w :: x :: rest else x :: insertDown w rest

/-- Widths in falling order. -/
def ranked : List Nat → List Nat
  | [] => []
  | w :: rest => insertDown w (ranked rest)

/-- The width of the narrower wide element. -/
def secondWidest (c : List Nat) : Nat := (ranked c).getD 1 0

/-- The width of the widest narrow element. -/
def thirdWidest (c : List Nat) : Nat := (ranked c).getD 2 0

/-- The sum of the two wide widths. -/
def wideSum (c : List Nat) : Nat := (ranked c).getD 0 0 + secondWidest c

/-- The positions, counted from `n`, of the elements at least `w` wide. -/
def positionsFrom (w n : Nat) : List Nat → List Nat
  | [] => []
  | x :: rest => if w ≤ x then n :: positionsFrom w (n + 1) rest else positionsFrom w (n + 1) rest

/-- The wide positions of a character whose boundary is defined. -/
def widePair (c : List Nat) : Nat × Nat :=
  ((positionsFrom (secondWidest c) 1 c).getD 0 0, (positionsFrom (secondWidest c) 1 c).getD 1 0)

/-- The characters of a pass of `k` characters, in capture order. -/
def charactersOf (ws : List Nat) (k : Nat) : List (List Nat) := (List.range k).map fun j => (ws.drop (8 * j)).take 7

/-- The gaps of a pass of `k` characters. -/
def gapsOf (ws : List Nat) (k : Nat) : List Nat := (List.range (k - 1)).map fun j => ws.getD (8 * j + 7) 0

/-! ### The checks -/

/-- The ratio check (R100): the error of the first character that fails. -/
def ratioError : List (List Nat) → Option Nat
  | [] => none
  | c :: rest =>
    if secondWidest c = thirdWidest c then some errAmbiguous
    else if 2 * secondWidest c < 3 * thirdWidest c then some errRatio
    else ratioError rest

/-- The gap check passes (R101). -/
def gapsGood (cs : List (List Nat)) (gaps : List Nat) : Bool := (cs.zip gaps).all fun p => decide (p.2 ≤ wideSum p.1)

/-- The speed check passes (R102). -/
def speedGood : List Nat → Bool
  | a :: b :: rest => decide (a ≤ 2 * b) && decide (b ≤ 2 * a) && speedGood (b :: rest)
  | _ => true

/-- The forward reading of the pairs. -/
def readForward (ps : List (Nat × Nat)) : List (Option Meaning) := ps.map fun p => forwardMeaning p.1 p.2

/-- The backward reading: the characters from last to first. -/
def readBackward (ps : List (Nat × Nat)) : List (Option Meaning) := ps.reverse.map fun p => backwardMeaning p.1 p.2

/-- The pattern check passes (R103). -/
def patternGood (ps : List (Nat × Nat)) : Bool :=
  (readForward ps).all (fun m => m.isSome) || (readBackward ps).all (fun m => m.isSome)

/-- The reading the first pair chooses, with its direction; none is NO_START (R104). -/
def chosenReading (ps : List (Nat × Nat)) : Option (List (Option Meaning) × Bool) :=
  match ps with
  | (1, 3) :: _ => some (readForward ps, false)
  | (2, 5) :: _ => some (readBackward ps, true)
  | _ => none

/-- The digits of a run of characters, none when one is no digit. -/
def digitsOf : List (Option Meaning) → Option (List Nat)
  | [] => some []
  | some (.digit n) :: rest => (digitsOf rest).map fun ds => n :: ds
  | _ :: _ => none

/-- The weighted sum of the data digits, rightmost first, with the weight of the first (R106). -/
def weighted : List Nat → Nat → Nat
  | [], _ => 0
  | d :: rest, w => w * d + weighted rest (4 - w)

/-- The check digit of data digits. -/
def checkDigit (data : List Nat) : Nat := (10 - weighted data.reverse 3 % 10) % 10

/-- What a decode comes to. -/
inductive Decoded where
  | error (code : Nat)
  | content (c : ScanContent)
  deriving DecidableEq, Repr

/-- The check digit test (R106) of digits whose last is the check digit. -/
def checkTest (patron backward : Bool) (ds : List Nat) : Decoded :=
  if ds.getLastD 0 = checkDigit ds.dropLast then .content ⟨patron, backward, ds.dropLast⟩ else .error errCheck

/-- The structure check (R105), and then the check digit test. -/
def structureTest (ms : List (Option Meaning)) (backward : Bool) : Decoded :=
  if ms.getLast? ≠ some (some .stop) then .error errNoStop
  else if ms[1]? ≠ some (some .item) ∧ ms[1]? ≠ some (some .patron) then .error errNoMark
  else
    match digitsOf ((ms.drop 2).dropLast) with
    | none => .error errNotDigit
    | some ds => checkTest (ms[1]? = some (some .patron)) backward ds

/-- The direction step (R104). -/
def directionTest (ps : List (Nat × Nat)) : Decoded :=
  match chosenReading ps with
  | none => .error errNoStart
  | some (ms, backward) => structureTest ms backward

/-- The pattern step (R103). -/
def patternTest (ps : List (Nat × Nat)) : Decoded := if patternGood ps then directionTest ps else .error errPattern

/-- The ten steps applied to the characters and gaps of a pass (R100 to R106). -/
def decodeCharacters (cs : List (List Nat)) (gaps : List Nat) : Decoded :=
  match ratioError cs with
  | some e => .error e
  | none =>
    if !gapsGood cs gaps then .error errGap
    else if !speedGood (cs.map List.sum) then .error errSpeed
    else patternTest (cs.map widePair)

/-- The decoding of a pass's element widths (R99 to R106). -/
def decodePass (ws : List Nat) : Decoded :=
  let k := (ws.length + 1) / 8
  if (ws.length + 1) % 8 = 0 ∧ 5 ≤ k ∧ k ≤ 24 then decodeCharacters (charactersOf ws k) (gapsOf ws k)
  else .error errLength

end Sys2Proof.Machine
end

