-- ==== Sys2Proof/Machine/WandOps.lean ====
section
/-! DEFINITION. The Wand Front End at work (Chapter 6): its time, the capture of elements, the end of a pass, the outcome of a
decode and the scan ring. -/

namespace Sys2Proof.Machine

/-- The Wand Front End changed in place. -/
def onWand (f : Wand → Wand) (s : State) : State := s.setWand (f s.wand)

/-! ### Time (R91) -/

/-- The repeat-guard memory after `ms` more milliseconds: EMPTY once the count has run 2,000 ms past its end stamp (R107). -/
def guardAfter (w : Wand) (ms : Nat) : Option GuardMemory :=
  match w.guard with
  | some g => if Config.guardLife ≤ (w.ms - g.endStamp).toNat + ms then none else some g
  | none => none

/-- `n` wand ticks pass: the capture counter counts them, holding at 65,535, and the millisecond count advances. -/
def Wand.tick (w : Wand) (n : Nat) : Wand :=
  let ms := (w.msPhase + n) / Config.ticksPerMs
  { w with
    counter := min Config.barLimit (w.counter + n)
    ms := w.ms + BitVec.ofNat 32 ms
    msPhase := (w.msPhase + n) % Config.ticksPerMs
    guard := guardAfter w ms }

/-- The width of the element under way, what it has merged included. -/
def Wand.width (w : Wand) : Nat := w.base + w.counter

/-! ### The end of a pass -/

/-- A pass is discarded with a scan error (R98). -/
def scanBad (code : Nat) (s : State) : State := requestTone .rejectScan (raise .scanBad code s)

/-- The capture buffer emptied, and a capture state entered. -/
def Wand.enter (st : CaptureState) (w : Wand) : Wand := { w with capture := st, buffer := [], count := 0, base := 0 }

/-- The pass in the capture buffer, its widths in capture order. -/
def Wand.pass (w : Wand) : Pass := ⟨w.buffer.reverse, w.count, w.startStamp, w.ms⟩

/-- The two buffers exchange roles (R96). -/
def Wand.handOver (w : Wand) : Wand := { w.enter .armed with decodeBuffer := w.pass, decoder := .busy }

/-- A pass ends at a space that reaches the quiet time (R94, R96). -/
def endPass (s : State) : State :=
  if Config.bufferMax < s.wand.count then scanBad errTooLong (onWand (Wand.enter .armed) s)
  else if s.wand.decoder = .free then onWand Wand.handOver s
  else scanBad errDecoderBusy (onWand (Wand.enter .armed) s)

/-- A space has reached the quiet time. -/
def quietReached (s : State) : State :=
  match s.wand.capture with
  | .quietWait => onWand (Wand.enter .armed) s
  | .armed => s
  | .capture => endPass s

/-- The bar under way has been discarded with its pass: the counter holds at 65,535 until the next edge, whatever part of the
bar it had counted itself (R95). -/
def Wand.overLong (w : Wand) : Wand := { w.enter .quietWait with counter := Config.barLimit }

/-- A bar in CAPTURE has reached 65,535 ticks (R95). -/
def barOver (s : State) : State := scanBad errBarTooLong (onWand Wand.overLong s)

/-- The ticks until the space under way reaches the quiet time, in a state where that is an event. -/
def ticksToQuiet (s : State) : Option Nat :=
  if s.pins.wandBar then none
  else
    match s.wand.capture with
    | .quietWait => some (Config.ticksPerMs * s.active.quietTime - s.wand.width)
    | .armed => none
    | .capture => some (Config.ticksPerMs * s.wand.passQuiet - s.wand.width)

/-- The ticks until the bar under way reaches 65,535, in a state where that is an event. -/
def ticksToBarLimit (s : State) : Option Nat :=
  if s.pins.wandBar && s.wand.capture = .capture then some (Config.barLimit - s.wand.width) else none

/-- `n` ticks pass with the level unchanged; what the element under way reaches meanwhile happens at its own moment. -/
def passTime (n : Nat) (s : State) : State :=
  match ticksToQuiet s, ticksToBarLimit s with
  | some d, _ =>
    if d ≤ n then onWand (fun w => w.tick (n - d)) (quietReached (onWand (fun w => w.tick d) s))
    else onWand (fun w => w.tick n) s
  | none, some d =>
    if d ≤ n then onWand (fun w => w.tick (n - d)) (barOver (onWand (fun w => w.tick d) s))
    else onWand (fun w => w.tick n) s
  | none, none => onWand (fun w => w.tick n) s

/-! ### Edges (R91 to R93) -/

/-- The previous element is taken back, and the element under way goes on as its continuation with the short element's
width. Above 192 elements no width is kept (R93). The count is short of the short element, which ends here, so the count it lowers by
two with that element falls by 1, and a pass that reaches its end has an odd count (R94; notes/assumptions/15.md). -/
def Wand.absorb (w : Wand) : Wand :=
  if w.count ≤ Config.bufferMax then
    { w with base := w.buffer.headD 0 + w.width, buffer := w.buffer.tail, count := w.count - 1 }
  else { w with base := 0, count := w.count - 1 }

/-- An element is stored; above 192 it is counted and its width not kept (R94). -/
def Wand.store (w : Wand) : Wand :=
  { w with
    buffer := if w.count < Config.bufferMax then w.width :: w.buffer else w.buffer
    count := w.count + 1
    base := 0 }

/-- An element of a pass ends: the first bar may cancel the pass, a short element is absorbed, any other is stored. -/
def Wand.element (w : Wand) : Wand :=
  if w.width < w.passGlitch then (if w.count = 0 then w.enter .armed else w.absorb) else w.store

/-- A pass begins (R92), with the quiet time and the glitch limit in force. -/
def Wand.begin (w : Wand) (p : Profile) : Wand :=
  { w.enter .capture with startStamp := w.ms, passQuiet := p.quietTime, passGlitch := p.glitchLimit }

/-- An element ends outside a pass: in QUIET_WAIT a space is measured with the absorption of short bars. `bar` is the level
that ends. DESIGN CHOICE: a bar already under way when capture begins at a start, with no space before it, counts as quiet when it
ends under the glitch limit (notes/assumptions/15.md). -/
def Wand.outside (w : Wand) (p : Profile) (bar : Bool) : Wand :=
  match w.capture, bar with
  | .armed, false => w.begin p
  | .armed, true => w
  | _, false => { w with spaceBefore := w.width, base := 0 }
  | _, true => { w with spaceBefore := 0, base := if w.counter < p.glitchLimit then w.spaceBefore + w.counter else 0 }

/-- The element under way ends at an edge, and the counter begins again. -/
def Wand.edge (w : Wand) (p : Profile) (bar : Bool) : Wand :=
  { (if w.capture = .capture then w.element else w.outside p bar) with counter := 0 }

/-- The level of WAND_IN after a change. -/
def flipLevel (s : State) : State := s.setPins { s.pins with wandBar := !s.pins.wandBar }

/-- An edge of WAND_IN, `n` ticks after the last event of the wand; an element is held at least one tick. -/
def wandEdge (n : Nat) (s : State) : State :=
  let s1 := passTime (max n (1 - s.wand.counter)) s
  flipLevel (onWand (fun w => w.edge s1.active s1.pins.wandBar) s1)

/-! ### The outcome of a decode (R98, R107, R108) -/

/-- The decoder is FREE. -/
def freeDecoder (s : State) : State := onWand (fun w => { w with decoder := .free }) s

/-- The pass repeats what the memory holds, within the guard time (R107). -/
def repeats (s : State) (c : ScanContent) : Bool :=
  match s.wand.guard with
  | some g =>
    decide (c.patron = g.patron) && decide (c.digits = g.digits) &&
      decide ((s.wand.decodeBuffer.startStamp - g.endStamp).toNat < s.active.repeatGuard)
  | none => false

/-- A REPEAT drop (R107, R111). -/
def dropRepeat (s : State) : State :=
  let s1 := onWand (fun w => { w with
    repeats := min (w.repeats + 1) 65535
    guard := w.guard.map fun g => { g with endStamp := w.decodeBuffer.endStamp }
    decoder := .free }) s
  if s1.wand.repeats = s.wand.repeats then s1 else reportWandCounts s1

/-- The guard memory takes an accepted pass, and the decoder becomes FREE. -/
def rememberScan (c : ScanContent) (s : State) : State :=
  onWand (fun w => { w with guard := some ⟨c.patron, c.digits, w.decodeBuffer.endStamp⟩, decoder := .free }) s

/-- The end of every accepted scan: the ACCEPT tone and the idle timer. -/
def acceptScan (c : ScanContent) (s : State) : State := reloadTimer (requestTone .accept (rememberScan c s))

/-- An accepted pass: offered to the ring, or finished at once while the SCAN window is disabled. -/
def offerScan (c : ScanContent) (s : State) : State :=
  if s.active.scanWin.enable then
    beginWait .scanRecord [] false (onWand (fun w => { w with decoder := .offering c }) s)
  else acceptScan c s

/-- The decoder reaches the outcome of its pass, or offers it. -/
def decodeOutcome (s : State) : State :=
  match decodePass s.wand.decodeBuffer.widths with
  | .error code => scanBad code (freeDecoder s)
  | .content c => if repeats s c then dropRepeat s else offerScan c s

/-! ### The scan ring (R108, R109) -/

/-- The unread records: the producer less the consumer, modulo 65,536. -/
def Wand.unread (w : Wand) : Nat := (w.producer - w.consumer).toNat

/-- The queue room a scan record waits for. -/
def scanRoom (s : State) : Nat := if s.active.statusWin.enable then 5 else 4

/-- The scan record at its ring place. -/
def scanEntries (s : State) (c : ScanContent) : List QEntry :=
  ((scanWords s.wand.producer s.reading c).zipIdx).map fun p =>
    ⟨s.active.scanWin.at (4 * (s.wand.producer.toNat % Config.ringSize) + p.2), p.1⟩

/-- The record and the producer mirror enter the queue, and the scan is accepted. -/
def writeScan (c : ScanContent) (s : State) : State :=
  let w11 := word (s.wand.producer + 1#16).toNat
  let s1 := follow [(11, w11)] (enqueue (scanEntries s c ++ mirrorWrite s 11 w11) s)
  let s2 := onWand (fun w => { w with producer := w.producer + 1#16 }) s1
  acceptScan c (raise .scanReady 0 s2)

/-- The ring is full: the scan is dropped. -/
def overrun (s : State) : State :=
  let s1 := onWand (fun w => { w with overruns := min (w.overruns + 1) 65535, decoder := .free }) s
  let s2 := if s1.wand.overruns = s.wand.overruns then s1 else reportWandCounts s1
  requestTone .rejectScan (raise .scanOverrun 0 s2)

/-- The act of an accepted scan. -/
def scanAct (c : ScanContent) (s : State) : State :=
  let s1 := leaveWait .scanRecord s
  if !s.active.scanWin.enable then acceptScan c s1
  else if s.wand.unread < Config.ringSize then writeScan c s1
  else overrun s1

/-- The accepted scan whose act can be made now. -/
def scanReady (s : State) : Option ScanContent :=
  match s.wand.decoder with
  | .offering c =>
    if !s.active.scanWin.enable || (atFront s .scanRecord && decide (scanRoom s ≤ pwqFree s)) then some c else none
  | _ => none

/-- The ticks until the repeat-guard memory empties. -/
def ticksToGuardEnd (w : Wand) : Option Nat :=
  match w.guard with
  | some g => some (Config.ticksPerMs * (Config.guardLife - (w.ms - g.endStamp).toNat) - w.msPhase)
  | none => none

end Sys2Proof.Machine
end

