-- ==== Sys2Proof/Machine/StartOps.lean ====
section
/-! DEFINITION. The orderly stop (R25, R57, R112, R130, R154, R170, R174, R187), the starts (R178 to R181) and the losses of
power. -/

namespace Sys2Proof.Machine

/-! ### The orderly stop -/

/-- The claims of the operation in flight. -/
def opClaims (op : Op) : List Claim :=
  (op.kind.slot.map Claim.loan).toList ++ (op.borrower.map Claim.borrower).toList

/-- The engine at a stop: a decided operation stays in COMMIT, every other is abandoned, and the CRQ is discarded with its
claims (R25). -/
def Engine.stopped (e : Engine) : Engine :=
  match e.state, e.op with
  | .commit, some op => { e with crq := [], busy := opClaims op }
  | _, _ => { e with crq := [], busy := [], state := .idle, op := none }

/-- The wand at a stop: its passes are abandoned (R112). -/
def Wand.stopped (w : Wand) : Wand := { w.enter .quietWait with decoder := .free }

/-- The Visit Unit at a stop: its slips are discarded and the printer line stops after the byte in progress (R130). The visit
record stands until the engine has settled. -/
def VisitUnit.stopped (v : VisitUnit) : VisitUnit := { v with slips := [], printer := .idle }

/-- The Upload Engine at a stop: its state is lost, and the line stops after the byte in progress (R154). -/
def Upload.stopped (u : Upload) : Upload := { Upload.freshWith u.params with cutByte := !u.tx.isEmpty || u.cutByte }

/-- The upstream access at a stop: one already judged completes, any other is held until the next start. -/
def Upstream.stopped (u : Upstream) : Upstream :=
  match u with
  | .held a _ => .held a .startStop
  | .forwarded a => .forwarded a
  | .idle => .idle

/-- The Store Path at a stop. A scan record that waits is abandoned with its pass. The queue keeps what it holds: the JOURNAL_LOST
stamp words that a start's tail repair has placed drain also when the start is abandoned in its list load, since R170 drains the
queue and R178 has such a start leave nothing of its own work (DESIGN CHOICE, notes/assumptions/25.md). -/
def StorePath.stopped (p : StorePath) (reset : Bool) : StorePath :=
  { p with
    state := .stopping, stage := .none, resetSeen := reset, upstream := p.upstream.stopped
    waiting := keepWaiting (fun g => g.owner ≠ .scanRecord) false p.waiting
    startReads := [] }

/-- The orderly stop begins. -/
def beginStop (s : State) : State :=
  settleVisit { s with
    path := s.path.stopped s.pins.reset
    engine := s.engine.stopped
    calendar := { s.calendar with load := none }
    wand := s.wand.stopped
    visit := s.visit.stopped
    upload := s.upload.stopped
    profile := { s.profile with candidate := none }
    events := { s.events with sounder := none } }

/-- The stop begins at an assertion while RUNNING or STARTING; during a stop or a wait an assertion of RESET is remembered
(R178). -/
def lineAsserted (s : State) : State :=
  match s.path.state with
  | .running => beginStop s
  | .starting => beginStop s
  | _ => s.setPath { s.path with resetSeen := s.path.resetSeen || s.pins.reset }

/-- An upstream access is on its way to the store. -/
def Upstream.underWay (u : Upstream) : Bool :=
  match u with
  | .forwarded _ => true
  | _ => false

/-- The stop has settled (R170). -/
def settled (s : State) : Bool :=
  s.path.state = .stopping && s.path.pwq.isEmpty && s.path.waiting.isEmpty && s.engine.op.isNone &&
    !s.path.upstream.underWay && !s.visit.byteInProgress && !s.upload.cutByte

/-- The Store Path enters PARKED (R170). -/
def park (s : State) : State := s.setPath { s.path with state := .parked }

/-! ### The beginning of a start (R178, R179) -/

/-- The held access a start finds. -/
def Upstream.carried (u : Upstream) : Upstream :=
  match u with
  | .held a _ => .held a .startStop
  | _ => .idle

/-- A start of kind `k` begins: every block takes its state after a start. -/
def beginStart (k : StartKind) (s : State) : State :=
  { s with
    path := .freshWith k s.path.upstream.carried
    engine := .fresh
    calendar := s.calendar.freshWith
    wand := .fresh
    visit := .fresh
    journal := .fresh
    upload := .freshWith defaultProfile.upload
    profile := .fresh
    events := .fresh }

/-- RESET and PFAIL are both deasserted. -/
def Pins.released (p : Pins) : Bool := !p.reset && !p.pfail

/-- The kind of a start from PARKED. -/
def parkedKind (s : State) : StartKind := if s.path.resetSeen then .resetLine else .pfailRelease

/-- A start may begin from PARKED. -/
def startReady (s : State) : Bool := s.path.state = .parked && s.pins.released && s.pins.mainPower

/-- A line is released: a power-on start that waited for the lines begins. -/
def lineReleased (s : State) : State :=
  if s.path.stage = .awaitLines && s.pins.released then beginStart .powerOn s else s

/-- The backup-loss record read at power-on, and cleared (R45). -/
def readLossRecord (c : Calendar) : Calendar :=
  if c.backupLoss then { c with day := 0, minute := 0, second := 0, prescaler := 0, valid := false, backupLoss := false }
  else c

/-- Main power reaches its working level. -/
def powerArrives (s : State) : State :=
  let s1 := beginStart .powerOn
    ((s.setPins { s.pins with mainPower := true }).setCalendar (readLossRecord s.calendar))
  if s1.pins.released then s1 else s1.setPath { s1.path with stage := .awaitLines }

/-- Main power is lost without warning: every block loses its state, and the store keeps what the queue had drained (R25). -/
def powerFails (s : State) : State :=
  let s1 := beginStart .powerOn (s.setPins { s.pins with mainPower := false })
  s1.setPath { s1.path with state := .parked, stage := .none, upstream := .idle }

/-! ### Restoring (R179, R180) -/

/-- The words the start's present stage has read. -/
def setStartReads (ws : List Word) (s : State) : State := s.setPath { s.path with startReads := ws }

/-- The stored profile put in force, or the default profile (R177, R179). -/
def putInForce (ws : List Word) (s : State) : State :=
  if profileGood ws then
    raiseClamped (readProfile ws).clampsMade (s.setProfile { s.profile with
      shadow := ws, active := (readProfile ws).clamp, defaultInForce := false })
  else
    raise .profileRejected 0 (s.setProfile { s.profile with
      shadow := ws, active := defaultProfile, defaultInForce := true })

/-- What a start restores: STATUS w11, w1, w12, w13, w17 and w20. -/
structure Restored where
  w11 : Word
  w1 : Word
  w12 : Word
  w13 : Word
  w17 : Word
  w20 : Word
  deriving DecidableEq, Repr

/-- The sweep record's last-swept day restored, read as 36,524 when larger. -/
def restoreSweep (w17 : Word) (s : State) : State :=
  let sw : Sweep := { s.engine.sweep with lastSwept := min (field w17 0 16) Config.lastDay }
  s.setEngine { s.engine with sweep := sw, sweepWord := sweepWordOf sw }

/-- The counts restored, not yet repaired. -/
def restoreCounts (r : Restored) (s : State) : State :=
  restoreSweep r.w17
    ((s.setWand { s.wand with producer := r.w11.setWidth 16, consumerCopy := word (field r.w1 0 16) }).setJournal
      { s.journal with head := r.w12, tail := r.w13, lossCount := field r.w20 0 16 })

/-- A tail further from the head than the capacity becomes the head (R180). -/
def repairTail (s : State) : State :=
  if s.active.capacity < s.present then
    let s1 := countLoss (s.setJournal { s.journal with tail := s.journal.head })
    raise .journalLost (s.active.statusAddr 13).toNat (s1.setPath { s1.path with repairedTail := true })
  else s

/-- A consumer outside 0..32 of the producer becomes the producer (R180). -/
def repairConsumer (s : State) : State :=
  if Config.ringSize < s.wand.unread then
    (setConsumer (word s.wand.producer.toNat) s).setPath { s.path with repairedConsumer := true }
  else s

/-! ### Completing (R181) -/

/-- The STATUS words the start writes, in word order. -/
def startWords (p : StorePath) : List Nat :=
  [0] ++ (if p.repairedConsumer then [1] else []) ++ [10] ++ (if p.repairedTail then [13] else []) ++
    [14, 15, 16, 18, 19, 20, 21, 22, 23, 24, 25, 26, 27, 28, 29, 30, 31]

/-- The groups of at most 16 words. -/
def writeStartWords (s : State) : State :=
  let ws := statusWords s (startWords s.path)
  produce .startUp (ws.drop 16) true (produce .startUp (ws.take 16) true s)

/-- The code of a start kind (Table 12-7). -/
def StartKind.code : StartKind → Nat
  | .powerOn => 0
  | .resetLine => 1
  | .pfailRelease => 2

/-- The START_UP entry. -/
def startEntry (s : State) : JEntry :=
  plainEntry .startUp s.reading
    (s.path.startKind.code + 4 * flag s.profile.defaultInForce +
      8 * flag (s.path.repairedTail || s.path.repairedConsumer)) 0#32 0#32 0#32

/-- The held access is judged from its first step. -/
def releaseHeld (s : State) : State :=
  match s.path.upstream with
  | .held a .startStop => judge a s
  | _ => s

/-- CLOCK_INVALID at a start with the clock-valid flag clear (R45). -/
def raiseClockInvalid (s : State) : State := if s.calendar.valid then s else raise .clockInvalid 0 s

/-- The part becomes RUNNING. -/
def enterRunning (s : State) : State := s.setPath { s.path with state := .running, stage := .none }

/-- The start completes, in the order of R181. In SERVICE mode the recovery pass over no loan slot ends in the same act with
SWEEP_DONE in latch A (R82, R87), although R182 calls latch A clear after a start (DEDUCED, notes/assumptions/34.md). A sweep
that the released access has itself started (a forward set, a word 127 that adopts SERVICE) is started again as the recovery
pass, since R88 does not say what a start's pass does to a sweep already RUNNING (DESIGN CHOICE, notes/assumptions/34.md). -/
def startComplete (s : State) : State :=
  let s1 := writeStartWords s
  let s2 := raiseClockInvalid (raise .startUp 0 (systemEntry (startEntry s1) s1))
  let s3 := releaseHeld (enterRunning s2)
  if s3.service then recoveryPass s3 else s3

/-- The list load of a start; with the CALENDAR window disabled the copy is all 0 and the start completes. -/
def startLoad (s : State) : State :=
  if s.active.calendarWin.enable then beginLoad (s.setPath { s.path with stage := .listLoad })
  else startComplete s

/-- The counters are restored and repaired, and the start goes on (R180). -/
def restore (r : Restored) (s : State) : State := startLoad (judgeLow (repairConsumer (repairTail (restoreCounts r s))))

/-- The reads of the profile region have returned (R179). -/
def profileReturned (s : State) : State :=
  let s1 := putInForce s.profile.shadow (setStartReads [] s)
  let s2 := s1.setUpload (.freshWith s1.active.upload)
  if s2.active.statusWin.enable then s2.setPath { s2.path with stage := .statusReads }
  else restore ⟨0#32, 0#32, 0#32, 0#32, 0#32, 0#32⟩ s2

/-- A read of the profile region returns: its word is placed in the pending shadow (R179). -/
def profileRead (w : Word) (s : State) : State :=
  let n := s.path.startReads.length
  let s1 := setStartReads (s.path.startReads ++ [w]) (s.setProfile { s.profile with shadow := s.profile.shadow.set n w })
  if n + 1 < 128 then s1 else profileReturned s1

/-- What the reads of the status mirrors restore, in the order of `restoredWords`. -/
def Restored.of (ws : List Word) : Restored := ⟨nth ws 0, nth ws 1, nth ws 2, nth ws 3, nth ws 4, nth ws 5⟩

/-- A read of a status mirror returns; after the last one the counts are restored (R180). -/
def statusRead (w : Word) (s : State) : State :=
  let ws := s.path.startReads ++ [w]
  if ws.length < restoredWords.length then setStartReads ws s else restore (.of ws) (setStartReads [] s)

/-- The read that a start in `stage` makes next, when it can return now. -/
def startReadReady (s : State) (stage : StartStage) : Option Addr :=
  match nextStartAddr s with
  | some a => if s.path.stage = stage && readServed s .startUp a then some a else none
  | none => none

/-! ### The list load (R57) -/

/-- A list-load read of word `n` returns. The last one ends the load, which a start or a question to the Calendar Unit may
have waited for. -/
def loadReturned (n : Nat) (w : Word) (s : State) : State :=
  let s1 := s.setCalendar { s.calendar with table := s.calendar.table.set n w, load := if n < 60 then some (n + 1) else none }
  if n < 60 then s1
  else if s.path.stage = .listLoad then startComplete s1
  else decideAfterLoad s1

/-- The list-load read that can return now. -/
def loadReady (s : State) : Option (Nat × Addr) :=
  match nextLoad s with
  | some (n, a) => if readServed s .listLoad a then some (n, a) else none
  | none => none

end Sys2Proof.Machine
end

