-- ==== Sys2Proof/Machine/ClockSteps.lean ====
section
/-! DEFINITION. The steps of the Calendar Unit (Chapter 3): CLOCK_ADVANCE and LIST_LOAD_READ_DONE. -/

namespace Sys2Proof.Machine

/-- CLOCK_ADVANCE (R43, R44). The clock counts whether the part is running or not, and with main power absent. -/
def execClockAdvance (s : State) : Answer := done (clockAdvance s)

/-- LIST_LOAD_READ_DONE (R57). -/
def execListLoadReadDone (s : State) : Answer :=
  match loadReady s with
  | some (n, a) => done (loadReturned n (internalRead s a) s)
  | none => idle s

end Sys2Proof.Machine
end

