-- ==== Sys2Proof/Machine/Commands.lean ====
section
/-! DEFINITION. The command word (9.4): UPLOAD_NOW, REPRINT, SILENCE, CLEAR_STAMPS, SET_CLOCK and COMMAND_CODE_INVALID. -/

namespace Sys2Proof.Machine

/-- UPLOAD_NOW (R142, R165). -/
def execUploadNow (addr : Addr) (strobes : Strobes) (s : State) : Answer := arriveWrite addr 1#32 strobes s

/-- REPRINT (R129, R165). -/
def execReprint (addr : Addr) (strobes : Strobes) (s : State) : Answer := arriveWrite addr 2#32 strobes s

/-- SILENCE (R165, R189). -/
def execSilence (addr : Addr) (strobes : Strobes) (s : State) : Answer := arriveWrite addr 3#32 strobes s

/-- CLEAR_STAMPS (R165, R186). -/
def execClearStamps (addr : Addr) (strobes : Strobes) (s : State) : Answer := arriveWrite addr 4#32 strobes s

/-- SET_CLOCK (R48, R165). -/
def execSetClock (addr : Addr) (strobes : Strobes) (s : State) : Answer := arriveWrite addr 5#32 strobes s

/-- COMMAND_CODE_INVALID (R165). -/
def execCommandCodeInvalid (addr : Addr) (code : Word) (strobes : Strobes) (s : State) : Answer :=
  arriveWrite addr code strobes s

end Sys2Proof.Machine
end

