-- ==== Sys2Proof/Machine/EngineSteps.lean ====
section
/-! DEFINITION. The steps of the Circulation Engine (Chapters 1, 2, 5): ENGINE_TAKE_ENTRY, FETCH_READ_DONE, COMMIT_ADMIT and
SWEEP_STEP_START. -/

namespace Sys2Proof.Machine

/-- ENGINE_TAKE_ENTRY (R11). -/
def execEngineTakeEntry (s : State) : Answer :=
  match s.engine.state, s.engine.crq with
  | .idle, e :: rest => done (takeEntry e rest s)
  | _, _ => idle s

/-- FETCH_READ_DONE (R12, R13). -/
def execFetchReadDone (s : State) : Answer :=
  match s.engine.op, nextFetch s with
  | some op, some (w, a) =>
    if readServed s .engine a then done (fetchReturned op w (internalRead s a) s) else idle s
  | _, _ => idle s

/-- COMMIT_ADMIT (R14 to R16). A commit carried through in an orderly stop settles the engine (R130). -/
def execCommitAdmit (s : State) : Answer :=
  match commitReady s with
  | some (op, d) => done (settleVisit (commitOp op d s))
  | none => idle s

/-- The engine may start a sweep step. -/
def stepReady (s : State) : Bool :=
  s.running && s.engine.state = .idle && s.engine.crq.isEmpty && s.engine.sweep.state = .running

/-- SWEEP_STEP_START (R82). -/
def execSweepStepStart (s : State) : Answer := actIf (stepReady s) startStep s

end Sys2Proof.Machine
end

