-- ==== Sys2Proof/Machine/Patron.lean ====
section
/-! DEFINITION. The current-patron word and the idle timer (Chapter 7): CURRENT_PATRON_OPEN, CURRENT_PATRON_REFRESH,
CURRENT_PATRON_CLOSE, CURRENT_PATRON_REFUSED and IDLE_TIMER_EXPIRE. -/

namespace Sys2Proof.Machine

/-- CURRENT_PATRON_OPEN (R114, R115). -/
def execCurrentPatronOpen (addr : Addr) (data : Word) (strobes : Strobes) (s : State) : Answer :=
  arriveWrite addr data strobes s

/-- CURRENT_PATRON_REFRESH (R114, R116). -/
def execCurrentPatronRefresh (addr : Addr) (data : Word) (strobes : Strobes) (s : State) : Answer :=
  arriveWrite addr data strobes s

/-- CURRENT_PATRON_CLOSE (R114, R117). -/
def execCurrentPatronClose (addr : Addr) (strobes : Strobes) (s : State) : Answer := arriveWrite addr 65535#32 strobes s

/-- CURRENT_PATRON_REFUSED (R114, R117). -/
def execCurrentPatronRefused (addr : Addr) (data : Word) (strobes : Strobes) (s : State) : Answer :=
  arriveWrite addr data strobes s

/-- IDLE_TIMER_EXPIRE (R119, R120). -/
def execIdleTimerExpire (s : State) : Answer :=
  actIf (s.running && s.visit.visit.isSome && s.visit.idleTimer.isSome) (closeVisit true) s

end Sys2Proof.Machine
end

