-- ==== Sys2Proof/Machine/PowerSteps.lean ====
section
/-! DEFINITION. The steps of stops and starts (9.7, 10.4) and of the sounder (11.3): PFAIL, RESET, STOP_PARKED, PFAIL_RELEASE,
RESET_RELEASE, START, POWER_ON, MAIN_POWER_LOSS, VBACKUP_LOSS, START_PROFILE_READ_DONE, START_STATUS_READ_DONE and
SOUNDER_SEGMENT_END. -/

namespace Sys2Proof.Machine

/-- The level of PFAIL. -/
def setPfail (b : Bool) (s : State) : State := s.setPins { s.pins with pfail := b }

/-- The level of RESET. -/
def setReset (b : Bool) (s : State) : State := s.setPins { s.pins with reset := b }

/-- PFAIL: an assertion (R170, R178). -/
def execPfail (s : State) : Answer := actIf (!s.pins.pfail) (fun s => lineAsserted (setPfail true s)) s

/-- RESET: an assertion (R170, R178). -/
def execReset (s : State) : Answer := actIf (!s.pins.reset) (fun s => lineAsserted (setReset true s)) s

/-- STOP_PARKED (R170). -/
def execStopParked (s : State) : Answer := actIf (settled s) park s

/-- PFAIL_RELEASE (R178). -/
def execPfailRelease (s : State) : Answer := actIf s.pins.pfail (fun s => lineReleased (setPfail false s)) s

/-- RESET_RELEASE (R178). -/
def execResetRelease (s : State) : Answer := actIf s.pins.reset (fun s => lineReleased (setReset false s)) s

/-- START: a start begins from PARKED (R178, R179). -/
def execStart (s : State) : Answer := actIf (startReady s) (fun s => beginStart (parkedKind s) s) s

/-- POWER_ON (R45, R178). -/
def execPowerOn (s : State) : Answer := actIf (!s.pins.mainPower) powerArrives s

/-- MAIN_POWER_LOSS (R25, R178). -/
def execMainPowerLoss (s : State) : Answer := actIf s.pins.mainPower powerFails s

/-- The backup-loss record is set. -/
def recordLoss (s : State) : State := s.setCalendar { s.calendar with backupLoss := true }

/-- VBACKUP_LOSS: the backup monitor watches while main power is absent (R45). -/
def execVbackupLoss (s : State) : Answer := actIf (!s.pins.mainPower) recordLoss s

/-- START_PROFILE_READ_DONE (R179): a read returns, and the last one puts a profile in force. -/
def execStartProfileReadDone (s : State) : Answer :=
  match startReadReady s .profileReads with
  | some a => done (profileRead (internalRead s a) s)
  | none => idle s

/-- START_STATUS_READ_DONE (R180): a read returns, and the last one restores the counts. -/
def execStartStatusReadDone (s : State) : Answer :=
  match startReadReady s .statusReads with
  | some a => done (statusRead (internalRead s a) s)
  | none => idle s

/-- SOUNDER_SEGMENT_END (R187). -/
def execSounderSegmentEnd (s : State) : Answer := actIf s.events.sounder.isSome nextSegment s

end Sys2Proof.Machine
end

