-- ==== Sys2Proof/Machine/PrinterSteps.lean ====
section
/-! DEFINITION. The steps of the slips and the printer line (7.6, 7.7): SLIP_COMPOSED, PRINTER_BYTE_SENT, PRN_BUSY_RELEASE,
PRN_PAPER_OUT, PAPER_RESTORED and SLIP_PRINTED. -/

namespace Sys2Proof.Machine

/-- The slip whose next composition read can return now. -/
def composeReady (s : State) : Option SlipJob :=
  match oldestJob s.visit.slips with
  | some j => if s.running && readServed s .slip (nextJobAddr j) then some j else none
  | none => none

/-- SLIP_COMPOSED (R122 to R126): a composition read returns, and the last one makes the slip READY. -/
def execSlipComposed (s : State) : Answer :=
  match composeReady s with
  | some j => done (slipRead j (internalRead s (nextJobAddr j)) s)
  | none => idle s

/-- The level of PRN_BUSY. -/
def setBusyLine (b : Bool) (s : State) : State := s.setPins { s.pins with prnBusy := b }

/-- The stop bit of a byte has been sent: in SENDING the next byte of the slip begins unless PRN_BUSY is asserted; otherwise
the line rests. -/
def byteSent (busy : Bool) (s : State) : State :=
  let s1 := setBusyLine busy s
  match s.visit.printer with
  | .sending n => s1.setVisit { s1.visit with printer := .sending (n + 1), byteInProgress := !busy }
  | _ => s1.setVisit { s1.visit with byteInProgress := false }

/-- The byte being sent is the form feed that ends the head slip. -/
def lastByte (v : VisitUnit) : Bool :=
  match v.printer with
  | .sending n => v.byteInProgress && decide (headLength v ≤ n + 1)
  | _ => false

/-- The printer is between two bytes of a slip. -/
def betweenBytes (v : VisitUnit) : Bool :=
  match v.printer with
  | .sending _ => !v.byteInProgress
  | _ => false

/-- PRINTER_BYTE_SENT (R126). The stop bit of a form feed is SLIP_PRINTED. DESIGN CHOICE: where no such stop bit can come, the
form feed being sent or the printer not SENDING and the line at rest, the command tells only the level of PRN_BUSY, which the first
byte of the next slip samples (notes/assumptions/17.md). -/
def execPrinterByteSent (busy : Bool) (s : State) : Answer :=
  if s.visit.byteInProgress && !lastByte s.visit then done (byteSent busy s)
  else actIf (!betweenBytes s.visit) (setBusyLine busy) s

/-- PRN_BUSY is released: a byte that waited begins. -/
def busyReleased (s : State) : State :=
  let s1 := setBusyLine false s
  if betweenBytes s.visit then s1.setVisit { s1.visit with byteInProgress := true } else s1

/-- PRN_BUSY_RELEASE (R126). -/
def execPrnBusyRelease (s : State) : Answer := done (busyReleased s)

/-- The level of PRN_PAPER_OUT. -/
def setPaperLine (b : Bool) (s : State) : State := s.setPins { s.pins with prnPaperOut := b }

/-- A slip is being sent. -/
def Printer.isSending : Printer → Bool
  | .sending _ => true
  | _ => false

/-- PRN_PAPER_OUT changes: an assertion while SENDING stops the slip after the byte in progress (R127). While
that byte is the slip's form feed the same holds: the slip stays at the head and is printed again, where R128 has a slip leave the
queue at the form feed's stop bit and the spec does not say which rule goes first (DESIGN CHOICE, notes/assumptions/17.md). -/
def paperLine (level : Bool) (s : State) : State :=
  let s1 := setPaperLine level s
  if level && s.visit.printer.isSending then
    reportVisit s (raise .paperOut 0 (s1.setVisit { s1.visit with printer := .paperWait }))
  else s1

/-- PRN_PAPER_OUT (R127). -/
def execPrnPaperOut (level : Bool) (s : State) : Answer := done (paperLine level s)

/-- The slip is printed again from its header (R127). -/
def restartSlip (s : State) : State :=
  reportVisit s (s.setVisit { s.visit with printer := .sending 0, byteInProgress := !s.pins.prnBusy })

/-- PAPER_RESTORED (R127). -/
def execPaperRestored (s : State) : Answer :=
  actIf (s.running && s.visit.printer = .paperWait && !s.pins.prnPaperOut) restartSlip s

/-- SLIP_PRINTED (R128). -/
def execSlipPrinted (s : State) : Answer := actIf (s.running && lastByte s.visit) slipDone s

end Sys2Proof.Machine
end

