-- ==== Sys2Proof/Machine/QueueSteps.lean ====
section
/-! DEFINITION. The steps of the Posted Write Queue (9.6): PWQ_GROUP_ADMIT and PWQ_DRAIN. -/

namespace Sys2Proof.Machine

/-- PWQ_GROUP_ADMIT (R167). `pick` names which of the groups that began to wait at one moment. -/
def execPwqGroupAdmit (pick : Nat) (s : State) : Answer :=
  match admissible s pick with
  | some g => done (admitAt pick g s)
  | none => idle s

/-- The oldest entry written to the store, and the rest of the queue. -/
def drain (e : QEntry) (rest : List QEntry) (s : State) : State :=
  (s.setStore (writeWord s.store e.addr e.data fullWord)).setPath { s.path with pwq := rest }

/-- The port is granted to the Posted Write Queue. -/
def grantedQueue (s : State) : Bool := granted s = some .pwqUrgent || granted s = some .pwq

/-- PWQ_DRAIN (R168). -/
def execPwqDrain (s : State) : Answer :=
  match s.path.pwq with
  | e :: rest => if grantedQueue s then done (drain e rest s) else idle s
  | [] => idle s

end Sys2Proof.Machine
end

