-- ==== Sys2Proof/Machine/Requests.lean ====
section
/-! DEFINITION. The requests to loan slots and borrowers (Chapters 1 and 2): REQ_LOAN, REQ_RETURN, REQ_RENEW, LOAN_SLOT_CLEAR,
SLOT_STATUS_READ_DONE and PAYMENT. -/

namespace Sys2Proof.Machine

/-- REQ_LOAN (R3 to R8). -/
def execReqLoan (addr : Addr) (strobes : Strobes) (s : State) : Answer := arriveWrite addr 1#32 strobes s

/-- REQ_RETURN (R3 to R8). -/
def execReqReturn (addr : Addr) (strobes : Strobes) (s : State) : Answer := arriveWrite addr 2#32 strobes s

/-- REQ_RENEW (R3 to R8). -/
def execReqRenew (addr : Addr) (strobes : Strobes) (s : State) : Answer := arriveWrite addr 3#32 strobes s

/-- LOAN_SLOT_CLEAR (R6). -/
def execLoanSlotClear (addr : Addr) (strobes : Strobes) (s : State) : Answer := arriveWrite addr 0#32 strobes s

/-- SLOT_STATUS_READ_DONE (R7, R160). -/
def execSlotStatusReadDone (s : State) : Answer :=
  match statusReadReady s with
  | some (a, i) => done (statusReadReturned a i s)
  | none => idle s

/-- PAYMENT (R36). -/
def execPayment (addr : Addr) (amount : Word) (strobes : Strobes) (s : State) : Answer := arriveWrite addr amount strobes s

end Sys2Proof.Machine
end

