-- ==== Sys2Proof/Machine/UploadSteps.lean ====
section
/-! DEFINITION. The steps of the Journal Unit and the Upload Engine (Chapter 8): SYSTEM_ENTRY_APPEND, UPL_READY,
LINE_WAIT_TIMEOUT, FRAME_SENT, ACK_TIMEOUT, BATCH_READ_DONE, WELCOME, ACK, NAK_RESEND, NAK_ABORT, BYE, FRAME_DISCARDED and
RECEIVER_TIMEOUT. -/

namespace Sys2Proof.Machine

/-- SYSTEM_ENTRY_APPEND (R136). -/
def execSystemEntryAppend (s : State) : Answer := actIf (systemReady s) appendSystem s

/-- The level of UPL_READY. -/
def setReadyLine (b : Bool) (s : State) : State := s.setPins { s.pins with uplReady := b }

/-- UPL_READY changes: in WAIT_LINE an assertion sends HELLO (R143). -/
def readyLine (level : Bool) (s : State) : State :=
  let s1 := setReadyLine level s
  if level && s.upload.state = .waitLine then reportUpload s (sendHello s1) else s1

/-- UPL_READY (R143). -/
def execUplReady (level : Bool) (s : State) : Answer := done (readyLine level s)

/-- LINE_WAIT_TIMEOUT (R143, R150). -/
def execLineWaitTimeout (s : State) : Answer := actIf (s.upload.state = .waitLine) (failUpload .noLine) s

/-- The byte under way when an orderly stop stopped the line has been sent (R154). -/
def cutByteGone (s : State) : State := s.setUpload { s.upload with cutByte := false }

/-- FRAME_SENT (R139, R144). -/
def execFrameSent (s : State) : Answer :=
  match s.upload.tx with
  | f :: rest => done (frameGone f rest s)
  | [] => actIf s.upload.cutByte cutByteGone s

/-- The acknowledgement timer expires: a failed attempt in SENDING, a long retry in HELLO_SENT and DONE_SENT (R148, R149). -/
def timerExpired (s : State) : State :=
  let s1 := s.setUpload { s.upload with ackTimer := false }
  match s.upload.state, s.upload.outstanding with
  | .sending, some b => failedAttempt b s1
  | .helloSent, _ => longRetry s1
  | .doneSent, _ => longRetry s1
  | _, _ => s1

/-- ACK_TIMEOUT (R148, R149). -/
def execAckTimeout (s : State) : Answer := actIf s.upload.ackTimer timerExpired s

/-- The outstanding batch whose next read can return now, and the word it reads. -/
def batchReady (s : State) : Option (Batch × Addr) :=
  match s.upload.outstanding, nextBatchAddr s with
  | some b, some a => if readServed s .batch a then some (b, a) else none
  | _, _ => none

/-- BATCH_READ_DONE (R146): a read returns, and the last one sends the frame. -/
def execBatchReadDone (s : State) : Answer :=
  match batchReady s with
  | some (b, a) => done (batchRead b (internalRead s a) s)
  | none => idle s

/-- WELCOME: its bytes are received (R141, R144, R145). -/
def execWelcome (day minute : BitVec 16) (second timeValid : Byte) (s : State) : Answer :=
  done (rxBytesIn (frameBytes typeWelcome (bytes16 day.toNat ++ bytes16 minute.toNat ++ [second, timeValid])) s)

/-- ACK: its bytes are received (R141, R147). -/
def execAck (batch : BitVec 16) (s : State) : Answer := done (rxBytesIn (frameBytes typeAck (bytes16 batch.toNat)) s)

/-- NAK with cause RESEND: its bytes are received (R141, R148). -/
def execNakResend (batch : BitVec 16) (s : State) : Answer :=
  done (rxBytesIn (frameBytes typeNak (bytes16 batch.toNat ++ [1#8])) s)

/-- NAK with cause ABORT: its bytes are received (R141, R150). -/
def execNakAbort (batch : BitVec 16) (s : State) : Answer :=
  done (rxBytesIn (frameBytes typeNak (bytes16 batch.toNat ++ [2#8])) s)

/-- BYE: its bytes are received (R141, R151). -/
def execBye (s : State) : Answer := done (rxBytesIn (frameBytes typeBye []) s)

/-- FRAME_DISCARDED: bytes are received, and a frame among them that the receiver does not deliver has no effect (R141). -/
def execFrameDiscarded (bytes : List Byte) (s : State) : Answer := done (rxBytesIn bytes s)

/-- RECEIVER_TIMEOUT: the partial frame is discarded (R141). -/
def execReceiverTimeout (s : State) : Answer := actIf (s.upload.rxState ≠ .hunt) (setRx .hunt []) s

end Sys2Proof.Machine
end

