-- ==== Sys2Proof/Machine/WandSteps.lean ====
section
/-! DEFINITION. The steps of the Wand Front End (Chapter 6): WAND_EDGE, QUIET_TIME_REACHED, BAR_TOO_LONG, PASS_DECODE,
SCAN_RECORD_WRITE and REPEAT_GUARD_EXPIRE. -/

namespace Sys2Proof.Machine

/-- WAND_EDGE (R91 to R93). The front end works while the part is running; otherwise only the level changes, and the
ticks are dropped: the wand millisecond count stands at 0 from a start's beginning and advances from the release, since R91 has
it advance "from the start" and does not say whether it runs while the part is STARTING (DESIGN CHOICE,
notes/assumptions/16.md). -/
def execWandEdge (ticks : Nat) (s : State) : Answer :=
  if s.running then done (wandEdge ticks s) else done (flipLevel s)

/-- QUIET_TIME_REACHED (R94, R96). -/
def execQuietTimeReached (s : State) : Answer :=
  match ticksToQuiet s with
  | some d => actIf s.running (passTime d) s
  | none => idle s

/-- BAR_TOO_LONG (R95). -/
def execBarTooLong (s : State) : Answer :=
  match ticksToBarLimit s with
  | some d => actIf s.running (passTime d) s
  | none => idle s

/-- PASS_DECODE (R97 to R108). -/
def execPassDecode (s : State) : Answer := actIf (s.running && s.wand.decoder = .busy) decodeOutcome s

/-- SCAN_RECORD_WRITE (R108, R109). -/
def execScanRecordWrite (s : State) : Answer :=
  match scanReady s with
  | some c => actIf s.running (scanAct c) s
  | none => idle s

/-- REPEAT_GUARD_EXPIRE (R107). -/
def execRepeatGuardExpire (s : State) : Answer :=
  match ticksToGuardEnd s.wand with
  | some n => actIf s.running (passTime n) s
  | none => idle s

end Sys2Proof.Machine
end

