-- ==== Sys2Proof/Machine/Dispatch.lean ====
section
/-! DEFINITION. The dispatch of commands to their meanings, one arm for each constructor of `Instr`. -/

namespace Sys2Proof.Machine

/-- The effect of a command on everything but the queue of commands. -/
def exec (i : Instr) (s : State) : Host.Outcome State Fault Refusal :=
  match i with
  | .reqLoan addr strobes => Sys2Proof.Machine.execReqLoan addr strobes s
  | .reqReturn addr strobes => Sys2Proof.Machine.execReqReturn addr strobes s
  | .reqRenew addr strobes => Sys2Proof.Machine.execReqRenew addr strobes s
  | .loanSlotClear addr strobes => Sys2Proof.Machine.execLoanSlotClear addr strobes s
  | .slotStatusReadDone => Sys2Proof.Machine.execSlotStatusReadDone s
  | .payment addr amount strobes => Sys2Proof.Machine.execPayment addr amount strobes s
  | .currentPatronOpen addr data strobes => Sys2Proof.Machine.execCurrentPatronOpen addr data strobes s
  | .currentPatronRefresh addr data strobes => Sys2Proof.Machine.execCurrentPatronRefresh addr data strobes s
  | .currentPatronClose addr strobes => Sys2Proof.Machine.execCurrentPatronClose addr strobes s
  | .currentPatronRefused addr data strobes => Sys2Proof.Machine.execCurrentPatronRefused addr data strobes s
  | .scanConsumerWrite addr data strobes => Sys2Proof.Machine.execScanConsumerWrite addr data strobes s
  | .uploadNow addr strobes => Sys2Proof.Machine.execUploadNow addr strobes s
  | .reprint addr strobes => Sys2Proof.Machine.execReprint addr strobes s
  | .silence addr strobes => Sys2Proof.Machine.execSilence addr strobes s
  | .clearStamps addr strobes => Sys2Proof.Machine.execClearStamps addr strobes s
  | .setClock addr strobes => Sys2Proof.Machine.execSetClock addr strobes s
  | .commandCodeInvalid addr code strobes => Sys2Proof.Machine.execCommandCodeInvalid addr code strobes s
  | .clockSetWordWrite addr data strobes => Sys2Proof.Machine.execClockSetWordWrite addr data strobes s
  | .eventWordRead addr => Sys2Proof.Machine.execEventWordRead addr s
  | .profileWordWrite addr data strobes => Sys2Proof.Machine.execProfileWordWrite addr data strobes s
  | .adoptionRequest data strobes => Sys2Proof.Machine.execAdoptionRequest data strobes s
  | .calendarWrite addr data strobes => Sys2Proof.Machine.execCalendarWrite addr data strobes s
  | .loanDescriptiveWrite addr data strobes => Sys2Proof.Machine.execLoanDescriptiveWrite addr data strobes s
  | .guardedWrite addr data strobes => Sys2Proof.Machine.execGuardedWrite addr data strobes s
  | .heldAccessResume => Sys2Proof.Machine.execHeldAccessResume s
  | .engineTakeEntry => Sys2Proof.Machine.execEngineTakeEntry s
  | .fetchReadDone => Sys2Proof.Machine.execFetchReadDone s
  | .commitAdmit => Sys2Proof.Machine.execCommitAdmit s
  | .sweepStepStart => Sys2Proof.Machine.execSweepStepStart s
  | .clockAdvance => Sys2Proof.Machine.execClockAdvance s
  | .listLoadReadDone => Sys2Proof.Machine.execListLoadReadDone s
  | .pwqGroupAdmit pick => Sys2Proof.Machine.execPwqGroupAdmit pick s
  | .pwqDrain => Sys2Proof.Machine.execPwqDrain s
  | .wandEdge ticks => Sys2Proof.Machine.execWandEdge ticks s
  | .quietTimeReached => Sys2Proof.Machine.execQuietTimeReached s
  | .barTooLong => Sys2Proof.Machine.execBarTooLong s
  | .passDecode => Sys2Proof.Machine.execPassDecode s
  | .scanRecordWrite => Sys2Proof.Machine.execScanRecordWrite s
  | .repeatGuardExpire => Sys2Proof.Machine.execRepeatGuardExpire s
  | .idleTimerExpire => Sys2Proof.Machine.execIdleTimerExpire s
  | .slipComposed => Sys2Proof.Machine.execSlipComposed s
  | .printerByteSent busy => Sys2Proof.Machine.execPrinterByteSent busy s
  | .prnBusyRelease => Sys2Proof.Machine.execPrnBusyRelease s
  | .prnPaperOut level => Sys2Proof.Machine.execPrnPaperOut level s
  | .paperRestored => Sys2Proof.Machine.execPaperRestored s
  | .slipPrinted => Sys2Proof.Machine.execSlipPrinted s
  | .systemEntryAppend => Sys2Proof.Machine.execSystemEntryAppend s
  | .uplReady level => Sys2Proof.Machine.execUplReady level s
  | .lineWaitTimeout => Sys2Proof.Machine.execLineWaitTimeout s
  | .frameSent => Sys2Proof.Machine.execFrameSent s
  | .ackTimeout => Sys2Proof.Machine.execAckTimeout s
  | .batchReadDone => Sys2Proof.Machine.execBatchReadDone s
  | .welcome day minute second timeValid => Sys2Proof.Machine.execWelcome day minute second timeValid s
  | .ack batch => Sys2Proof.Machine.execAck batch s
  | .nakResend batch => Sys2Proof.Machine.execNakResend batch s
  | .nakAbort batch => Sys2Proof.Machine.execNakAbort batch s
  | .bye => Sys2Proof.Machine.execBye s
  | .frameDiscarded bytes => Sys2Proof.Machine.execFrameDiscarded bytes s
  | .receiverTimeout => Sys2Proof.Machine.execReceiverTimeout s
  | .pfail => Sys2Proof.Machine.execPfail s
  | .reset => Sys2Proof.Machine.execReset s
  | .stopParked => Sys2Proof.Machine.execStopParked s
  | .pfailRelease => Sys2Proof.Machine.execPfailRelease s
  | .resetRelease => Sys2Proof.Machine.execResetRelease s
  | .start => Sys2Proof.Machine.execStart s
  | .powerOn => Sys2Proof.Machine.execPowerOn s
  | .mainPowerLoss => Sys2Proof.Machine.execMainPowerLoss s
  | .vbackupLoss => Sys2Proof.Machine.execVbackupLoss s
  | .startProfileReadDone => Sys2Proof.Machine.execStartProfileReadDone s
  | .startStatusReadDone => Sys2Proof.Machine.execStartStatusReadDone s
  | .sounderSegmentEnd => Sys2Proof.Machine.execSounderSegmentEnd s
  | .forwardedUpstreamAccess => Sys2Proof.Machine.execForwardedUpstreamAccess s

end Sys2Proof.Machine
end

