-- ==== Sys2Proof/Safety.lean ====
section
/-! DEFINITION. What claims about the part are stated in: the blocks a step leaves as they were, the accesses that are judged
at once, and the laws of the part as conditions on its state. -/

namespace Sys2Proof.Machine

/-! ### Frames -/

/-- The blocks of the state. -/
inductive Block where
  | store
  | pins
  | path
  | engine
  | calendar
  | wand
  | visit
  | journal
  | upload
  | profile
  | events
  | pending
  deriving DecidableEq, Repr

/-- A block is in `t` as it was in `s`. For the store this says that every byte lane reads as it did. -/
def SameBlock (b : Block) (s t : State) : Prop :=
  match b with
  | .store => t.store = s.store
  | .pins => t.pins = s.pins
  | .path => t.path = s.path
  | .engine => t.engine = s.engine
  | .calendar => t.calendar = s.calendar
  | .wand => t.wand = s.wand
  | .visit => t.visit = s.visit
  | .journal => t.journal = s.journal
  | .upload => t.upload = s.upload
  | .profile => t.profile = s.profile
  | .events => t.events = s.events
  | .pending => t.pending = s.pending

/-- Every block but those listed is in `t` as it was in `s`. -/
def OnlyChanges (touched : List Block) (s t : State) : Prop := ∀ b, b ∉ touched → SameBlock b s t

/-- The Store Path is in `t` as in `s` but for the upstream access, its completion and the groups: the queue has at most
grown at its end. -/
def PathKeeps (s t : State) : Prop :=
  t.path.state = s.path.state ∧ t.path.stage = s.path.stage ∧ t.path.startKind = s.path.startKind ∧
    t.path.resetSeen = s.path.resetSeen ∧ t.path.repairedConsumer = s.path.repairedConsumer ∧
    t.path.repairedTail = s.path.repairedTail ∧ t.path.startReads = s.path.startReads ∧
    ∃ es, t.path.pwq = s.path.pwq ++ es

/-- The same, and the upstream access and its completion as well. -/
def PathGrows (s t : State) : Prop :=
  PathKeeps s t ∧ t.path.upstream = s.path.upstream ∧ t.path.completion = s.path.completion

/-- The Store Path of `s` with the access judged and forwarded to the store as `a`. -/
def pathForwarding (s : State) (a : Access) : StorePath := { s.path with upstream := .forwarded a, fresh := 0 }

/-- The Store Path of `s` with the upstream write completed at its judgement. -/
def pathCompleted (s : State) : StorePath := { s.path with upstream := .idle, completion := .write, fresh := 0 }

/-! ### Accesses judged at once -/

/-- An access to the word is judged when it arrives: the part has power and is running, no access is outstanding, and the
word lies in no slot of the busy set (R155). -/
def Presented (s : State) (addr : Addr) : Prop :=
  s.pins.mainPower = true ∧ s.path.upstream = .idle ∧ s.path.state = .running ∧ busyAt s addr = false

/-- The upstream access that a command presents, the data being the row's own where the row fixes it (log entry 22). -/
def accessOf : Instr → Option Access
  | .reqLoan a st => some ⟨true, a, 1#32, st⟩
  | .reqReturn a st => some ⟨true, a, 2#32, st⟩
  | .reqRenew a st => some ⟨true, a, 3#32, st⟩
  | .loanSlotClear a st => some ⟨true, a, 0#32, st⟩
  | .payment a d st => some ⟨true, a, d, st⟩
  | .currentPatronOpen a d st => some ⟨true, a, d, st⟩
  | .currentPatronRefresh a d st => some ⟨true, a, d, st⟩
  | .currentPatronClose a st => some ⟨true, a, 65535#32, st⟩
  | .currentPatronRefused a d st => some ⟨true, a, d, st⟩
  | .scanConsumerWrite a d st => some ⟨true, a, d, st⟩
  | .uploadNow a st => some ⟨true, a, 1#32, st⟩
  | .reprint a st => some ⟨true, a, 2#32, st⟩
  | .silence a st => some ⟨true, a, 3#32, st⟩
  | .clearStamps a st => some ⟨true, a, 4#32, st⟩
  | .setClock a st => some ⟨true, a, 5#32, st⟩
  | .commandCodeInvalid a d st => some ⟨true, a, d, st⟩
  | .clockSetWordWrite a d st => some ⟨true, a, d, st⟩
  | .eventWordRead a => some ⟨false, a, 0#32, 0#4⟩
  | .profileWordWrite a d st => some ⟨true, a, d, st⟩
  | .adoptionRequest d st => some ⟨true, 127#22, d, st⟩
  | .calendarWrite a d st => some ⟨true, a, d, st⟩
  | .loanDescriptiveWrite a d st => some ⟨true, a, d, st⟩
  | .guardedWrite a d st => some ⟨true, a, d, st⟩
  | _ => none

/-- A window of kind `k` guards its word `n` (R159, R160): in SERVICE mode the fields that the part writes in borrower and loan
slots, those that describe a loan while it is known to be live among them, and in both modes every word of SCAN and JOURNAL
and the part's words of STATUS. -/
def WindowGuards (s : State) (k : WindowKind) (n : Nat) : Prop :=
  match k with
  | .borrower => s.service = true ∧ (n % 8 = 3 ∨ n % 8 = 4 ∨ n % 8 = 6)
  | .loan => s.service = true ∧
      ((n % 16 = 5 ∨ n % 16 = 6 ∨ n % 16 = 7 ∨ n % 16 = 13) ∨
        ((n % 16 = 1 ∨ n % 16 = 2 ∨ n % 16 = 3 ∨ n % 16 = 4) ∧
          (mapGet s.engine.stateMap (n / 16) = some .lent ∨ mapGet s.engine.stateMap (n / 16) = some .overdue)))
  | .scan => True
  | .journal => True
  | .status => 5 ≤ n ∧ n ≠ 8 ∧ n ≠ 9
  | .calendar => False

/-- A write to the word takes the treatment of its region when it arrives: no queued write of the word and no guard stands
before it. -/
def WriteJudged (s : State) (addr : Addr) : Prop :=
  Presented s addr ∧ queueHolds s addr = false ∧ guardAt s addr = .free

/-- A write to the word takes the treatment of STATUS word `n` when it arrives. -/
def StatusWriteJudged (s : State) (addr : Addr) (n : Nat) : Prop :=
  WriteJudged s addr ∧ regionOf s.active addr = .window .status n

/-- A write to the word takes the treatment of word 0 of loan slot `i` in SERVICE mode when it arrives, and the slot's state
is known to be `st`. -/
def LoanWriteJudged (s : State) (addr : Addr) (i : Nat) (st : LoanState) : Prop :=
  WriteJudged s addr ∧ s.service = true ∧ regionOf s.active addr = .window .loan (16 * i) ∧
    mapGet s.engine.stateMap i = some st

/-- A write to the word takes the treatment of word 5 of borrower `b` in SERVICE mode when it arrives. -/
def PaymentJudged (s : State) (addr : Addr) (b : Nat) : Prop :=
  WriteJudged s addr ∧ s.service = true ∧ regionOf s.active addr = .window .borrower (8 * b + 5)

/-- An Event Unit with BAD_REQUEST raised in `s`, a word address its detail. -/
def eventsBad (u : EventUnit) (s : State) (addr : Addr) : EventUnit :=
  { u with
    latchA := u.latchA ||| 4#15
    stamps := u.stamps.set 2 ((u.stamp 2).note s.active.stampLast s.reading addr.toNat) }

/-- The Event Unit of `s` after a BAD_REQUEST with a word address as its detail. -/
def eventsAfterBad (s : State) (addr : Addr) : EventUnit := eventsBad s.events s addr

/-- The Event Unit of `s` after a pass is discarded with a scan error: SCAN_BAD, its stamp, and the REJECT tone. -/
def eventsAfterScanBad (s : State) (code : Nat) : EventUnit :=
  { s.events with
    latchA := s.events.latchA ||| 1024#15
    stamps := s.events.stamps.set 1 ((s.events.stamp 1).note s.active.stampLast s.reading code)
    sounder := if s.active.sounderEnable then soundAfter s.active s.events.sounder .rejectScan else s.events.sounder }

/-! ### Groups of STATUS words -/

/-- The groups an act produces are, in order, the STATUS words `ws`: with the window enabled, no group waiting and room for all
of them they enter the queue at once; with the window disabled they go nowhere. -/
def Queues (s t : State) (ws : List (Nat × Word)) : Prop :=
  (s.active.statusWin.enable = true → s.path.waiting = [] → s.path.pwq.length + ws.length ≤ 24 →
      t.path.pwq = s.path.pwq ++ statusEntries s ws ∧ t.path.waiting = []) ∧
    (s.active.statusWin.enable = false → t.path.pwq = s.path.pwq ∧ t.path.waiting = s.path.waiting)

/-- The line of waiting groups once the STATUS words `ws` have been written: w10 to w31 of an adoption's groups hold the
value their owner last wrote (R176; notes/assumptions/10.md). -/
def lineAfter (ws : List (Nat × Word)) (line : List Group) : List Group :=
  line.map fun g =>
    if g.owner ≠ .adoption then g
    else { g with words := g.words.map fun p =>
      match ws.find? (fun q => q.1 = p.1) with
      | some q => if 10 ≤ p.1 then q else p
      | none => p }

/-- No candidate waits that an act of the engine or the Visit Unit could adopt. -/
def NoAdoption (s : State) : Prop := s.profile.candidate = none ∨ s.engine.crq ≠ [] ∨ s.engine.op ≠ none

/-! ### Decisions and commits -/

/-- The state once the decision of the operation in flight is complete: `op` decided as `d` in COMMIT, its group behind
every group that waits (R13, R14). -/
def afterDecision (s : State) (op : Op) (d : Decided) : State :=
  { s with
    engine := { s.engine with state := .commit, op := some { op with decided := some d } }
    path := { s.path with
      waiting := s.path.waiting ++ [⟨.engineCommit, [], decide (0 < s.path.fresh)⟩], fresh := 0 } }

/-- The state once the operation has taken its reading and waits in DECIDE for the end of a list load (R57, R63). -/
def afterQuestion (s : State) (op : Op) : State :=
  { s with
    path := { s.path with fresh := 0 }
    engine := { s.engine with state := .decide, op := some op } }

/-- STATUS words that an act places with its group: none while the window is disabled (R16). -/
def mirrors (s : State) (ws : List (Nat × Word)) : List QEntry :=
  if s.active.statusWin.enable = true then statusEntries s ws else []

/-- The busy set once the claims of an operation on loan slot `i` have ended. -/
def busyWithout (s : State) (i : Nat) (borrower : Option Nat) : List Claim :=
  match borrower with
  | some b => (s.engine.busy.erase (.loan i)).erase (.borrower b)
  | none => s.engine.busy.erase (.loan i)

/-- The eight words of an entry at the ring place of the journal head. -/
def entryAtHead (s : State) (e : JEntry) : List QEntry :=
  ((e.words s.journal.head).zip (List.range 8)).map fun q => ⟨s.active.journalAddr s.journal.head q.2, q.1⟩

/-- An entry is kept (R133): its eight words, the words `ws` and the head mirror, while there is a STATUS window (R16),
enter the queue, with what the act places behind them in `es`, and the head advances; the low mark is judged (R135). -/
def EntryKept (s t : State) (e : JEntry) (ws es : List QEntry) : Prop :=
  t.path.pwq = s.path.pwq ++ entryAtHead s e ++ ws ++ mirrors s [(12, s.journal.head + 1#32)] ++ es ∧
    t.journal = { s.journal with head := s.journal.head + 1#32, lowArmed := decide (s.active.reserve < t.freeEntries) } ∧
    t.events.latchB = s.events.latchB |||
      (if t.freeEntries ≤ s.active.reserve ∧ s.journal.lowArmed = true then 64#12 else 0#12)

/-- An entry is lost (R134): the words `ws` and the loss count mirror, while there is a STATUS window (R16), enter the
queue, the loss count rises, and JOURNAL_LOST is raised with the address the entry would have taken, the words of its stamp
standing behind the mirror when no other group waits. -/
def EntryLost (s t : State) (ws : List QEntry) : Prop :=
  (∃ es, t.path.pwq = s.path.pwq ++ ws ++ mirrors s [(20, word (min (s.journal.lossCount + 1) 65535))] ++ es ∧
      (s.path.state = .running → s.path.waiting.length = 1 → es = mirrors s (stampMirror t.events 3))) ∧
    t.journal = { s.journal with lossCount := min (s.journal.lossCount + 1) 65535 } ∧
    t.events.latchB = s.events.latchB ||| 128#12 ∧
    t.events.stamps = s.events.stamps.set 3 ((s.events.stamp 3).note s.active.stampLast s.reading
      (if s.active.journalWin.enable then (s.active.journalAddr s.journal.head 0).toNat else 0))

/-- The group of the operation in flight is admitted next (R14): it is among those that may be, and the queue has 16 free
entries. -/
def CommitAdmitted (s : State) (op : Op) (d : Decided) : Prop :=
  s.engine.state = .commit ∧ s.engine.op = some op ∧ op.decided = some d ∧
    (frontGroups s.path.waiting).any (fun g => g.owner = .engineCommit) = true ∧ s.path.pwq.length ≤ 8

/-- The finish of the operation in flight adopts no candidate (R174): none waits, or the open visit, the CRQ or a stop keeps it
waiting. -/
def FinishAdoptsNothing (s : State) : Prop :=
  s.profile.candidate = none ∨ s.visit.visit ≠ none ∨ s.engine.crq ≠ [] ∨ s.path.state ≠ .running

/-- The operation in flight may commit (R14), and its finish adopts no candidate. -/
def CommitReady (s : State) (op : Op) (d : Decided) : Prop := CommitAdmitted s op d ∧ FinishAdoptsNothing s

/-- The state as it would be with no candidate waiting. -/
def withoutCandidate (s : State) : State := { s with profile := { s.profile with candidate := none } }

/-- No act that returns the Upload Engine to IDLE adopts a candidate (R174): none waits, or the open visit, the CRQ, the
operation in flight or a stop keeps it waiting. -/
def AdoptsNothing (s : State) : Prop :=
  s.profile.candidate = none ∨ s.visit.visit ≠ none ∨ s.engine.crq ≠ [] ∨ s.engine.op ≠ none ∨ s.path.state ≠ .running

/-- The act of `c` ends with the judgement of the candidate `ws` that waits (R15, R138, R174, R175): it does all that it does
without a candidate (`t0`), and then the candidate waits on, while a journal change meets an upload; or is rejected, a journal
change meeting a ring that is not empty; or is adopted. `path` says what becomes of the Store Path after `t0`. -/
def JudgedAfter (path : State → State → Prop) (c : Instr) (s : State) (ws : List Word) : Prop :=
  let new := (readProfile ws).clamp
  let moves : Prop := new.journalWin ≠ s.active.journalWin
  ∃ t0 t, exec c (withoutCandidate s) = .next t0 ∧ exec c s = .next t ∧
    (moves → t0.upload.state ≠ .idle → t = { t0 with profile := s.profile }) ∧
    (moves → t0.upload.state = .idle → t0.journal.head ≠ t0.journal.tail →
      OnlyChanges [.path, .profile, .events] t0 t ∧ path t0 t ∧
        t.profile = { s.profile with candidate := none, outcome := .rejectedJournal } ∧
        t.events = { t0.events with latchB := t0.events.latchB ||| 16#12 }) ∧
    ((moves → t0.upload.state = .idle ∧ t0.journal.head = t0.journal.tail) →
      OnlyChanges [.path, .profile, .events, .journal, .engine, .calendar] t0 t ∧ path t0 t ∧
        t.profile = ⟨s.profile.shadow, new, none, .adopted, false⟩ ∧ t.events.latchB.getLsbD 3 = true ∧
        (t.journal.head, t.journal.tail) = (t0.journal.head, t0.journal.tail) ∧
        (t.engine.crq, t.engine.busy, t.engine.state, t.engine.op) =
          (t0.engine.crq, t0.engine.busy, t0.engine.state, t0.engine.op))

/-- The bits a group that writes w3 sets in latch A as the fine latch goes from `before` to `after` (R32). -/
def latchBits (c : BorrowerClass) (before after : Bool) : BitVec 15 :=
  (if !before && after then 16#15 else 0#15) ||| (if before && !after && c.reportBoth then 32#15 else 0#15)

/-- The tone a pattern requested now leaves playing (R188). -/
def sounds (s : State) (p : Pattern) : Option Playing :=
  if s.active.sounderEnable = true ∧ s.path.state = .running then soundAfter s.active s.events.sounder p else s.events.sounder

/-- The sweep record and STATUS w17 once a step has finished with `marks` made: the cursor advances, unless a restart came
during the step, and the sweep whose cursor has reached the slot count ends (R82, R87). -/
def sweepAfterStep (s : State) (marks : Nat) : Sweep × Word :=
  let sw := s.engine.sweep
  let next := if sw.restarted then sw.cursor else sw.cursor + 1
  let day := match sw.target with
    | some i => i.day
    | none => sw.lastSwept
  if sw.state = .running ∧ s.active.loanCount ≤ next then
    ({ sw with state := .idle, cursor := next, marks := marks, recovery := false, lastSwept := day, restarted := false },
      put 0 16 day ||| put 16 15 marks)
  else ({ sw with cursor := next, marks := marks, restarted := false }, s.engine.sweepWord)

/-- The STATUS word that a step which has finished with `marks` made writes, when the sweep ends with it (R87). -/
def wordsAfterStep (s : State) (marks : Nat) : List (Nat × Word) :=
  if s.engine.sweep.state = .running ∧ (sweepAfterStep s marks).1.state = .idle then [(17, (sweepAfterStep s marks).2)] else []

/-! ### Visits and slips -/

/-- The Slip Queue once a slip has been asked for from the list of visit `v` (R122): when the list is not empty and slips are
enabled it joins a queue of fewer than four, with its copies and its addresses. -/
def slipsAsked (s : State) (v : Visit) (continued : Bool) : List Slip :=
  if v.list = [] ∨ s.active.slipEnable = false ∨ 4 ≤ s.visit.slips.length then s.visit.slips
  else
    s.visit.slips ++ [.composing
      { entries := v.list
        patron := v.patron
        openedAt := v.openedAt
        continued := continued
        header := s.active.header
        patronAddr := s.active.borrowerAddr v.patron 0
        slotAddrs := v.list.map fun e => s.active.loanAddr e.slot 0
        words := []
        begun := if (oldestJob s.visit.slips).isSome then none else some s.reading }]

/-- The Slip Queue after the close of visit `v` (R120). -/
def slipsAfterClose (s : State) (v : Visit) : List Slip := slipsAsked s v false

/-- The Visit Unit of `s` once an open visit has closed (R120). -/
def visitAfterClose (s : State) : VisitUnit :=
  match s.visit.visit with
  | none => s.visit
  | some v =>
    { s.visit with
      visit := none
      idleTimer := none
      slips := slipsAfterClose s v
      verdictWord := 65535#32
      finesWord := 0#32 }

/-- The Event Unit of `s` once an open visit has closed: SLIP_DROPPED when its slip found four, and VISIT_CLOSED. -/
def eventsAfterClose (s : State) : EventUnit :=
  match s.visit.visit with
  | none => s.events
  | some v =>
    { s.events with
      latchA := s.events.latchA |||
        (if v.list ≠ [] ∧ s.active.slipEnable = true ∧ 4 ≤ s.visit.slips.length then 4096#15 else 0#15) ||| 256#15 }

/-- The STATUS words the close of an open visit writes, `w0` among them when the idle timer closed it. -/
def wordsAfterClose (s : State) (w0 : List (Nat × Word)) : List (Nat × Word) :=
  match s.visit.visit with
  | none => []
  | some _ => [(10, 65535#32), (14, 0#32)] ++ w0 ++ [(23, visitWord (visitAfterClose s))]

/-- The Visit Unit of `t` is `v` with the printer gone on from IDLE: a READY slip at the head of the queue is started at the
rate in force, or waits for paper with PAPER_OUT raised (R126, R127). -/
def PrinterGoesOn (s t : State) (v : VisitUnit) : Prop :=
  (∀ text rest, v.printer = .idle → v.slips = .ready text :: rest →
      (s.pins.prnPaperOut = false →
        t.visit = { v with printer := .sending 0, lineRate := s.active.printerRate, byteInProgress := !s.pins.prnBusy } ∧
          t.events = s.events) ∧
      (s.pins.prnPaperOut = true →
        t.visit = { v with printer := .paperWait, lineRate := s.active.printerRate } ∧
          t.events = { s.events with latchA := s.events.latchA ||| 8192#15 })) ∧
    ((v.printer ≠ .idle ∨ ∀ text rest, v.slips ≠ .ready text :: rest) → t.visit = v ∧ t.events = s.events)

/-- The Visit Unit `v` at the end of an act that leaves no operation in flight: at an orderly stop the open visit is
discarded with it (R130). -/
def settledVisit (s : State) (v : VisitUnit) : VisitUnit :=
  if s.path.state = .stopping then { v with visit := none, idleTimer := none } else v

/-- The visit word is written when the act has changed it, and not otherwise. -/
def visitReport (s t : State) : List (Nat × Word) :=
  if visitWord t.visit = visitWord s.visit then [] else [(23, visitWord t.visit)]

/-- The bytes of characters. -/
def ascii (cs : List Char) : List Byte := cs.map fun c => BitVec.ofNat 8 c.toNat

/-- A decimal place as it is printed: a value above 9 is "?" (R125). -/
def placeByte (n : Nat) : Byte := if 9 < n then 63#8 else BitVec.ofNat 8 (48 + n)

/-- Two decimal places. -/
def twoPlaces (n : Nat) : List Byte := [placeByte (n / 10), placeByte (n % 10)]

/-- The lengths of the months of year `y`. -/
def daysOfMonths (y : Nat) : List Nat := [31, if y % 4 = 0 then 29 else 28, 31, 30, 31, 30, 31, 31, 30, 31, 30, 31]

/-- Day number `n` is the day of this year, month and day of month (R53). -/
def DateIs (n : Nat) (date : Nat × Nat × Nat) : Prop :=
  let (y, m, d) := date
  2000 ≤ y ∧ y ≤ 2099 ∧ 1 ≤ m ∧ m ≤ 12 ∧ 1 ≤ d ∧ d ≤ (daysOfMonths y).getD (m - 1) 0 ∧
    n = 365 * (y - 2000) + (y - 2000 + 3) / 4 + ((daysOfMonths y).take (m - 1)).sum + (d - 1)

/-- The names of the months (R123). -/
def monthLetters : List (List Char) :=
  [['J', 'A', 'N'], ['F', 'E', 'B'], ['M', 'A', 'R'], ['A', 'P', 'R'], ['M', 'A', 'Y'], ['J', 'U', 'N'], ['J', 'U', 'L'],
    ['A', 'U', 'G'], ['S', 'E', 'P'], ['O', 'C', 'T'], ['N', 'O', 'V'], ['D', 'E', 'C']]

/-- The lines of a slip, without their line feeds (R123 to R125): the opening lines, two for each entry and its title, and the
closing lines. `date` gives the year, month and day of month of a day; `w0` and `w2` are the patron's. -/
def slipLines (date : Nat → Nat × Nat × Nat) (j : SlipJob) (at_ : Reading) (w0 w2 : Word) (titles : List (List Byte)) :
    List (List Byte) :=
  let blank (b : Byte) : Bool := b = 0x20#8 || b = 0x00#8
  let shown (bs : List Byte) : List Byte :=
    (bs.rdropWhile blank).map fun b => if b.toNat < 0x20 ∨ 0x7E < b.toNat then 63#8 else b
  let dayMonth (n : Nat) : List Byte := twoPlaces (date n).2.2 ++ ascii ['-'] ++ ascii (monthLetters.getD ((date n).2.1 - 1) [])
  let full (n : Nat) : List Byte := dayMonth n ++ ascii ['-'] ++ twoPlaces ((date n).1 / 100) ++ twoPlaces ((date n).1 % 100)
  let time (minute : Nat) : List Byte := twoPlaces (minute / 60) ++ ascii [':'] ++ twoPlaces (minute % 60)
  let n := j.entries.length
  [shown j.header, ascii ['D', 'A', 'T', 'E', ' '] ++ full at_.day ++ ascii [' '] ++ time at_.minute,
    ascii ['C', 'A', 'R', 'D', ' ', '.', '.', '.', '.'] ++
      [28, 24, 20, 16].map (fun k => placeByte (w2.toNat / 2 ^ k % 16)), []] ++
  (j.entries.zip titles).flatMap (fun p =>
    [(if p.1.renewal then ascii ['R', ' '] else []) ++
        (if p.2.all blank then ascii ['I', 'T', 'E', 'M'] else shown p.2),
      ascii [' ', ' '] ++ p.1.tail.map placeByte ++ ascii [' ', 'D', 'U', 'E', ' '] ++
        (if p.1.hourLoan then time p.1.due.minute ++ ascii [' '] ++ dayMonth p.1.due.day else full p.1.due.day)]) ++
  (if j.entries.any (fun e => e.shortened) then
    [ascii ['C', 'A', 'R', 'D', ' ', 'E', 'X', 'P', 'I', 'R', 'E', 'S', ' '] ++ full (min (w0.toNat / 65536) 36524)] else []) ++
  [ascii ['I', 'T', 'E', 'M', 'S', ' '] ++ (if n < 10 then [placeByte n] else twoPlaces n)] ++
  (if j.continued then [ascii ['C', 'O', 'N', 'T', 'I', 'N', 'U', 'E', 'D']] else [])

/-! ### Symbols -/

/-- The widest, the second and the third widest of the widths of a character are `a`, `b` and `t` (R97). -/
def Ranks (widths : List Nat) (a b t : Nat) : Prop :=
  ∃ rest, widths.Perm (a :: b :: t :: rest) ∧ b ≤ a ∧ t ≤ b ∧ ∀ x ∈ rest, x ≤ t

/-- The elements wider than `t` are those at the positions `p` and `q`, counted from 1 (R97). -/
def WideAt (widths : List Nat) (t p q : Nat) : Prop :=
  p < q ∧ ∀ i < 7, (t < widths.getD i 0 ↔ i + 1 = p ∨ i + 1 = q)

/-- Table 6-3: a pair of wide positions, read forward and read backward. -/
def charTable : List ((Nat × Nat) × Option Meaning × Option Meaning) :=
  [((1, 2), some (.digit 0), none), ((1, 3), some .start, none), ((1, 4), some (.digit 1), none),
    ((1, 5), some (.digit 2), some .patron), ((1, 6), some (.digit 3), some (.digit 8)),
    ((1, 7), some (.digit 4), some (.digit 4)), ((2, 3), some (.digit 5), none), ((2, 4), some (.digit 6), none),
    ((2, 5), none, some .stop), ((2, 6), some (.digit 7), some (.digit 7)), ((2, 7), some (.digit 8), some (.digit 3)),
    ((3, 4), some (.digit 9), none), ((3, 5), some .item, some .item), ((3, 6), some .stop, none),
    ((3, 7), some .patron, some (.digit 2)), ((4, 5), none, some (.digit 9)), ((4, 6), none, some (.digit 6)),
    ((4, 7), none, some (.digit 1)), ((5, 6), none, some (.digit 5)), ((5, 7), none, some .start),
    ((6, 7), none, some (.digit 0))]

/-- What a pair of wide positions says read forward. -/
def saysForward (p : Nat × Nat) : Option Meaning := (charTable.lookup p).bind fun r => r.1

/-- What a pair of wide positions says read backward. -/
def saysBackward (p : Nat × Nat) : Option Meaning := (charTable.lookup p).bind fun r => r.2

/-- The check digit that data digits ask for (R106): the weights are 3, 1, 3, 1 and so on from the rightmost one. -/
def checkOf (data : List Nat) : Nat :=
  (10 - (data.reverse.zipIdx.map fun p => (if p.2 % 2 = 0 then 3 else 1) * p.1).sum % 10) % 10

/-! ### Starts and adoptions -/

/-- What a start that completes may release at once under the profile `p`: no access, or a held one to a word outside every
window that no queued word and no word of the start stands before. -/
def PlainHeld (s : State) (p : Profile) : Prop :=
  s.path.upstream = .idle ∨ ∃ a, s.path.upstream = .held a .startStop ∧ regionOf p a.addr = .outside ∧
    (∀ e ∈ s.path.pwq, e.addr ≠ a.addr) ∧ ∀ n, n < 32 → p.statusAddr n ≠ a.addr

/-- A held access released: it is on its way to the store. -/
def released (u : Upstream) : Upstream :=
  match u with
  | .held a _ => .forwarded a
  | u => u

/-- The START_UP entry of a start that completed in `t` (Table 8-3, Table 12-7): the start's kind, the default-in-force flag
and the pointer-repair flag. -/
def entryOfStart (t : State) : JEntry :=
  let kind := match t.path.startKind with
    | .powerOn => 0
    | .resetLine => 1
    | .pfailRelease => 2
  ⟨.startUp, 0, t.reading, kind + (if t.profile.defaultInForce then 4 else 0) +
    (if t.path.repairedTail || t.path.repairedConsumer then 8 else 0), 65535, 65535, 0#32, 0#32, 0#32, 0#32⟩

/-- The words of the four stamp records, w24 to w31. -/
def stampWords (u : EventUnit) : List (Nat × Word) := stampMirror u 0 ++ stampMirror u 1 ++ stampMirror u 2 ++ stampMirror u 3

/-- The STATUS words that the end of a start places (R181), each with its owner's value, the stamp words as the records then
stand (R185; notes/assumptions/14.md). -/
def wordsOfStart (t : State) : List (Nat × Word) :=
  [(0, t.visit.patronCopy)] ++ (if t.path.repairedConsumer then [(1, word t.wand.consumer.toNat)] else []) ++
    [(10, t.visit.verdictWord)] ++ (if t.path.repairedTail then [(13, t.journal.tail)] else []) ++
    [(14, t.visit.finesWord), (15, timeWord t.calendar), (16, dayWord t.calendar), (18, profileWord t.profile),
      (19, uploadWord t.upload), (20, lossWord t.journal), (21, t.engine.interruptedWord), (22, wandCountWord t.wand),
      (23, visitWord t.visit)] ++ stampWords t.events

/-- The first of the two groups that an adoption writes at the new place of the STATUS block (R176). -/
def firstOfAdoption (t : State) : List (Nat × Word) :=
  [(0, t.visit.patronCopy), (1, word t.wand.consumer.toNat), (2, 0#32), (10, t.visit.verdictWord),
    (11, word t.wand.producer.toNat), (12, t.journal.head), (13, t.journal.tail), (14, t.visit.finesWord),
    (15, timeWord t.calendar), (16, dayWord t.calendar), (17, t.engine.sweepWord)]

/-- The second of them. -/
def secondOfAdoption (t : State) : List (Nat × Word) :=
  [(18, profileWord t.profile), (19, uploadWord t.upload), (20, lossWord t.journal), (21, t.engine.interruptedWord),
    (22, wandCountWord t.wand), (23, visitWord t.visit)] ++ stampWords t.events

/-- A start completes from `s` to `t` (R181, R88): the words of the start enter an empty line behind `before`, the START_UP
entry joins a system append queue with room, START_UP and CLOCK_INVALID are raised, the held access is released, and in
SERVICE mode the recovery pass starts, which over no loan slot ends at once with SWEEP_DONE (R82, R87;
notes/assumptions/34.md). -/
def StartCompletes (s t : State) (before : List QEntry) : Prop :=
  (t.path.state, t.path.stage) = (.running, .none) ∧ t.path.upstream = released s.path.upstream ∧
    t.events.latchB.getLsbD 0 = true ∧ (s.calendar.valid = false → t.events.latchB.getLsbD 1 = true) ∧
    (s.journal.systemQueue.length < 4 → t.journal.systemQueue = s.journal.systemQueue ++ [entryOfStart t]) ∧
    (t.active.mode = .maintenance → t.engine.sweep.state = s.engine.sweep.state ∧ t.events.latchA = s.events.latchA) ∧
    (t.active.mode = .service → 0 < t.active.loanCount → t.events.latchA = s.events.latchA ∧
      (t.engine.sweep.state, t.engine.sweep.cursor, t.engine.sweep.target, t.engine.sweep.marks, t.engine.sweep.recovery) =
        (.running, 0, if s.calendar.valid then some ⟨s.calendar.day, s.calendar.minute⟩ else none, 0, true)) ∧
    (t.active.mode = .service → t.active.loanCount = 0 →
      t.engine.sweep.state = .idle ∧ t.events.latchA = s.events.latchA ||| 16384#15) ∧
    (t.active.statusWin.enable = true → s.path.waiting = [] → s.path.pwq.length ≤ 1 → s.journal.systemQueue.length < 4 →
      t.path.pwq = s.path.pwq ++ before ++ statusEntries t (wordsOfStart t)) ∧
    (t.active.statusWin.enable = false → t.path.pwq = s.path.pwq)

/-! ### The laws of the part -/

/-- The law of the desk clock (R44), with the ranges of its minute and second. -/
def ClockLaw (s : State) : Prop := s.calendar.day ≤ 36524 ∧ s.calendar.minute ≤ 1439 ∧ s.calendar.second ≤ 59

/-- The law of the scan ring (R109). -/
def ScanRingLaw (s : State) : Prop := (s.wand.producer - s.wand.consumer).toNat ≤ 32

/-- The desk store is in its canonical form. -/
def StoreLaw (s : State) : Prop := Memory.wf s.store = true

/-- The law of the journal (R132): the unacknowledged entries lie between 0 and the capacity, and an outstanding batch holds
no more entries than are present. The other conditions hold the law through an adoption and a start: the capacity is at most
16,384 (R131), nothing is uploaded until the part is running, and until a profile is in force there is no journal and the
pointers stand together. What the journal and the profile are before the start has read them is the model's choice
(notes/assumptions/1.md, notes/assumptions/2.md). -/
def JournalLaw (s : State) : Prop :=
  s.present ≤ s.active.capacity ∧ s.active.capacity ≤ 16384 ∧
    (∀ b, s.upload.outstanding = some b → b.count ≤ s.present) ∧
    (s.path.stage ≠ .none → s.path.state = .starting ∧ s.upload.state = .idle ∧ s.upload.outstanding = none) ∧
    (s.path.stage = .profileReads → s.journal.head = s.journal.tail ∧ s.active.capacity = 0)

/-- The commands that deliver bytes of the central to the Upload Engine. -/
def Delivers : Instr → Prop
  | .welcome _ _ _ _ => True
  | .ack _ => True
  | .nakResend _ => True
  | .nakAbort _ => True
  | .bye => True
  | .frameDiscarded _ => True
  | _ => False

/-- The commands at which the blocks take the state of a start, or a start restores the journal's pointers (R179, R180). -/
def Restarts : Instr → Prop
  | .start => True
  | .powerOn => True
  | .mainPowerLoss => True
  | .pfailRelease => True
  | .resetRelease => True
  | .startProfileReadDone => True
  | .startStatusReadDone => True
  | _ => False

/-- The tail advances only over an acknowledged batch (R132): a command that changes it delivers bytes while the Upload Engine
hears the replies to its outstanding batch, and the tail passes that batch, or it belongs to a start. -/
def TailLaw (c : Instr) (s t : State) : Prop :=
  t.journal.tail = s.journal.tail ∨ Restarts c ∨
    (Delivers c ∧ s.upload.state = .sending ∧ s.upload.reading = false ∧
      ∃ b, s.upload.outstanding = some b ∧ t.journal.tail = s.journal.tail + word b.count)

/-- A decided plan has at most the words its commit group has room for (Tables 1-7 and 5-6). -/
def PlanFits (p : Plan) : Prop := p.borrowerWords.length ≤ 2 ∧ p.slotWords.length ≤ 3

/-- The bounds of the queues: 24 entries of the Posted Write Queue (R167), 16 of the CRQ (R9), 4 slips (R122), 4 system
entries (R136) and 16 entries of a slip list (R121), with the size of a decided group. -/
def QueueLaw (s : State) : Prop :=
  s.path.pwq.length ≤ 24 ∧ s.engine.crq.length ≤ 16 ∧ s.visit.slips.length ≤ 4 ∧ s.journal.systemQueue.length ≤ 4 ∧
    (∀ v, s.visit.visit = some v → v.list.length ≤ 16) ∧
    (∀ op p, s.engine.op = some op → (op.decided = some (.plan p) ∨ op.decided = some (.grant p)) → PlanFits p)

end Sys2Proof.Machine
end

