-- ==== Sys2Proof/Certificates/Slice0/Obligations.lean ====
section
/-! DEFINITION. The statements for the provers. -/

open Sys2Proof Sys2Proof.Machine

/-! ### The step and the whole machine -/

/-- Each row of the table is one whole step (spec/95): the step takes the command at the front of the queue and has its
effect on the state with the queue's rest; with no command waiting the part idles (the model's choice, log entry 7). -/
def Obligations.StepTakesFrontCommand : Prop :=
  (∀ (c : Instr) (rest : List Instr) (s : State), s.pending = c :: rest → step s = exec c (s.setPending rest)) ∧
    (∀ s : State, s.pending = [] → step s = .next s)

/-- Every upstream access has a treatment and every event that does not occur changes nothing (log entry 6): no command of
the table faults or is refused, in any state, and none touches the queue of commands. -/
def Obligations.EveryCommandAnswers : Prop :=
  ∀ (c : Instr) (s : State), ∃ t, exec c s = .next t ∧ t.pending = s.pending

/-- R155, R158, R168: the desk store is written by the drain of the Posted Write Queue and by the store access of a judged
upstream write, and by no other command. -/
def Obligations.OnlyStoreAccessesWriteStore : Prop :=
  ∀ (c : Instr) (s t : State), exec c s = .next t → t.store ≠ s.store →
    c = .pwqDrain ∨ (c = .forwardedUpstreamAccess ∧ ∃ a, s.path.upstream = .forwarded a ∧ a.write = true)

/-- Every step keeps the desk store in its canonical form. -/
def Obligations.StepKeepsStoreForm : Prop :=
  ∀ s t : State, StoreLaw s → step s = .next t → StoreLaw t

/-- The law of the desk clock (R44): every step keeps the day at most 36,524, with the minute and the second in range. -/
def Obligations.StepKeepsClockLaw : Prop :=
  ∀ s t : State, ClockLaw s → step s = .next t → ClockLaw t

/-- The law of the scan ring (R109): every step keeps the producer less the consumer within 0..32. -/
def Obligations.StepKeepsScanRingLaw : Prop :=
  ∀ s t : State, ScanRingLaw s → step s = .next t → ScanRingLaw t

/-- The law of the journal (R132): every step keeps the unacknowledged entries between 0 and the capacity, and the tail
advances only over an acknowledged batch, a start restoring it from its mirror. The conditions of the law for a part that no
profile is in force of yet rest on what the model chooses there (log entries 1 and 2). -/
def Obligations.StepKeepsJournalLaw : Prop :=
  ∀ s t : State, JournalLaw s → step s = .next t →
    JournalLaw t ∧ ∀ (c : Instr) (rest : List Instr), s.pending = c :: rest → TailLaw c s t

/-- The bounds of the queues (R9, R121, R122, R136, R167): every step keeps them. -/
def Obligations.StepKeepsQueueLaw : Prop :=
  ∀ s t : State, QueueLaw s → step s = .next t → QueueLaw t

/-- The state after reset, whose values the model chooses where the spec gives none (log entry 1), meets each law. -/
def Obligations.ResetMeetsLaws : Prop :=
  StoreLaw State.reset ∧ ClockLaw State.reset ∧ ScanRingLaw State.reset ∧ JournalLaw State.reset ∧ QueueLaw State.reset

/-! ### Loan slots and borrowers -/

/-- R5: a REQ_LOAN of an EMPTY, REFUSED or RETURNED slot, and a REQ_RETURN or REQ_RENEW of a LENT or OVERDUE slot, is taken
in one act while the CRQ has a free entry. The store is to receive IN_PROGRESS with the request's kind and the rest of the
previous status word; the slot joins the busy set; the entry joins the tail of the CRQ; the map records IN_PROGRESS. That
the previous status word is what an internal read gives is the model's reading, and that it is read inside this act, with no
turn of the port, is its choice (log entry 23). -/
def Obligations.TakenRequestJoinsCrq : Prop :=
  ∀ (s : State) (addr : Addr) (i : Nat) (st : LoanState), LoanWriteJudged s addr i st → s.engine.crq.length < 16 →
    let old := readStatus (internalRead s (s.active.loanAddr i 0))
    let taken (kind : Nat) (e : CrqEntry) : State :=
      { s with
        path := pathForwarding s ⟨true, addr, { old with state := .inProgress, kind := kind }.encode, fullWord⟩
        engine := { s.engine with
          crq := s.engine.crq ++ [e]
          busy := s.engine.busy ++ [.loan i]
          stateMap := mapSet s.engine.stateMap i .inProgress } }
    ((st = .empty ∨ st = .refused ∨ st = .returned) →
        exec (.reqLoan addr fullWord) s = .next (taken 1 (.loan i))) ∧
      ((st = .lent ∨ st = .overdue) →
        exec (.reqReturn addr fullWord) s = .next (taken 2 (.ret i st)) ∧
          exec (.reqRenew addr fullWord) s = .next (taken 3 (.renew i st)))

/-- R3, R36, R129, R142, R164, R165: a request or a command that is partial or not accepted is suppressed, or rewritten to 0
in the command word, and BAD_REQUEST is raised with the word address, its stamp's two words being posted; nothing else
changes. The clauses: requests that Table 1-3 does not accept; any write to a loan slot's w0 that is partial or writes none of
the four request values; a partial PAYMENT; a partial command; an UPLOAD_NOW while not
IDLE; a REPRINT with no last slip or 4 slips queued; a SET_CLOCK whose copies are unmarked or out of range; a code above 5.
-/
def Obligations.RefusedWritesOnlyReport : Prop :=
  ∀ (s : State) (addr : Addr) (st : Strobes),
    let suppressed (c : Instr) : Prop := ∃ t, exec c s = .next t ∧ OnlyChanges [.path, .events] s t ∧ PathKeeps s t ∧
      t.path.upstream = .idle ∧ t.path.completion = .write ∧ t.events = eventsAfterBad s addr ∧
      Queues s t (stampMirror t.events 2)
    let zeroed (c : Instr) : Prop := ∃ t, exec c s = .next t ∧ OnlyChanges [.path, .events] s t ∧ PathKeeps s t ∧
      t.path.upstream = .forwarded ⟨true, addr, 0#32, fullWord⟩ ∧ t.path.completion = s.path.completion ∧
      t.events = eventsAfterBad s addr ∧ Queues s t (stampMirror t.events 2)
    (∀ i now, LoanWriteJudged s addr i now →
      (st ≠ fullWord ∨ (now = .lent ∨ now = .overdue ∨ now = .inProgress) → suppressed (.reqLoan addr st)) ∧
      (st ≠ fullWord ∨ (now = .lent ∨ now = .overdue ∨ now = .inProgress) → suppressed (.loanSlotClear addr st)) ∧
      (st ≠ fullWord ∨ ¬ (now = .lent ∨ now = .overdue) → suppressed (.reqReturn addr st)) ∧
      (st ≠ fullWord ∨ ¬ (now = .lent ∨ now = .overdue) → suppressed (.reqRenew addr st)) ∧
      (∀ (c : Instr) (code : Word), accessOf c = some ⟨true, addr, code, st⟩ → (st ≠ fullWord ∨ 3 < code.toNat) →
        suppressed c)) ∧
    (∀ b amount, PaymentJudged s addr b → st ≠ fullWord → suppressed (.payment addr amount st)) ∧
    (StatusWriteJudged s addr 2 →
      (st ≠ fullWord →
        suppressed (.uploadNow addr st) ∧ suppressed (.reprint addr st) ∧ suppressed (.silence addr st) ∧
          suppressed (.clearStamps addr st) ∧ suppressed (.setClock addr st) ∧
          ∀ code, suppressed (.commandCodeInvalid addr code st)) ∧
      (s.upload.state ≠ .idle → zeroed (.uploadNow addr fullWord)) ∧
      (s.visit.lastSlip = none ∨ 4 ≤ s.visit.slips.length → zeroed (.reprint addr fullWord)) ∧
      (s.calendar.mark3 = false ∨ s.calendar.mark4 = false ∨ 36524 < s.calendar.copy3.toNat ∨
          1439 < field s.calendar.copy4 0 16 ∨ 59 < field s.calendar.copy4 16 8 → zeroed (.setClock addr fullWord)) ∧
      (∀ code : Word, 5 < code.toNat → zeroed (.commandCodeInvalid addr code fullWord)))

/-- R6: a write of EMPTY to a REFUSED, RETURNED or EMPTY slot reaches the store unchanged and the map records EMPTY; it does
not enter the CRQ and changes nothing else. -/
def Obligations.SlotClearPasses : Prop :=
  ∀ (s : State) (addr : Addr) (i : Nat) (st : LoanState), LoanWriteJudged s addr i st →
    (st = .empty ∨ st = .refused ∨ st = .returned) →
    exec (.loanSlotClear addr fullWord) s = .next { s with
      path := pathForwarding s ⟨true, addr, 0#32, fullWord⟩
      engine := { s.engine with stateMap := mapSet s.engine.stateMap i .empty } }

/-- R7, R160: the status read made for a held write of loan slot words w1 to w4 records the slot's state and judges the
write: suppressed while the loan is live, passed otherwise. A held request write is judged on the recorded state as it would
be had the map held it. That the judgement is made again from the first step of R155, the busy and ordering holds included,
is the model's reading (log entry 12). -/
def Obligations.StatusReadJudgesHeldWrite : Prop :=
  ∀ (s : State) (a : Access) (n : Nat) (w0 : Addr) (st : LoanState), s.path.upstream = .held a .statusRead →
    a.write = true → s.service = true → s.path.state = .running → s.active.loanWin.hits a.addr = true →
    s.active.loanWin.offset a.addr = n → w0 = s.active.loanAddr (n / 16) 0 →
    (servedAtOnce s w0 = true ∨ granted s = some .upstream) → st = (readStatus (internalRead s w0)).state →
    let known : State := { s with engine := { s.engine with stateMap := mapSet s.engine.stateMap (n / 16) st } }
    exec .slotStatusReadDone s = .next (endAct (judge a known)) ∧
      (busyAt s a.addr = false → queueHolds s a.addr = false → regionOf s.active a.addr = .window .loan n →
        (n % 16 = 1 ∨ n % 16 = 2 ∨ n % 16 = 3 ∨ n % 16 = 4) → (∀ k, k ≠ .loan → s.active.hits k a.addr = false) →
        ((st = .lent ∨ st = .overdue) →
          exec .slotStatusReadDone s = .next { known with path := pathCompleted s }) ∧
        (¬ (st = .lent ∨ st = .overdue) →
          exec .slotStatusReadDone s = .next { known with path := pathForwarding s a }))

/-- R36: a full-word write of an amount to a borrower's w5 is taken while the CRQ has a free entry: the store is to receive 0,
the borrower joins the busy set, and a PAYMENT entry with the amount clamped to 999,999 joins the tail of the CRQ. A full word
of 0 passes unchanged and makes no request. -/
def Obligations.PaymentWriteTaken : Prop :=
  ∀ (s : State) (addr : Addr) (b : Nat) (amount : Word), PaymentJudged s addr b →
    (amount ≠ 0#32 → s.engine.crq.length < 16 →
      exec (.payment addr amount fullWord) s = .next { s with
        path := pathForwarding s ⟨true, addr, 0#32, fullWord⟩
        engine := { s.engine with
          crq := s.engine.crq ++ [.payment b (min amount.toNat 999999)]
          busy := s.engine.busy ++ [.borrower b] } }) ∧
      (amount = 0#32 → exec (.payment addr amount fullWord) s = .next { s with
        path := pathForwarding s ⟨true, addr, 0#32, fullWord⟩ })

/-- R8, R9: a request that would be taken, a PAYMENT and an opening or refreshing current-patron write are held while the CRQ
holds 16 entries, and nothing else changes. -/
def Obligations.FullCrqHoldsRequests : Prop :=
  ∀ (s : State) (addr : Addr) (data : Word) (st : Strobes), 16 ≤ s.engine.crq.length →
    let held (c : Instr) (w : Word) (st : Strobes) : Prop :=
      exec c s = .next { s with path := { s.path with upstream := .held ⟨true, addr, w, st⟩ .requestRoom, fresh := 0 } }
    (∀ i now, LoanWriteJudged s addr i now →
      ((now = .empty ∨ now = .refused ∨ now = .returned) → held (.reqLoan addr fullWord) 1#32 fullWord) ∧
      ((now = .lent ∨ now = .overdue) →
        held (.reqReturn addr fullWord) 2#32 fullWord ∧ held (.reqRenew addr fullWord) 3#32 fullWord)) ∧
    (∀ b, PaymentJudged s addr b → data ≠ 0#32 → held (.payment addr data fullWord) data fullWord) ∧
    (StatusWriteJudged s addr 0 → (mergeLanes s.visit.patronCopy data st).toNat < s.active.borrowerCount →
      held (.currentPatronOpen addr data st) data st ∧ held (.currentPatronRefresh addr data st) data st)

/-! ### The Circulation Engine -/

/-- R11, R82: the idle engine takes the entry at the head of the CRQ and enters FETCH; with the CRQ empty and a sweep
running it starts a step on the slot at the cursor, with the sweep's target, and claims that slot. That the words of a fetch
are read one after another in this order is the model's choice (log entry 13), as is the claim over an access to the slot that
is already forwarded (log entry 12). -/
def Obligations.IdleEngineTakesWork : Prop :=
  ∀ s : State, s.engine.state = .idle →
    (∀ e rest, s.engine.crq = e :: rest → exec .engineTakeEntry s = .next { s with
      path := { s.path with fresh := 0 }
      engine := { s.engine with
        crq := rest, state := .fetch, op := some (newOp (.entry e) (entryFetches e) (entryBorrower e)) } }) ∧
    (s.engine.crq = [] → s.path.state = .running → s.engine.sweep.state = .running → exec .sweepStepStart s = .next { s with
      path := { s.path with fresh := 0 }
      engine := { s.engine with
        state := .fetch
        op := some (newOp (.sweepStep s.engine.sweep.cursor s.engine.sweep.target) [.slot 0, .slot 6] none)
        sweep := { s.engine.sweep with restarted := false }
        busy := s.engine.busy ++ [.loan s.engine.sweep.cursor] } })

/-- R12: a fetch read that is neither the operation's last nor the slot's w1 is kept; the read of w1 that names a borrower
claims the borrower, adds the borrower's words to the fetch, and for a LOAN of the open visit's patron reloads the idle
timer; a w1 that names none claims nothing. That the borrower's words are read behind the loan slot's is the model's choice
(log entry 13), as is the claim over an access to the borrower that is already forwarded (log entry 12). -/
def Obligations.FetchReadKept : Prop :=
  ∀ (s : State) (op : Op) (w second : FetchWord) (rest : List FetchWord) (d : Word), s.engine.state = .fetch →
    s.engine.op = some op → op.todo = w :: second :: rest → readServed s .engine (fetchAddr s op w) = true →
    d = internalRead s (fetchAddr s op w) →
    (w ≠ .slot 1 → exec .fetchReadDone s = .next { s with
      path := { s.path with fresh := 0 }
      engine := { s.engine with op := some (op.keep w d) } }) ∧
    (w = .slot 1 → field d 0 16 < s.active.borrowerCount → (∀ p ∈ op.slotWords, p.1 ≠ 1) →
      exec .fetchReadDone s = .next { s with
        path := { s.path with fresh := 0 }
        visit := if op.kind.isLoan && s.visiting (field d 0 16) then
          { s.visit with idleTimer := if s.active.idleTimeout = 0 then none else some s.active.idleTimeout } else s.visit
        engine := { s.engine with
          op := some { op.keep w d with
            todo := second :: rest ++ borrowerFetches op.kind, borrower := some (field d 0 16) }
          busy := s.engine.busy ++ [.borrower (field d 0 16)] } }) ∧
    (w = .slot 1 → s.active.borrowerCount ≤ field d 0 16 → (∀ p ∈ op.slotWords, p.1 ≠ 1) →
      exec .fetchReadDone s = .next { s with
        path := { s.path with fresh := 0 }
        engine := { s.engine with op := some (op.keep w d) } })

/-- R13, R18, R37, R40, R83, R84, R89: the last fetch read of an operation. A PAYMENT takes the clock's reading, fixes the
payment and enters COMMIT, its group waiting for the queue; the applied part is the smaller of the amount and the fines. A
RETURN takes its fine from the calendar, or 0 with the clock not valid, and waits in DECIDE while a list load is in
progress. A PATRON_OPEN finds the verdict and the borrower's w3. A sweep step on a slot past due reads w1 to w4 and then
marks it; a recovery step resolves an interrupted slot; a step with no change releases its slot and advances the cursor, and
the sweep whose cursor reaches the slot count ends with STATUS w17 and SWEEP_DONE (R87). R174, R175: with no visit open and
the CRQ empty, such a step judges a candidate that waits. That w1 to w4 are read in this order is the model's choice (log
entry 13), and that an ended sweep keeps its cursor and target is its reading (log entry 20). -/
def Obligations.LastFetchReadDecides : Prop :=
  ∀ (s : State) (op : Op) (w : FetchWord), s.engine.state = .fetch → s.engine.op = some op → op.todo = [w] → w ≠ .slot 1 →
    readServed s .engine (fetchAddr s op w) = true →
    let op1 := op.keep w (internalRead s (fetchAddr s op w))
    let read : Op := { op1 with reading := some s.reading }
    let rec_ := op1.record
    let c := s.active.borrowerClass rec_.cls
    let item := s.active.itemClass op1.itemNo
    (∀ b amount, op.kind = .entry (.payment b amount) →
      let plan := paid s.active op1 b amount s.reading
      exec .fetchReadDone s = .next (afterDecision s read (.plan plan)) ∧
        plan.entry.map (fun e => (e.kind, e.borrower, e.slot, e.bar0, e.amount)) =
          some (.payment, b, 65535, word (amount - min amount rec_.fines), word (min amount rec_.fines))) ∧
    (∀ i prior, op.kind = .entry (.ret i prior) →
      let fine := OpenCal.fine ⟨s.active.weeklyHours, closedDates s.calendar.table⟩ op1.status.hourLoan op1.due
        s.reading.instant item.grace item.rate item.cap
      (s.calendar.valid = false →
        exec .fetchReadDone s = .next (afterDecision s read (.plan (returned s.active op1 i prior s.reading 0)))) ∧
      (s.calendar.valid = true → s.calendar.load = none →
        exec .fetchReadDone s = .next (afterDecision s read (.plan (returned s.active op1 i prior s.reading fine)))) ∧
      (s.calendar.valid = true → s.calendar.load ≠ none → exec .fetchReadDone s = .next (afterQuestion s read))) ∧
    (∀ b, op.kind = .entry (.patronOpen b) →
      let latch := latchAfter c rec_.fines rec_.latch
      let verdict : Verdict := ⟨s.calendar.valid && decide (rec_.expiry + c.cardGrace < s.calendar.day), rec_.manualBlock, latch,
        decide (c.overdueLimit < rec_.overdueCount), decide (c.loanLimit ≤ rec_.loansOut)⟩
      exec .fetchReadDone s = .next (afterDecision s read
        (.patron (countsWord rec_.loansOut rec_.overdueCount latch verdict) verdict rec_.fines
          (latchEvents c rec_.latch latch)))) ∧
    (∀ i target, op.kind = .sweepStep i target →
      let past : Prop := ∃ x, target = some x ∧ op1.status.state = .lent ∧
        ((op1.status.hourLoan = true ∧ op1.due.before x = true) ∨ (op1.status.hourLoan = false ∧ op1.due.day < x.day))
      let interrupted : Prop := op1.status.state = .inProgress ∧ s.engine.sweep.recovery = true
      (past → (∀ p ∈ op1.slotWords, p.1 ≠ 1) → exec .fetchReadDone s = .next { s with
        path := { s.path with fresh := 0 }
        engine := { s.engine with op := some { op1 with todo := [.slot 1, .slot 2, .slot 3, .slot 4] } } }) ∧
      (past → (∃ p ∈ op1.slotWords, p.1 = 1) →
        exec .fetchReadDone s = .next (afterDecision s read (.plan (marked s.active op1 i s.reading)))) ∧
      (¬ past → interrupted → exec .fetchReadDone s = .next (afterDecision s read (.plan (resolution op1)))) ∧
      (¬ past → ¬ interrupted → FinishAdoptsNothing s → s.engine.sweep.cursor + 1 < s.active.loanCount →
        exec .fetchReadDone s = .next { s with
          path := { s.path with fresh := 0 }
          engine := { s.engine with
            state := .idle
            op := none
            busy := busyWithout s i op.borrower
            sweep := (sweepAfterStep s s.engine.sweep.marks).1 } }) ∧
      (¬ past → ¬ interrupted → FinishAdoptsNothing s → s.engine.sweep.state = .running → s.path.state = .running →
        s.active.loanCount ≤ (sweepAfterStep s s.engine.sweep.marks).1.cursor →
        ∃ t, exec .fetchReadDone s = .next t ∧ OnlyChanges [.path, .engine, .events] s t ∧ PathGrows s t ∧
          t.engine = { s.engine with
            state := .idle
            op := none
            busy := busyWithout s i op.borrower
            sweep := (sweepAfterStep s s.engine.sweep.marks).1
            sweepWord := (sweepAfterStep s s.engine.sweep.marks).2 } ∧
          t.events = { s.events with latchA := s.events.latchA ||| 16384#15 } ∧
          Queues s t (wordsAfterStep s s.engine.sweep.marks)) ∧
      (∀ ws, ¬ past → ¬ interrupted → s.profile.candidate = some ws → s.visit.visit = none → s.engine.crq = [] →
        s.path.state = .running → JudgedAfter PathGrows .fetchReadDone s ws))

/-- R16, R18, R32, R34, R38, R40, R41, R118, R133, R134: a PAYMENT, a RETURN and a PATRON_OPEN decided in COMMIT, with their
group at the front of the line and 16 free queue entries, commit in one act and leave the engine IDLE, their claims ended.
The group of a PAYMENT is its entry and the borrower's w3 and w4; of a RETURN its entry, the borrower's w3 and w4, and the
slot's w7, w13 and w0 in state RETURNED; each with the head mirror, or the loss count mirror when no journal entry is free.
A PATRON_OPEN writes w3 in SERVICE mode and, when its visit stands, STATUS w10 and w14, and gives the visit its standing; on
BLOCKED it raises PATRON_BLOCKED and sounds ALARM. Each raises its events. At an orderly stop the open visit is discarded
with the commit. While the STATUS window is disabled no mirror word is in any group. R15, R174, R175: a candidate that waits is
judged at the finish of any commit with no visit open and the CRQ empty. -/
def Obligations.EntriesCommit : Prop :=
  (∀ (s : State) (op : Op) (d : Decided) (ws : List Word), CommitAdmitted s op d → s.profile.candidate = some ws →
    s.visit.visit = none → s.engine.crq = [] → s.path.state = .running → JudgedAfter PathGrows .commitAdmit s ws) ∧
  ∀ (s : State) (op : Op) (d : Decided), CommitReady s op d →
    let rec_ := op.record
    let c := s.active.borrowerClass rec_.cls
    let latch1 := latchAfter c rec_.fines rec_.latch
    let borrower (b n : Nat) (w : Word) : QEntry := ⟨s.active.borrowerAddr b n, w⟩
    (∀ b amount r, op.kind = .entry (.payment b amount) → op.borrower = some b →
      d = .plan (paid s.active op b amount r) →
      let applied := min amount rec_.fines
      let latch := latchAfter c (rec_.fines - applied) latch1
      let words := [borrower b 3 (countsWord rec_.loansOut rec_.overdueCount latch
          (verdictOf c rec_ rec_.loansOut rec_.overdueCount latch r)),
        borrower b 4 (word (rec_.fines - applied))]
      let entry : JEntry := ⟨.payment, 0, r, 0, b, 65535, word (amount - applied), 0#32, 0#32, word applied⟩
      ∃ t, exec .commitAdmit s = .next t ∧ OnlyChanges [.path, .engine, .visit, .journal, .events] s t ∧ PathGrows s t ∧
        t.visit = settledVisit s s.visit ∧
        t.engine = { s.engine with state := .idle, op := none, busy := s.engine.busy.erase (.borrower b) } ∧
        t.events.latchA = s.events.latchA ||| 1#15 ||| latchBits c rec_.latch latch ∧
        t.events.sounder = s.events.sounder ∧
        (0 < s.freeEntries → EntryKept s t entry words [] ∧ t.events.stamps = s.events.stamps) ∧
        (s.freeEntries = 0 → EntryLost s t words)) ∧
    (∀ i prior r fine, op.kind = .entry (.ret i prior) → d = .plan (returned s.active op i prior r fine) →
      let out := rec_.loansOut - 1
      let overdues := if prior = .overdue then rec_.overdueCount - 1 else rec_.overdueCount
      let fines := min (rec_.fines + fine) 999999
      let latch := latchAfter c fines latch1
      let clamped : Prop := rec_.loansOut = 0 ∨ (prior = .overdue ∧ rec_.overdueCount = 0) ∨ 999999 < rec_.fines + fine
      let words (kept : Bool) : List QEntry :=
        (match op.borrower with
          | some b => [borrower b 3 (countsWord out overdues latch (verdictOf c rec_ out overdues latch r)),
            borrower b 4 (word fines)]
          | none => []) ++
          [⟨s.active.loanAddr i 7, put 0 17 fine ||| put 17 11 r.minute⟩] ++
          (if kept then [⟨s.active.loanAddr i 13, s.journal.head⟩] else []) ++
          [⟨s.active.loanAddr i 0, { op.status with
            state := .returned, kind := 0, reason := 0, lastRefused := false, noClock := !r.valid }.encode⟩]
      let entry : JEntry := ⟨.ret, op.itemNo, r, (if r.valid then 0 else 8) + (if prior = .overdue then 256 else 0), op.index, i,
        barWord0 op.digits, barWord1 op.digits, barWord2 op.digits, word fine⟩
      ∃ t, exec .commitAdmit s = .next t ∧ OnlyChanges [.path, .engine, .visit, .journal, .events] s t ∧ PathGrows s t ∧
        t.visit = settledVisit s s.visit ∧
        t.engine = { s.engine with
          state := .idle, op := none, stateMap := mapSet s.engine.stateMap i .returned, busy := busyWithout s i op.borrower } ∧
        (op.borrower ≠ none → t.events.latchA =
          s.events.latchA ||| 1#15 ||| latchBits c rec_.latch latch ||| (if clamped then 64#15 else 0#15)) ∧
        (op.borrower = none → t.events.latchA = s.events.latchA ||| 1#15 ||| 128#15) ∧
        t.events.sounder = s.events.sounder ∧
        (0 < s.freeEntries → EntryKept s t entry (words true) [] ∧ t.events.stamps = s.events.stamps) ∧
        (s.freeEntries = 0 → EntryLost s t (words false))) ∧
    (∀ b w3 verdict fines after, op.kind = .entry (.patronOpen b) → op.borrower = some b →
      d = .patron w3 verdict fines (latchEvents c rec_.latch after) →
      let w10 := put 0 16 b ||| put 16 4 (if verdict.any then 2 else 1) ||| put 20 5 verdict.bits
      let latched : BitVec 15 := if s.service then latchBits c rec_.latch after else 0#15
      let w3s := if s.service then [borrower b 3 w3] else []
      ∃ t, exec .commitAdmit s = .next t ∧ OnlyChanges [.path, .engine, .visit, .events] s t ∧ PathGrows s t ∧
        t.engine = { s.engine with state := .idle, op := none, busy := s.engine.busy.erase (.borrower b) } ∧
        t.events.latchB = s.events.latchB ∧ t.events.stamps = s.events.stamps ∧
        (∀ v, s.visit.visit = some v → v.patron = b →
          t.visit = settledVisit s { s.visit with
            visit := some { v with standing := if verdict.any then .blocked else .clear }
            verdictWord := w10
            finesWord := word fines } ∧
          (∃ es, t.path.pwq = s.path.pwq ++ w3s ++ mirrors s [(10, w10), (14, word fines)] ++ es ∧
            (s.path.state = .running → s.path.waiting.length = 1 → es = mirrors s (visitReport s t))) ∧
          t.events.latchA = s.events.latchA ||| latched ||| (if verdict.any then 8#15 else 0#15) ∧
          t.events.sounder = (if verdict.any then sounds s .alarm else s.events.sounder)) ∧
        ((∀ v, s.visit.visit = some v → v.patron ≠ b) → t.visit = settledVisit s s.visit ∧
          t.path.pwq = s.path.pwq ++ w3s ∧ t.events.latchA = s.events.latchA ||| latched ∧
          t.events.sounder = s.events.sounder))

/-- R12, R13, R17, R19 to R22, R63, R64, R74: the checks of a LOAN and of a RENEW are made in the order of Table 1-8 on one
reading of the clock, at the last fetch read. The first that fails fixes the refusal: a LOAN's slot becomes REFUSED with the
reason, a RENEW's keeps the state it had. One that passes every check asks the Calendar Unit for its due instant, in DECIDE
while a list load is in progress; an answer with no due instant refuses it, and a due instant grants it, a RENEW keeping the
later of that and the old one. That a RENEW which keeps the old due instant writes w6 with that instant as read under R80,
other bits 0, is the model's reading (log entry 28). -/
def Obligations.LoanAndRenewDecided : Prop :=
  ∀ (s : State) (op : Op) (i : Nat) (w : FetchWord), s.engine.state = .fetch → s.engine.op = some op →
    op.todo = [w] → w ≠ .slot 1 → readServed s .engine (fetchAddr s op w) = true →
    let op1 := op.keep w (internalRead s (fetchAddr s op w))
    let read : Op := { op1 with reading := some s.reading }
    let item := s.active.itemClass op1.itemNo
    let rec_ := op1.record
    let c := s.active.borrowerClass rec_.cls
    let expired : Prop := rec_.expiry + c.cardGrace < s.calendar.day
    let latched : Prop := latchAfter c rec_.fines rec_.latch = true
    let overdue : Prop := c.overdueLimit < rec_.overdueCount
    let due (hours : Bool) : DueResult := OpenCal.due ⟨s.active.weeklyHours, closedDates s.calendar.table⟩ hours
      s.reading.instant item.period s.active.minHourLoan rec_.expiry c.dueNotPastExpiry
    let entry (k : EntryKind) (flags : Nat) (amount : Word) : JEntry := ⟨k, op1.itemNo, s.reading, flags, op1.index, i,
      barWord0 op1.digits, barWord1 op1.digits, barWord2 op1.digits, amount⟩
    let refusal (st : LoanState) (status : Word) (reason flags : Nat) (tone : Option Pattern) : Decided := .plan
      { mapState := some st
        borrowerWords := []
        slotWords := []
        link := false
        status := some status
        entry := if s.active.journalRefusals then some (entry .refusal (reason + flags) 0#32) else none
        resolved := none
        events := [.requestDone]
        reason := some reason
        tone := tone
        slip := none }
    let waits : Prop := exec .fetchReadDone s = .next (afterQuestion s read)
    let becomes (d : Decided) : Prop := exec .fetchReadDone s = .next (afterDecision s read d)
    (op.kind = .entry (.loan i) →
      let refused (reason : Nat) : Prop := becomes (refusal .refused (word (8 + 256 * reason)) reason 0 (some .alarm))
      let visiting : Prop := op.borrower ≠ none ∧ ∃ v, s.visit.visit = some v ∧ v.patron = op1.index
      let out := min (rec_.loansOut + 1) 255
      let granted (d : Instant) (noOpenDay shortened : Bool) : Prop := ∀ b, op.borrower = some b → becomes (.grant
        { mapState := some .lent
          borrowerWords := [(3, countsWord out rec_.overdueCount false ⟨false, false, false, false, decide (c.loanLimit ≤ out)⟩),
            (6, put 0 16 s.calendar.day)]
          slotWords := [(5, instantWord s.reading.instant false), (6, instantWord d false), (7, 0#32)]
          link := true
          status := some (put 0 4 5 ||| put 20 1 (flag item.hours) ||| put 21 1 (flag shortened) ||| put 22 1 (flag noOpenDay))
          entry := some (entry .loan (flag item.hours + 2 * flag shortened + 4 * flag noOpenDay) (instantWord d false))
          resolved := none
          events := .requestDone :: ((if rec_.latch && c.reportBoth then [.fineBlockCleared] else []) ++
            (if 255 < rec_.loansOut + 1 then [.countClamped] else []))
          reason := none
          tone := some .lent
          slip := some ⟨i, d, item.hours, shortened, false, lastTen op1.digits⟩ })
      (s.calendar.valid = false → refused 1) ∧
      (s.calendar.valid = true →
        (¬ visiting → refused 2) ∧
        (visiting → item.loanable = false → refused 4) ∧
        (visiting → item.loanable = true →
          (item.hours = true → c.hourLoans = false → refused 12) ∧
          ((item.hours = false ∨ c.hourLoans = true) →
            (expired → refused 5) ∧
            (¬ expired →
              (rec_.manualBlock = true → refused 6) ∧
              (rec_.manualBlock = false →
                (latched → refused 7) ∧
                (¬ latched →
                  (overdue → refused 8) ∧
                  (¬ overdue →
                    (c.loanLimit ≤ rec_.loansOut → refused 9) ∧
                    (rec_.loansOut < c.loanLimit →
                      (s.freeEntries ≤ s.active.reserve → refused 10) ∧
                      (s.active.reserve < s.freeEntries →
                        (s.calendar.load ≠ none → waits) ∧
                        (s.calendar.load = none →
                          (due item.hours = .dateLimit → refused 15) ∧
                          (due item.hours = .expiryNear → refused 11) ∧
                          (∀ d nod short, due item.hours = .due d nod short → granted d nod short)))))))))))) ∧
    (∀ prior, op.kind = .entry (.renew i prior) →
      let old := op1.status
      let refused (reason : Nat) : Prop := becomes (refusal prior
        { old with state := prior, kind := 0, reason := reason, lastRefused := true }.encode reason 256 none)
      let granted (d : Instant) (noOpenDay shortened : Bool) : Prop := becomes (.grant
        { mapState := some .lent
          borrowerWords := [(6, put 0 16 s.calendar.day)]
          slotWords := [(6, instantWord d false)]
          link := true
          status := some { old with
            state := .lent
            kind := 0
            reason := 0
            renewals := old.renewals + 1
            shortened := shortened
            noOpenDay := noOpenDay
            lastRefused := false }.encode
          entry := some (entry .renew (2 * flag shortened + 4 * flag noOpenDay + 16 * (old.renewals + 1)) (instantWord d false))
          resolved := none
          events := [.requestDone]
          reason := none
          tone := some .lent
          slip := some ⟨i, d, old.hourLoan, shortened, true, lastTen op1.digits⟩ })
      (s.calendar.valid = false → refused 1) ∧
      (s.calendar.valid = true →
        (op.borrower = none → refused 3) ∧
        (op.borrower ≠ none →
          (prior = .overdue → refused 14) ∧
          (prior ≠ .overdue →
            (item.renewalLimit ≤ old.renewals → refused 13) ∧
            (old.renewals < item.renewalLimit →
              (expired → refused 5) ∧
              (¬ expired →
                (rec_.manualBlock = true → refused 6) ∧
                (rec_.manualBlock = false →
                  (latched → refused 7) ∧
                  (¬ latched →
                    (overdue → refused 8) ∧
                    (¬ overdue →
                      (s.freeEntries ≤ s.active.reserve → refused 10) ∧
                      (s.active.reserve < s.freeEntries →
                        (s.calendar.load ≠ none → waits) ∧
                        (s.calendar.load = none →
                          (due old.hourLoan = .dateLimit → refused 15) ∧
                          (due old.hourLoan = .expiryNear → refused 11) ∧
                          (∀ d nod short, due old.hourLoan = .due d nod short →
                            (op1.due.before d = true → granted d nod short) ∧
                            (op1.due.before d = false → granted op1.due old.noOpenDay old.shortened)))))))))))))

/-- R14 to R17, R19, R23, R121: a granted LOAN at the front of the line commits when the visit of its borrower still stands,
and a granted RENEW without regard to a visit, each when more entries are free than the reserve. The group is the journal
entry, the borrower's words, the slot's words, w13 with the head as its journal link, w0 last, and the head mirror; the map
records LENT, both claims end, the decision's events are raised, the LENT pattern is requested, the grant joins the slip
list of an open visit of its borrower, and the engine is IDLE. The seventeenth grant of a list is a split: while the part
runs with slips enabled a slip of the sixteen, marked CONTINUED, is asked for, or dropped with SLIP_DROPPED when four are
queued, and the grant begins a new list. While the STATUS window is disabled the group has no mirror. That STATUS w23 is
written once for the split is the model's choice (log entry 32). -/
def Obligations.GrantsCommit : Prop :=
  ∀ (s : State) (op : Op) (i b : Nat) (p : Plan) (e : JEntry) (w0 : Word) (grant : SlipEntry),
    CommitReady s op (.grant p) → op.borrower = some b →
    ((op.kind = .entry (.loan i) ∧ op.index = b ∧ s.visiting b = true) ∨ ∃ prior, op.kind = .entry (.renew i prior)) →
    (p.entry, p.status, p.slip, p.mapState, p.link, p.resolved, p.reason, p.tone) =
      (some e, some w0, some grant, some .lent, true, none, none, some .lent) →
    PlanFits p → (∀ ev ∈ p.events, ev.record = none ∧ ev.place < 15) → s.active.reserve < s.freeEntries →
    ∃ t es, exec .commitAdmit s = .next t ∧ OnlyChanges [.path, .engine, .visit, .journal, .events] s t ∧ PathGrows s t ∧
      EntryKept s t e (p.borrowerWords.map (fun q => ⟨s.active.borrowerAddr b q.1, q.2⟩) ++
        p.slotWords.map (fun q => ⟨s.active.loanAddr i q.1, q.2⟩) ++
        [⟨s.active.loanAddr i 13, s.journal.head⟩, ⟨s.active.loanAddr i 0, w0⟩]) es ∧
      (s.path.state = .running → s.path.waiting.length = 1 → s.path.pwq.length ≤ 7 → es = mirrors s (visitReport s t)) ∧
      t.engine = { s.engine with
        state := .idle
        op := none
        stateMap := mapSet s.engine.stateMap i .lent
        busy := (s.engine.busy.erase (.loan i)).erase (.borrower b) } ∧
      (∀ v, s.visit.visit = some v → v.patron = b →
        (v.list.length < 16 →
          t.visit = settledVisit s { s.visit with visit := some { v with list := v.list ++ [grant] } }) ∧
        (16 ≤ v.list.length → t.visit = settledVisit s { s.visit with
          visit := some { v with list := [grant], continued := true }
          slips := if s.path.state = .running then slipsAsked s v true else s.visit.slips })) ∧
      ((∀ v, s.visit.visit = some v → v.patron ≠ b) → t.visit = settledVisit s s.visit) ∧
      (∀ ev : Event, ev ≠ .slipDropped → ev ≠ .journalLow →
        (t.events.has ev = true ↔ s.events.has ev = true ∨ ev ∈ p.events)) ∧
      (t.events.has .slipDropped = true ↔ s.events.has .slipDropped = true ∨ .slipDropped ∈ p.events ∨
        (s.path.state = .running ∧ s.active.slipEnable = true ∧ 4 ≤ s.visit.slips.length ∧
          ∃ v, s.visit.visit = some v ∧ v.patron = b ∧ 16 ≤ v.list.length)) ∧
      t.events.stamps = s.events.stamps ∧ t.events.sounder = sounds s .lent

/-- R14, R20, R21, R23: a granted LOAN whose visit has closed is refused at its commit with NO_VISIT, and a granted LOAN or
RENEW that finds no more entries free than the reserve with JOURNAL_FULL. Its group is the status word alone, with the
REFUSAL entry before it when refusals are journalled and an entry is free. A LOAN's slot becomes REFUSED and ALARM sounds; a
RENEW's keeps the state it had and no tone is requested. REFUSAL is raised with the reason, and no grant reaches the Visit
Unit. -/
def Obligations.GrantRejudgedAtCommit : Prop :=
  ∀ (s : State) (op : Op) (i : Nat) (p : Plan) (reason : Nat) (st : LoanState) (w0 : Word) (flags : Nat)
      (sounder : Option Playing), CommitReady s op (.grant p) →
    ((op.kind = .entry (.loan i) ∧ (st, w0, flags, sounder) = (.refused, word (8 + 256 * reason), 0, sounds s .alarm) ∧
        ((s.visiting op.index = false ∧ reason = 2) ∨
          (s.visiting op.index = true ∧ s.freeEntries ≤ s.active.reserve ∧ reason = 10))) ∨
      (op.kind = .entry (.renew i st) ∧ s.freeEntries ≤ s.active.reserve ∧ reason = 10 ∧ (flags, sounder) =
        (256, s.events.sounder) ∧
        w0 = { op.status with state := st, kind := 0, reason := 10, lastRefused := true }.encode)) →
    let entry : JEntry := ⟨.refusal, op.itemNo, op.reading.getD s.reading, reason + flags, op.index, i, barWord0 op.digits,
      barWord1 op.digits, barWord2 op.digits, 0#32⟩
    ∃ t es, exec .commitAdmit s = .next t ∧ OnlyChanges [.path, .engine, .visit, .journal, .events] s t ∧ PathGrows s t ∧
      (s.active.journalRefusals = false ∨ s.freeEntries = 0 →
        t.path.pwq = s.path.pwq ++ [⟨s.active.loanAddr i 0, w0⟩] ++ es ∧ t.journal = s.journal ∧
          t.events.latchB = s.events.latchB) ∧
      (s.active.journalRefusals = true → 0 < s.freeEntries →
        EntryKept s t entry [⟨s.active.loanAddr i 0, w0⟩] es) ∧
      (s.path.state = .running → s.path.waiting.length = 1 → es = mirrors s (stampMirror t.events 0)) ∧
      t.visit = settledVisit s s.visit ∧
      t.events.latchA = s.events.latchA ||| 1#15 ||| 2#15 ∧
      t.events.stamps = s.events.stamps.set 0 ((s.events.stamp 0).note s.active.stampLast s.reading reason) ∧
      t.events.sounder = sounder ∧
      t.engine = { s.engine with
        state := .idle, op := none, stateMap := mapSet s.engine.stateMap i st, busy := busyWithout s i op.borrower }

/-- R82, R84, R85, R87, R89: the commit of a sweep or recovery step. An overdue mark with a free journal entry commits its
entry, the borrower's w3, the slot's w13 and w0 in state OVERDUE and the head mirror, and marks made rises; one that finds
no free entry commits nothing and raises nothing: its group leaves the line, its claims end, the cursor stays, and the sweep
is PAUSED. An interrupted resolution commits the slot's w0 in state REFUSED and STATUS w21, and raises COUNT_SUSPECT. A step
that has committed advances the cursor, and the sweep whose cursor reaches the slot count ends, STATUS w17 standing behind
the group when no other group waits. While the STATUS window is disabled no mirror word is placed. That the mark which
pauses a sweep restarted during its step leaves the cursor where the restart put it, and that an ended sweep keeps its
cursor and target, is the model's reading (log entry 20). -/
def Obligations.SweepStepCommitsOrPauses : Prop :=
  ∀ (s : State) (op : Op) (d : Decided) (i : Nat) (target : Option Instant), CommitReady s op d →
    op.kind = .sweepStep i target →
    let rec_ := op.record
    let c := s.active.borrowerClass rec_.cls
    let latch := latchAfter c rec_.fines rec_.latch
    let overdues := min (rec_.overdueCount + 1) 255
    let ended (m : Nat) : BitVec 15 :=
      if s.engine.sweep.state = .running ∧ (sweepAfterStep s m).1.state = .idle then 16384#15 else 0#15
    (∀ p e, d = .plan p → p.entry = some e → s.freeEntries = 0 → exec .commitAdmit s = .next { s with
      path := { s.path with waiting := dropGroup .engineCommit s.path.waiting, fresh := 0 }
      visit := settledVisit s s.visit
      engine := { s.engine with
        state := .idle
        op := none
        sweep := { s.engine.sweep with state := .paused, restarted := false }
        busy := busyWithout s i op.borrower } }) ∧
    (∀ r, d = .plan (marked s.active op i r) → 0 < s.freeEntries →
      let marks := min (s.engine.sweep.marks + 1) 16384
      let entry : JEntry := ⟨.overdueMark, op.itemNo, r, flag op.status.hourLoan, op.index, i, barWord0 op.digits,
        barWord1 op.digits, barWord2 op.digits, instantWord op.due false⟩
      let words : List QEntry :=
        (match op.borrower with
          | some b => [⟨s.active.borrowerAddr b 3,
              countsWord rec_.loansOut overdues latch (verdictOf c rec_ rec_.loansOut overdues latch r)⟩]
          | none => []) ++
          [⟨s.active.loanAddr i 13, s.journal.head⟩,
            ⟨s.active.loanAddr i 0, { op.status with state := .overdue, kind := 0 }.encode⟩]
      ∃ t es, exec .commitAdmit s = .next t ∧ OnlyChanges [.path, .engine, .visit, .journal, .events] s t ∧ PathGrows s t ∧
        EntryKept s t entry words es ∧
        ((sweepAfterStep s marks).1.state = s.engine.sweep.state → es = []) ∧
        (s.path.state = .running → s.path.waiting.length = 1 → es = mirrors s (wordsAfterStep s marks)) ∧
        t.visit = settledVisit s s.visit ∧
        t.engine = { s.engine with
          state := .idle
          op := none
          stateMap := mapSet s.engine.stateMap i .overdue
          sweep := (sweepAfterStep s marks).1
          sweepWord := (sweepAfterStep s marks).2
          busy := busyWithout s i op.borrower } ∧
        (op.borrower ≠ none → t.events.latchA = s.events.latchA ||| latchBits c rec_.latch latch |||
          (if 255 < rec_.overdueCount + 1 then 64#15 else 0#15) ||| ended marks) ∧
        (op.borrower = none → t.events.latchA = s.events.latchA ||| 128#15 ||| ended marks) ∧
        t.events.stamps = s.events.stamps ∧ t.events.sounder = s.events.sounder) ∧
    (d = .plan (resolution op) →
      let count := min (s.engine.resolutions + 1) 16384
      let w21 := put 0 14 i ||| put 14 2 op.status.kind ||| put 16 15 count
      let marks := s.engine.sweep.marks
      ∃ t es, exec .commitAdmit s = .next t ∧ OnlyChanges [.path, .engine, .visit, .events] s t ∧ PathGrows s t ∧
        t.path.pwq = s.path.pwq ++
          [⟨s.active.loanAddr i 0, { op.status with state := .refused, kind := 0, reason := 16 }.encode⟩] ++
            mirrors s [(21, w21)] ++ es ∧
        ((sweepAfterStep s marks).1.state = s.engine.sweep.state → es = []) ∧
        (s.path.state = .running → s.path.waiting.length = 1 → es = mirrors s (wordsAfterStep s marks)) ∧
        t.visit = settledVisit s s.visit ∧
        t.engine = { s.engine with
          state := .idle
          op := none
          stateMap := mapSet s.engine.stateMap i .refused
          resolutions := count
          interruptedWord := w21
          sweep := (sweepAfterStep s marks).1
          sweepWord := (sweepAfterStep s marks).2
          busy := busyWithout s i op.borrower } ∧
        t.events = { s.events with latchA := s.events.latchA ||| 128#15 ||| ended marks })

/-! ### The visit -/

/-- R115, R120: a write to STATUS w0 that names another borrower than the open visit's, with CRQ room, closes the open visit
and opens one: the copy and the store take the value, the visit is PENDING with an empty list and the clock's reading, the
idle timer is loaded, and a PATRON_OPEN entry joins the CRQ with a claim on the borrower. R113, R174: when the close lets a
waiting candidate be adopted that disables the STATUS window, no visit opens (log entry 29). -/
def Obligations.PatronOpens : Prop :=
  ∀ (s : State) (addr : Addr) (data m : Word) (st : Strobes), StatusWriteJudged s addr 0 →
    m = mergeLanes s.visit.patronCopy data st → m.toNat < s.active.borrowerCount → s.engine.crq.length < 16 →
    s.visiting m.toNat = false →
    (∀ ws, s.visit.visit ≠ none → s.profile.candidate = some ws → s.engine.crq = [] → s.engine.op = none →
      (readProfile ws).clamp.journalWin = s.active.journalWin → (readProfile ws).clamp.statusWin.enable = false →
      ∃ t, exec (.currentPatronOpen addr data st) s = .next t ∧ t.visit.visit = none ∧ t.visit.patronCopy = 65535#32 ∧
        t.profile.active = (readProfile ws).clamp ∧ (∀ b, .patronOpen b ∉ t.engine.crq) ∧
        (regionOf (readProfile ws).clamp addr = .outside →
          t.engine.crq = [] ∧ t.path.upstream = .forwarded ⟨true, addr, data, st⟩)) ∧
    ((s.visit.visit = none ∨ NoAdoption s) → ∃ t, exec (.currentPatronOpen addr data st) s = .next t ∧
      OnlyChanges [.path, .engine, .visit, .events] s t ∧ PathKeeps s t ∧
      t.path.upstream = .forwarded ⟨true, addr, data, st⟩ ∧ t.path.completion = s.path.completion ∧
      t.visit = { visitAfterClose s with
        patronCopy := m
        visit := some ⟨m.toNat, .pending, s.reading, [], false⟩
        idleTimer := if s.active.idleTimeout = 0 then none else some s.active.idleTimeout } ∧
      t.engine = { s.engine with
        crq := s.engine.crq ++ [.patronOpen m.toNat], busy := s.engine.busy ++ [.borrower m.toNat] } ∧
      t.events = eventsAfterClose s ∧
      Queues s t (wordsAfterClose s [] ++ [(23, visitWord t.visit)]))

/-- R116: a write to STATUS w0 that names the open visit's patron refreshes the visit: the standing becomes PENDING, the
idle timer is loaded, and a PATRON_OPEN entry joins the CRQ with a claim on the borrower; the list and the opened-at instant
stay. -/
def Obligations.PatronRefreshed : Prop :=
  ∀ (s : State) (addr : Addr) (data m : Word) (st : Strobes) (v : Visit), StatusWriteJudged s addr 0 →
    m = mergeLanes s.visit.patronCopy data st → m.toNat < s.active.borrowerCount → s.engine.crq.length < 16 →
    s.visit.visit = some v → v.patron = m.toNat →
    ∃ t, exec (.currentPatronRefresh addr data st) s = .next t ∧ OnlyChanges [.path, .engine, .visit] s t ∧
      PathKeeps s t ∧ t.path.upstream = .forwarded ⟨true, addr, data, st⟩ ∧ t.path.completion = s.path.completion ∧
      t.visit = { s.visit with
        patronCopy := m
        visit := some { v with standing := .pending }
        idleTimer := if s.active.idleTimeout = 0 then none else some s.active.idleTimeout } ∧
      t.engine = { s.engine with
        crq := s.engine.crq ++ [.patronOpen m.toNat], busy := s.engine.busy ++ [.borrower m.toNat] } ∧
      Queues s t (visitReport s t)

/-- R117, R120: 65,535 written to STATUS w0 closes an open visit and passes as written; a value that is neither an index nor
65,535 closes it too, is rewritten to 65,535, places BAD_BORROWER in STATUS w10 and 0 in w14, and raises BAD_REQUEST. R174,
R175: with the CRQ empty and no operation in flight, the close of either judges a candidate that waits. R167 leaves the
order of two groups of one act open: that the stamp's words stand behind the BAD_BORROWER group is the model's choice (log
entry 3). -/
def Obligations.PatronClosedOrRefused : Prop :=
  ∀ (s : State) (addr : Addr) (data m : Word) (st : Strobes), StatusWriteJudged s addr 0 →
    m = mergeLanes s.visit.patronCopy data st → s.active.borrowerCount ≤ m.toNat →
    (∀ ws, s.visit.visit ≠ none → s.profile.candidate = some ws → s.engine.crq = [] → s.engine.op = none →
      (data = 65535#32 → m = 65535#32 → JudgedAfter PathGrows (.currentPatronClose addr st) s ws) ∧
      (m ≠ 65535#32 → JudgedAfter (fun t0 t => PathKeeps s t ∧ t.path.upstream = t0.path.upstream ∧
        t.path.completion = t0.path.completion) (.currentPatronRefused addr data st) s ws)) ∧
    ((s.visit.visit = none ∨ NoAdoption s) → data = 65535#32 → m = 65535#32 →
      ∃ t, exec (.currentPatronClose addr st) s = .next t ∧ OnlyChanges [.path, .visit, .events] s t ∧ PathKeeps s t ∧
        t.path.upstream = .forwarded ⟨true, addr, data, st⟩ ∧ t.path.completion = s.path.completion ∧
        t.visit = { visitAfterClose s with patronCopy := m } ∧ t.events = eventsAfterClose s ∧
        Queues s t (wordsAfterClose s [])) ∧
    ((s.visit.visit = none ∨ NoAdoption s) → m ≠ 65535#32 →
      ∃ t, exec (.currentPatronRefused addr data st) s = .next t ∧ OnlyChanges [.path, .visit, .events] s t ∧
        PathKeeps s t ∧ t.path.upstream = .forwarded ⟨true, addr, 65535#32, fullWord⟩ ∧
        t.path.completion = s.path.completion ∧
        t.visit = { visitAfterClose s with patronCopy := 65535#32, verdictWord := 262143#32, finesWord := 0#32 } ∧
        t.events = eventsBad (eventsAfterClose s) s addr ∧
        Queues s t (wordsAfterClose s [] ++ [(10, 262143#32), (14, 0#32)] ++ stampMirror t.events 2))

/-- R119, R120: the expiry of a running idle timer closes the open visit: the copy of STATUS w0 takes 65,535, the slip of a
non-empty list is asked for, STATUS w10, w14, w0 and w23 are written, and VISIT_CLOSED is raised. R174, R175: with the CRQ
empty and no operation in flight, the close judges a candidate that waits. -/
def Obligations.IdleTimerClosesVisit : Prop :=
  ∀ (s : State) (v : Visit) (n : Nat), s.path.state = .running → s.visit.visit = some v → s.visit.idleTimer = some n →
    (∀ ws, s.profile.candidate = some ws → s.engine.crq = [] → s.engine.op = none →
      JudgedAfter PathGrows .idleTimerExpire s ws) ∧
    (NoAdoption s → ∃ t, exec .idleTimerExpire s = .next t ∧ OnlyChanges [.path, .visit, .events] s t ∧ PathGrows s t ∧
      t.visit = { visitAfterClose s with patronCopy := 65535#32 } ∧ t.events = eventsAfterClose s ∧
      Queues s t (wordsAfterClose s [(0, 65535#32)]))

/-! ### The command word -/

/-- R142, R165: UPLOAD_NOW while the Upload Engine is IDLE begins an upload: the command word is rewritten to 0, the counts
and the batch size take their values at a start with the profile's upload fields, and the engine waits for the line, and
with UPL_READY asserted sends HELLO at once; the upload word reports each of these changes (R152). That a HELLO behind a
frame still on the line carries the fields of the moment it is asked for is the model's choice (log entry 18). -/
def Obligations.UploadNowStarts : Prop :=
  ∀ (s : State) (addr : Addr), StatusWriteJudged s addr 2 → s.upload.state = .idle →
    let u := s.active.upload
    let begun (st : UploadState) (tx : List TxFrame) : Upload :=
      ⟨st, u, u.batchStart, 0#16, none, false, 0, 0, 0#16, false, 0#32, .none, false, tx, s.upload.cutByte,
        s.upload.rxState, s.upload.rxBytes⟩
    ∃ t, exec (.uploadNow addr fullWord) s = .next t ∧ OnlyChanges [.path, .upload] s t ∧ PathKeeps s t ∧
      t.path.upstream = .forwarded ⟨true, addr, 0#32, fullWord⟩ ∧ t.path.completion = s.path.completion ∧
      t.upload = (if s.pins.uplReady then
        begun .helloSent (s.upload.tx ++ [⟨.hello, frameBytes 1#8 (helloPayload s)⟩]) else begun .waitLine s.upload.tx) ∧
      Queues s t ((19, uploadWord (begun .waitLine s.upload.tx)) :: if s.pins.uplReady then [(19, uploadWord t.upload)] else [])

/-- R129: REPRINT with a last slip and fewer than four slips queued places a copy of it in the Slip Queue, READY, and an
idle printer starts on a READY slip at the head; the visit word reports each change (R113). That the rate is taken on
entering PAPER_WAIT is the model's reading (log entry 17). -/
def Obligations.ReprintQueuesLastSlip : Prop :=
  ∀ (s : State) (addr : Addr) (text : List Byte), StatusWriteJudged s addr 2 → s.visit.lastSlip = some text →
    s.visit.slips.length < 4 →
    ∃ t, exec (.reprint addr fullWord) s = .next t ∧ OnlyChanges [.path, .visit, .events] s t ∧ PathKeeps s t ∧
      t.path.upstream = .forwarded ⟨true, addr, 0#32, fullWord⟩ ∧ t.path.completion = s.path.completion ∧
      let queued := { s.visit with slips := s.visit.slips ++ [.ready text] };
      PrinterGoesOn s t queued ∧
        Queues s t ((23, visitWord queued) :: if visitWord t.visit = visitWord queued then [] else [(23, visitWord t.visit)])

/-- R187, R188, R189, Table 11-3: a request to an IDLE sounder starts its pattern; while one plays, a request of higher or
equal priority starts its own from the first segment, as does ACCEPT while ALARM plays, and any other is dropped. SILENCE
ends the pattern playing; the end of a segment begins the next one with the pitch its pattern gives it, and the last
segment's end leaves the sounder IDLE. -/
def Obligations.SounderPlaysAndFallsSilent : Prop :=
  (∀ (p : Profile) (asked : Pattern) (cur : Playing),
    let rank (x : Pattern) : Nat := match x with
      | .accept => 1
      | .lent => 2
      | .rejectScan => 3
      | .alarm => 4
    let begins : Option Playing := some ⟨asked, 0, if asked = .rejectScan then p.toneB else p.toneA⟩
    soundAfter p none asked = begins ∧
      (rank cur.pattern ≤ rank asked → soundAfter p (some cur) asked = begins) ∧
      (cur.pattern = .alarm → asked = .accept → soundAfter p (some cur) asked = begins) ∧
      (rank asked < rank cur.pattern → ¬ (cur.pattern = .alarm ∧ asked = .accept) →
        soundAfter p (some cur) asked = some cur)) ∧
  ∀ (s : State) (addr : Addr) (d : Nat),
    (StatusWriteJudged s addr 2 → exec (.silence addr fullWord) s = .next { s with
      path := pathForwarding s ⟨true, addr, 0#32, fullWord⟩
      events := { s.events with sounder := none } }) ∧
    (let after (p : Option Playing) : Prop := exec .sounderSegmentEnd s = .next { s with
      path := { s.path with fresh := 0 }, events := { s.events with sounder := p } };
      (s.events.sounder = some ⟨.accept, 0, d⟩ → after none) ∧
      (s.events.sounder = some ⟨.rejectScan, 0, d⟩ → after none) ∧
      (s.events.sounder = some ⟨.lent, 0, d⟩ → after (some ⟨.lent, 1, 0⟩)) ∧
      (s.events.sounder = some ⟨.lent, 1, d⟩ → after (some ⟨.lent, 2, s.active.toneA⟩)) ∧
      (s.events.sounder = some ⟨.lent, 2, d⟩ → after none) ∧
      (∀ k, k < 19 → s.events.sounder = some ⟨.alarm, k, d⟩ →
        after (some ⟨.alarm, k + 1, if k % 2 = 0 then s.active.toneB else s.active.toneA⟩)) ∧
      (s.events.sounder = some ⟨.alarm, 19, d⟩ → after none))

/-- R186: CLEAR_STAMPS clears the four stamp records in one act, w24 to w31 entering the Posted Write Queue as one group of
eight words of 0; the latches do not change. -/
def Obligations.ClearStampsClears : Prop :=
  ∀ (s : State) (addr : Addr), StatusWriteJudged s addr 2 →
    ∃ t, exec (.clearStamps addr fullWord) s = .next t ∧ OnlyChanges [.path, .events] s t ∧ PathKeeps s t ∧
      t.path.upstream = .forwarded ⟨true, addr, 0#32, fullWord⟩ ∧ t.path.completion = s.path.completion ∧
      t.events = { s.events with stamps := List.replicate 4 ⟨0#8, 0, 0, false, 0⟩ } ∧
      Queues s t ((List.range 8).map fun k => (24 + k, 0#32))

/-- R48, R49, R50, R51, R136: SET_CLOCK with both copies written and in range sets the clock: its day, minute and second,
the prescaler 0, the clock valid; the mirror is written, the CLOCK_SET entry asked for, and CLOCK_SET raised. A set of the
day forward past the last-swept day in SERVICE mode starts or restarts the sweep. R167 leaves the order of the groups of one
act open: that the mirror stands before every other one is the model's choice (log entry 3). -/
def Obligations.SetClockSets : Prop :=
  ∀ (s : State) (addr : Addr), StatusWriteJudged s addr 2 → s.calendar.mark3 = true → s.calendar.mark4 = true →
    s.calendar.copy3.toNat ≤ 36524 → field s.calendar.copy4 0 16 ≤ 1439 → field s.calendar.copy4 16 8 ≤ 59 →
    let day := s.calendar.copy3.toNat
    let minute := field s.calendar.copy4 0 16
    let second := field s.calendar.copy4 16 8
    let entry : JEntry := ⟨.clockSet, 0, ⟨day, minute, second, true⟩, if s.calendar.valid then 1024 else 0, 65535, 65535,
      instantWord ⟨s.calendar.day, s.calendar.minute⟩ false, put 0 6 s.calendar.second, 0#32, 0#32⟩
    let noticed : Prop := s.calendar.day < day ∧ s.service = true ∧ s.engine.sweep.lastSwept < day
    ∃ t, exec (.setClock addr fullWord) s = .next t ∧
      OnlyChanges [.path, .calendar, .journal, .events, .engine] s t ∧ PathKeeps s t ∧
      t.path.upstream = .forwarded ⟨true, addr, 0#32, fullWord⟩ ∧ t.path.completion = s.path.completion ∧
      t.calendar = { s.calendar with day := day, minute := minute, second := second, prescaler := 0, valid := true } ∧
      (s.active.statusWin.enable = true → s.path.waiting = [] → s.path.pwq.length ≤ 22 →
        ∃ es, t.path.pwq = s.path.pwq ++ statusEntries s [(16, dayWord t.calendar), (15, timeWord t.calendar)] ++ es) ∧
      (s.journal.systemQueue.length < 4 → t.journal = { s.journal with systemQueue := s.journal.systemQueue ++ [entry] }) ∧
      (4 ≤ s.journal.systemQueue.length →
        t.journal = { s.journal with lossCount := min (s.journal.lossCount + 1) 65535 }) ∧
      t.events.latchA = s.events.latchA ||| (if noticed ∧ s.active.loanCount = 0 then 16384#15 else 0#15) ∧
      t.events.latchB = s.events.latchB ||| 4#12 ||| (if 4 ≤ s.journal.systemQueue.length then 128#12 else 0#12) ∧
      (¬ noticed → t.engine = s.engine) ∧
      (noticed → 0 < s.active.loanCount → t.engine = { s.engine with
        sweep := { s.engine.sweep with
          state := .running
          cursor := 0
          target := some ⟨day, minute⟩
          marks := if s.engine.sweep.state = .idle then 0 else s.engine.sweep.marks
          recovery := if s.engine.sweep.state = .idle then false else s.engine.sweep.recovery
          restarted := decide (s.engine.sweep.state ≠ .idle) } })

/-! ### Other upstream accesses -/

/-- R110: the consumer count merged from the write is taken while the producer less it lies within 0..32, the write passing as
written; otherwise the store and the copy take the producer count. -/
def Obligations.ConsumerJudged : Prop :=
  ∀ (s : State) (addr : Addr) (data m : Word) (st : Strobes), StatusWriteJudged s addr 1 →
    m = mergeLanes s.wand.consumerCopy data st →
    ((s.wand.producer - m.setWidth 16).toNat ≤ 32 → exec (.scanConsumerWrite addr data st) s = .next { s with
      path := pathForwarding s ⟨true, addr, data, st⟩
      wand := { s.wand with consumerCopy := m } }) ∧
    (32 < (s.wand.producer - m.setWidth 16).toNat → exec (.scanConsumerWrite addr data st) s = .next { s with
      path := pathForwarding s ⟨true, addr, word s.wand.producer.toNat, fullWord⟩
      wand := { s.wand with consumerCopy := word s.wand.producer.toNat } })

/-- R47, R58, R163, R172: writes of STATUS w3 and w4, of the CALENDAR words 0 to 60 and of the profile words 0 to 126 pass
to the store and are merged, in the lanes of their strobes, into the copies their owners keep; CALENDAR words 61 to 63
change no copy; a guarded write in the profile region is suppressed and still merged. -/
def Obligations.SnoopedWritesMerge : Prop :=
  ∀ (s : State) (addr : Addr) (data : Word) (st : Strobes),
    let passed := pathForwarding s ⟨true, addr, data, st⟩
    (StatusWriteJudged s addr 3 → exec (.clockSetWordWrite addr data st) s = .next { s with
      path := passed
      calendar := { s.calendar with copy3 := mergeLanes s.calendar.copy3 data st, mark3 := true } }) ∧
    (StatusWriteJudged s addr 4 → exec (.clockSetWordWrite addr data st) s = .next { s with
      path := passed
      calendar := { s.calendar with copy4 := mergeLanes s.calendar.copy4 data st, mark4 := true } }) ∧
    (∀ n, WriteJudged s addr → regionOf s.active addr = .window .calendar n →
      (n ≤ 60 → exec (.calendarWrite addr data st) s = .next { s with
        path := passed
        calendar := { s.calendar with
          table := s.calendar.table.set n (mergeLanes (nth s.calendar.table n) data st) } }) ∧
      (60 < n → exec (.calendarWrite addr data st) s = .next { s with path := passed })) ∧
    (addr.toNat < 127 →
      let merged := { s.profile with
        shadow := s.profile.shadow.set addr.toNat (mergeLanes (nth s.profile.shadow addr.toNat) data st) }
      (WriteJudged s addr → exec (.profileWordWrite addr data st) s = .next { s with path := passed, profile := merged }) ∧
      (Presented s addr → queueHolds s addr = false → guardAt s addr = .guarded →
        exec (.profileWordWrite addr data st) s = .next { s with path := pathCompleted s, profile := merged }))

/-- R155, R184: a read of STATUS w8 or w9 is answered with the latch, every bit returned being cleared, and the store is not
read; any other read is served from the newest queue entry for its word or is forwarded to the store. R183: ATTN is asserted
while some latched event has its enable set in the mask of its latch. -/
def Obligations.EventWordAnswered : Prop :=
  (∀ s : State, s.attn = true ↔
    (∃ k, s.events.latchA.getLsbD k = true ∧ s.active.maskA.getLsbD k = true) ∨
      ∃ k, s.events.latchB.getLsbD k = true ∧ s.active.maskB.getLsbD k = true) ∧
  ∀ (s : State) (addr : Addr), Presented s addr →
    let answered (d : Word) : StorePath := { s.path with upstream := .idle, completion := .read d, fresh := 0 }
    (regionOf s.active addr = .window .status 8 → exec (.eventWordRead addr) s = .next { s with
      path := answered (s.events.latchA.setWidth 32)
      events := { s.events with latchA := 0#15 } }) ∧
    (regionOf s.active addr = .window .status 9 → exec (.eventWordRead addr) s = .next { s with
      path := answered (s.events.latchB.setWidth 32)
      events := { s.events with latchB := 0#12 } }) ∧
    (regionOf s.active addr ≠ .window .status 8 → regionOf s.active addr ≠ .window .status 9 →
      (∀ d, queued s.path.pwq addr = some d → exec (.eventWordRead addr) s = .next { s with path := answered d }) ∧
      (queued s.path.pwq addr = none → exec (.eventWordRead addr) s = .next { s with
        path := pathForwarding s ⟨false, addr, 0#32, 0#4⟩ }))

/-- R157, R159, R160: a guarded write is suppressed: the write completes, the store, the copies and the events do not
change. It is one when any window that covers its word guards it, whatever window the word is decoded as. A write of w1 to
w4 of a slot known to be live is one; of a slot not live it passes; of a slot whose state is not known it is held for the
status read. R26, R161: a write to one of the eight words at index 65,535 of a BORROWER window of size code 19 passes
unchanged. That it passes in both modes, and whatever another window that covers the word guards there, is the model's
reading (log entry 23). -/
def Obligations.GuardedWritesSuppressed : Prop :=
  ∀ (s : State) (addr : Addr) (data : Word) (st : Strobes), Presented s addr → queueHolds s addr = false →
    let suppressed : State := { s with path := pathCompleted s }
    (∀ n, s.service = true → regionOf s.active addr = .window .loan n →
      (n % 16 = 1 ∨ n % 16 = 2 ∨ n % 16 = 3 ∨ n % 16 = 4) →
      (∀ k, k ≠ .loan → s.active.hits k addr = false) →
      (∀ v, mapGet s.engine.stateMap (n / 16) = some v →
        ((v = .lent ∨ v = .overdue) → exec (.loanDescriptiveWrite addr data st) s = .next suppressed) ∧
        (¬ (v = .lent ∨ v = .overdue) → exec (.loanDescriptiveWrite addr data st) s = .next { s with
          path := pathForwarding s ⟨true, addr, data, st⟩ })) ∧
      (mapGet s.engine.stateMap (n / 16) = none → exec (.loanDescriptiveWrite addr data st) s = .next { s with
        path := { s.path with upstream := .held ⟨true, addr, data, st⟩ .statusRead, fresh := 0 } })) ∧
    (s.active.borrowerWin.enable = true → s.active.borrowerWin.size = 19 →
      (∃ n, n < 8 ∧ addr = s.active.borrowerAddr 65535 n) → exec (.guardedWrite addr data st) s = .next { s with
        path := pathForwarding s ⟨true, addr, data, st⟩ }) ∧
    (∀ k, 128 ≤ addr.toNat → s.active.hits k addr = true → WindowGuards s k (s.active.wordIn k addr) →
      exec (.guardedWrite addr data st) s = .next suppressed) ∧
    (∀ n, s.service = true → regionOf s.active addr = .window .borrower n → (n % 8 = 3 ∨ n % 8 = 4 ∨ n % 8 = 6) →
      exec (.guardedWrite addr data st) s = .next suppressed) ∧
    (∀ n, s.service = true → regionOf s.active addr = .window .loan n →
      (n % 16 = 5 ∨ n % 16 = 6 ∨ n % 16 = 7 ∨ n % 16 = 13) → exec (.guardedWrite addr data st) s = .next suppressed) ∧
    (∀ n, regionOf s.active addr = .window .scan n ∨ regionOf s.active addr = .window .journal n →
      exec (.guardedWrite addr data st) s = .next suppressed) ∧
    (∀ n, regionOf s.active addr = .window .status n → (5 ≤ n ∧ n ≠ 8 ∧ n ≠ 9) →
      exec (.guardedWrite addr data st) s = .next suppressed) ∧
    (∀ n, guardAt s addr = .free → regionOf s.active addr = .window .status n → (n = 8 ∨ n = 9) →
      exec (.guardedWrite addr data st) s = .next suppressed) ∧
    (guardAt s addr = .free → (regionOf s.active addr = .outside ∨
        ∃ n, (regionOf s.active addr = .window .borrower n ∧ (s.service = false ∨ n % 8 ≠ 5)) ∨
          (regionOf s.active addr = .window .loan n ∧ (s.service = false ∨ n % 16 ≠ 0))) →
      exec (.guardedWrite addr data st) s = .next { s with path := pathForwarding s ⟨true, addr, data, st⟩ })

/-- R7, R8, R10, R155, R166: an access that arrives is held while the part is not running; while its word lies in a loan
slot or a borrower slot of the busy set, in SERVICE mode; a write while the queue holds its word; and a write to the w0 of a
loan slot whose state the map does not hold, for the status read. A held access is judged again from the first step once its
hold has ended, as it would be had it just arrived: an access outside every window, a read of such a word, and a request
that waited for CRQ room. Until then nothing happens. That the busy hold goes by the windows' geometry (log entry 24), and
that a hold for ordering or for room ends in a judgement from the first step, busy hold included, is the model's reading
(log entry 12), and that the command changes nothing while the hold lasts is its choice (log entry 6), as is the read of a
taken request's previous status word with no turn of the port (log entry 23). -/
def Obligations.HeldAccessResumes : Prop :=
  (∀ (s : State) (a : Access) (why : Hold), s.path.upstream = .held a why → s.path.state = .running →
    ((why = .startStop ∨ (why = .busy ∧ busyAt s a.addr = false) ∨ (why = .ordering ∧ queueHolds s a.addr = false) ∨
        (why = .requestRoom ∧ s.engine.crq.length < 16)) →
      (busyAt s a.addr = true → exec .heldAccessResume s = .next { s with
        path := { s.path with upstream := .held a .busy, fresh := 0 } }) ∧
      (busyAt s a.addr = false → queueHolds s a.addr = false → guardAt s a.addr = .free →
        regionOf s.active a.addr = .outside → exec .heldAccessResume s = .next { s with path := pathForwarding s a }) ∧
      (∀ i, busyAt s a.addr = false → queueHolds s a.addr = false → guardAt s a.addr = .free → s.service = true →
        regionOf s.active a.addr = .window .loan (16 * i) → mapGet s.engine.stateMap i = some .lent →
        s.engine.crq.length < 16 → a = ⟨true, a.addr, 2#32, fullWord⟩ →
        exec .heldAccessResume s = .next { s with
          path := pathForwarding s ⟨true, a.addr, { readStatus (internalRead s (s.active.loanAddr i 0)) with
            state := .inProgress, kind := 2 }.encode, fullWord⟩
          engine := { s.engine with
            crq := s.engine.crq ++ [.ret i .lent]
            busy := s.engine.busy ++ [.loan i]
            stateMap := mapSet s.engine.stateMap i .inProgress } })) ∧
    ((why = .busy ∧ busyAt s a.addr = true) ∨ (why = .ordering ∧ queueHolds s a.addr = true) ∨
        (why = .requestRoom ∧ 16 ≤ s.engine.crq.length) →
      exec .heldAccessResume s = .next s)) ∧
  (∀ (s : State) (c : Instr) (a : Access), accessOf c = some a → s.pins.mainPower = true → s.path.upstream = .idle →
    let held (why : Hold) : Prop :=
      exec c s = .next { s with path := { s.path with upstream := .held a why, fresh := 0 } }
    (s.path.state ≠ .running → held .startStop) ∧
    (s.path.state = .running →
      (∀ i, s.service = true → s.active.hits .loan a.addr = true → i = s.active.wordIn .loan a.addr / 16 →
        .loan i ∈ s.engine.busy → held .busy) ∧
      (∀ b, s.service = true → s.active.hits .borrower a.addr = true → b = s.active.wordIn .borrower a.addr / 8 →
        .borrower b ∈ s.engine.busy → held .busy) ∧
      (busyAt s a.addr = false → a.write = true → (∃ e ∈ s.path.pwq, e.addr = a.addr) → held .ordering) ∧
      (∀ i, busyAt s a.addr = false → a.write = true → queueHolds s a.addr = false → guardAt s a.addr = .free →
        s.service = true → regionOf s.active a.addr = .window .loan (16 * i) → mapGet s.engine.stateMap i = none →
        held .statusRead)))

/-- R155, R168, R169: a judged write at its turn of the port writes the lanes of its strobes and no other lane of the store;
a judged read at its turn, or of a queued word at once, returns the newest value of its word. That strobe k is the lane of
bits 8k+7 to 8k is presumed (log entry 5). That an access judged before a claim on its slot or borrower began completes while
the claim stands is the model's choice (log entry 12). -/
def Obligations.StoreAccessMade : Prop :=
  ∀ (s : State) (a : Access), s.path.upstream = .forwarded a →
    (a.write = true → s.path.pwq.length < 16 → StoreLaw s →
      ∃ t, exec .forwardedUpstreamAccess s = .next t ∧ OnlyChanges [.store, .path] s t ∧ t.path = pathCompleted s ∧
        StoreLaw t ∧
        ∀ (b : Addr) (k : Nat), k < 4 → readLane t.store (laneAddr b k) =
          if b = a.addr ∧ a.strobes.getLsbD k = true then lane a.data k else readLane s.store (laneAddr b k)) ∧
    (a.write = false → (s.path.pwq.length < 16 ∨ queueHolds s a.addr = true) → exec .forwardedUpstreamAccess s = .next { s with
      path := { s.path with upstream := .idle, completion := .read (behind s a.addr), fresh := 0 } })

/-- R173, R174, R175: a write of profile word 127 is merged and judged as an adoption request. A shadow whose sum is not 0
or whose format is not 1 is rejected; a good one becomes the candidate, which waits while a visit is open, the engine has
work or a journal change meets an upload; a journal change over a ring that is not empty is rejected; any other is adopted
at once, clamped. Table 10-3, R57, R81, R88, R138, R176, R188: the adoption's effects on the slot state map, the sweep, the
Closed-Date Table and the sounder, and the two groups that write the STATUS words at a new place. The words among them whose
owners keep no present value are those they last took (log entry 10). That a change of the CALENDAR base in the bits below its
size makes a list load is the model's choice, and that those bits count in the other descriptors its reading (log entry 35). -/
def Obligations.AdoptionRequestJudged : Prop :=
  ∀ (s : State) (data : Word) (st : Strobes) (ws : List Word), WriteJudged s 127#22 →
    ws = s.profile.shadow.set 127 (mergeLanes (nth s.profile.shadow 127) data st) →
    let new := (readProfile ws).clamp
    let good : Prop := sumWords ws = 0#32 ∧ field (nth ws 0) 0 8 = 1
    let moves : Prop := new.journalWin ≠ s.active.journalWin
    let sw := s.engine.sweep
    let stopping : Prop := s.active.mode = .service ∧ new.mode = .maintenance
    let starting : Prop := s.active.mode = .maintenance ∧ new.mode = .service
    let restarting : Prop := s.active.mode = new.mode ∧
      (s.active.loanWin ≠ new.loanWin ∨ s.active.borrowerWin ≠ new.borrowerWin) ∧ sw.state ≠ .idle
    let ready : Prop := s.visit.visit = none ∧ s.engine.crq = [] ∧ s.engine.op = none ∧ (moves → s.upload.state = .idle)
    let passes (t : State) : Prop := PathKeeps s t ∧ t.path.upstream = .forwarded ⟨true, 127#22, data, st⟩ ∧
      t.path.completion = s.path.completion
    let rejected (o : AdoptionOutcome) : Prop := ∃ t, exec (.adoptionRequest data st) s = .next t ∧
      OnlyChanges [.path, .profile, .events] s t ∧ passes t ∧
      t.profile = { s.profile with shadow := ws, candidate := none, outcome := o } ∧
      t.events = { s.events with latchB := s.events.latchB ||| 16#12 }
    (¬ good → rejected .rejectedCheck) ∧
    (good → ¬ ready → ∃ t, exec (.adoptionRequest data st) s = .next t ∧ OnlyChanges [.path, .profile] s t ∧ passes t ∧
      t.profile = { s.profile with shadow := ws, candidate := some ws }) ∧
    (good → ready → moves → s.journal.head ≠ s.journal.tail → rejected .rejectedJournal) ∧
    (good → ready → (moves → s.journal.head = s.journal.tail) → ∃ t, exec (.adoptionRequest data st) s = .next t ∧
      OnlyChanges [.path, .profile, .events, .journal, .engine, .calendar] s t ∧ passes t ∧
      t.profile = ⟨ws, new, none, .adopted, false⟩ ∧
      t.events.latchB.getLsbD 3 = true ∧
      t.events.latchB.getLsbD 5 = (s.events.latchB.getLsbD 5 || decide (new ≠ readProfile ws)) ∧
      (t.journal.head, t.journal.tail) = (s.journal.head, s.journal.tail) ∧
      (s.journal.systemQueue.length < 4 → t.journal.systemQueue = s.journal.systemQueue ++
        [⟨.profileAdopt, 0, s.reading,
          (if new.mode = .maintenance then 2048 else 0) + (if new = readProfile ws then 0 else 4096), 65535, 65535,
          0#32, 0#32, 0#32, new.generation⟩]) ∧
      t.calendar = (if new.calendarWin.enable = false then
          (if s.active.calendarWin.enable = true then { s.calendar with table := List.replicate 61 0#32, load := none }
          else s.calendar)
        else if s.active.calendarWin.enable = false ∨ s.active.calendarWin.base ≠ new.calendarWin.base then
          { s.calendar with load := some 0 }
        else s.calendar) ∧
      t.events.sounder = (if new.sounderEnable then s.events.sounder else none) ∧
      t.engine.stateMap = (if s.active.mode ≠ new.mode ∨ s.active.loanWin ≠ new.loanWin then [] else s.engine.stateMap) ∧
      (t.engine.crq, t.engine.busy, t.engine.state, t.engine.op) =
        (s.engine.crq, s.engine.busy, s.engine.state, s.engine.op) ∧
      (stopping → t.engine.sweep = if sw.state = .idle then sw else
        { sw with state := .idle, cursor := 0, target := none, recovery := false }) ∧
      (starting → 0 < new.loanCount → t.engine.sweep = { sw with
        state := .running
        cursor := 0
        target := if s.calendar.valid then some ⟨s.calendar.day, s.calendar.minute⟩ else none
        marks := 0
        recovery := true
        restarted := false }) ∧
      (restarting → 0 < new.loanCount → t.engine.sweep = { sw with state := .running, cursor := 0, restarted := true }) ∧
      (starting ∨ restarting → new.loanCount = 0 →
        t.engine.sweep.state = .idle ∧ t.events.latchA = s.events.latchA ||| 16384#15) ∧
      (¬ stopping → ¬ starting → ¬ restarting → t.engine.sweep = { sw with
        state := if sw.state = .paused ∧ moves ∧ new.journalWin.enable = true then .running else sw.state }) ∧
      (¬ ((starting ∨ restarting) ∧ new.loanCount = 0) → t.events.latchA = s.events.latchA) ∧
      (new.statusWin.enable = true →
        (s.active.statusWin.enable = false ∨ s.active.statusWin.aligned ≠ new.statusWin.aligned) →
        s.journal.systemQueue.length < 4 → ∃ gs, t.path.waiting = gs ++
          [⟨.adoption, firstOfAdoption t, false⟩, ⟨.adoption, secondOfAdoption t, false⟩]))

/-! ### The desk clock and the calendar -/

/-- R43, R44, R46, R51, R60, R142: when the prescaler returns to 0 the clock advances by one second with its carries, or
holds at the last second of the calendar; the mirror is written while the part is running. The turn of a day sends a
rollover notice, and the alarm is evaluated at second 0 of a minute, both while the clock is valid and the part is running.
R167 leaves the order of the groups of one act open: that the mirror stands before the upload word and STATUS w17 is the
model's choice (log entry 3). -/
def Obligations.ClockAdvances : Prop :=
  ∀ (s : State) (day minute second : Nat), (s.calendar.day, s.calendar.minute, s.calendar.second) = (day, minute, second) →
    let placed (d m k : Nat) : Calendar := { s.calendar with day := d, minute := m, second := k, prescaler := 0 }
    let mirrored (t : State) : Prop :=
      (s.path.state = .running → Queues s t [(16, dayWord t.calendar), (15, timeWord t.calendar)]) ∧
        (s.path.state ≠ .running → t.path = { s.path with fresh := 0 })
    let mirroredFirst (t : State) : Prop :=
      s.path.state = .running → s.active.statusWin.enable = true → s.path.waiting = [] → s.path.pwq.length ≤ 22 →
        ∃ es, t.path.pwq = s.path.pwq ++ statusEntries s [(16, dayWord t.calendar), (15, timeWord t.calendar)] ++ es
    let alarmAt (d m : Nat) : Prop := s.path.state = .running ∧ s.calendar.valid = true ∧
      s.active.alarm.weekdays.getLsbD ((d + 5) % 7) = true ∧
      (s.active.alarm.minuteEnable = true → m % 60 = s.active.alarm.minute) ∧
      (s.active.alarm.hourEnable = true → m / 60 = s.active.alarm.hour)
    let alarmed (t : State) (d m : Nat) : Prop :=
      (alarmAt d m → s.upload.state = .idle →
        t.upload.state = (if s.pins.uplReady then .helloSent else .waitLine) ∧ t.events.latchB = s.events.latchB) ∧
      (alarmAt d m → s.upload.state ≠ .idle →
        t.upload = s.upload ∧ t.events.latchB = s.events.latchB ||| 2048#12) ∧
      (¬ alarmAt d m → t.upload = s.upload ∧ t.events.latchB = s.events.latchB)
    (second < 59 → ∃ t, exec .clockAdvance s = .next t ∧ OnlyChanges [.path, .calendar] s t ∧ PathGrows s t ∧
      t.calendar = placed day minute (second + 1) ∧ mirrored t) ∧
    ((day, minute, second) = (36524, 1439, 59) → ∃ t, exec .clockAdvance s = .next t ∧
      OnlyChanges [.path, .calendar] s t ∧ PathGrows s t ∧ t.calendar = placed day minute second ∧ mirrored t) ∧
    (second = 59 → minute < 1439 → ∃ t, exec .clockAdvance s = .next t ∧
      OnlyChanges [.path, .calendar, .upload, .events] s t ∧ PathGrows s t ∧ t.calendar = placed day (minute + 1) 0 ∧
      mirroredFirst t ∧ alarmed t day (minute + 1)) ∧
    (second = 59 → minute = 1439 → day < 36524 → ∃ t, exec .clockAdvance s = .next t ∧
      OnlyChanges [.path, .calendar, .engine, .upload, .events] s t ∧ PathGrows s t ∧ t.calendar = placed (day + 1) 0 0 ∧
      mirroredFirst t ∧ alarmed t (day + 1) 0 ∧
      (let noticed : Prop := s.path.state = .running ∧ s.calendar.valid = true ∧ s.service = true ∧
        s.engine.sweep.lastSwept < day + 1;
        (¬ noticed → t.engine = s.engine) ∧
        (noticed → 0 < s.active.loanCount → (t.engine.sweep.state, t.engine.sweep.cursor, t.engine.sweep.target) =
          (.running, 0, some ⟨day + 1, 0⟩))))

/-- R57, R63, R76, R88: a list-load read places its word in the copy. The last one, word 60, ends the load; a LOAN, a RENEW
or a RETURN that waited in DECIDE for its end is then answered from the copy and enters COMMIT; a start that waited for it
completes (R181): the part is running, START_UP is raised, and CLOCK_INVALID with the clock not valid, the STATUS words of
the start are placed, the START_UP entry is asked for, a held access to a word outside every window is released, and in
SERVICE mode the recovery pass starts. The stamp words are those of the records as they then stand (R185): that this is what
R181 means by cleared is the model's reading (log entry 14). That over no loan slot the recovery pass ends in the same act,
with SWEEP_DONE in latch A, is its reading too (log entry 34). -/
def Obligations.ListLoadPlacesWords : Prop :=
  ∀ (s : State) (n : Nat), s.calendar.load = some n → readServed s .listLoad (s.active.calendarWin.at n) = true →
    let table := s.calendar.table.set n (internalRead s (s.active.calendarWin.at n))
    (n < 60 → exec .listLoadReadDone s = .next { s with
      path := { s.path with fresh := 0 }
      calendar := { s.calendar with table := table, load := some (n + 1) } }) ∧
    (60 ≤ n → s.path.stage ≠ .listLoad → s.engine.state ≠ .decide → exec .listLoadReadDone s = .next { s with
      path := { s.path with fresh := 0 }
      calendar := { s.calendar with table := table, load := none } }) ∧
    (60 ≤ n → s.path.stage ≠ .listLoad → s.engine.state = .decide → ∀ op r, s.engine.op = some op → op.reading = some r →
      let cal : OpenCal := ⟨s.active.weeklyHours, closedDates table⟩
      let item := s.active.itemClass op.itemNo
      let due (hours : Bool) : DueResult := cal.due hours r.instant item.period s.active.minHourLoan op.record.expiry
        (s.active.borrowerClass op.record.cls).dueNotPastExpiry
      let becomes (d : Decided) : Prop := exec .listLoadReadDone s = .next
        { afterDecision s op d with calendar := { s.calendar with table := table, load := none } };
      (∀ i prior, op.kind = .entry (.ret i prior) → r.valid = true → becomes (.plan (returned s.active op i prior r
        (cal.fine op.status.hourLoan op.due r.instant item.grace item.rate item.cap)))) ∧
      (∀ i, op.kind = .entry (.loan i) →
        (due item.hours = .dateLimit → becomes (.plan (loanRefused s.active op i r 15))) ∧
        (due item.hours = .expiryNear → becomes (.plan (loanRefused s.active op i r 11))) ∧
        (∀ d nod short, due item.hours = .due d nod short → becomes (.grant (loanGranted s.active op i r d nod short)))) ∧
      (∀ i prior, op.kind = .entry (.renew i prior) →
        (due op.status.hourLoan = .dateLimit → becomes (.plan (renewRefused s.active op i prior r 15))) ∧
        (due op.status.hourLoan = .expiryNear → becomes (.plan (renewRefused s.active op i prior r 11))) ∧
        (∀ d nod short, due op.status.hourLoan = .due d nod short →
          becomes (.grant (renewGranted op i r d nod short))))) ∧
    (60 ≤ n → s.path.stage = .listLoad → s.path.state = .starting → PlainHeld s s.active →
      ∃ t, exec .listLoadReadDone s = .next t ∧ OnlyChanges [.path, .calendar, .engine, .journal, .events] s t ∧
        t.calendar = { s.calendar with table := table, load := none } ∧ StartCompletes s t [])

/-! ### The Posted Write Queue -/

/-- R167, R168, R169: a group of STATUS words at the front of the line, or tied to it, enters the queue whole when the queue
has room, and the groups of an adoption that wait behind it take the values it writes (R176; the model's reading, log entry
10); the oldest entry is written to the store at the queue's turn of the port, changing no lane of another word. R46,
R113, R152: while an earlier clock mirror, upload word or visit word still waits, a newer one takes its place in the line. -/
def Obligations.QueueAdmitsAndDrains : Prop :=
  (∀ (s : State) (before after : List Group) (g : Group), s.path.waiting = before ++ g :: after →
    (∀ h ∈ (before ++ [g]).tail, h.tied = true) → (∀ h ∈ before, h.owner ≠ g.owner) →
    g.owner ≠ .engineCommit → g.owner ≠ .scanRecord → g.owner ≠ .systemEntry →
    s.path.pwq.length + g.words.length ≤ 24 →
    exec (.pwqGroupAdmit before.length) s = .next { s with
      path := { s.path with
        pwq := s.path.pwq ++ statusEntries s g.words
        waiting := lineAfter g.words (before ++ after)
        fresh := 0 } }) ∧
  (∀ (s : State) (e : QEntry) (rest : List QEntry), s.path.pwq = e :: rest →
    (16 ≤ s.path.pwq.length ∨ upstreamWaits s = false) → StoreLaw s →
    ∃ t, exec .pwqDrain s = .next t ∧ OnlyChanges [.store, .path] s t ∧
      t.path = { s.path with pwq := rest, fresh := 0 } ∧ StoreLaw t ∧ readWord t.store e.addr = e.data ∧
      ∀ (b : Addr) (k : Nat), k < 4 → b ≠ e.addr → readLane t.store (laneAddr b k) = readLane s.store (laneAddr b k)) ∧
  (∀ (s : State) (o : GroupOwner), s.path.state = .running → s.active.statusWin.enable = true →
    s.path.waiting.any (fun g => g.owner = o) = true →
    let replaced (c : Instr) (ws : State → List (Nat × Word)) : Prop := ∃ t, exec c s = .next t ∧ t.path = { s.path with
      waiting := s.path.waiting.map (fun g => if g.owner = o then { g with words := ws t } else g)
      fresh := 0 }
    (o = .clockMirror → s.calendar.second < 59 →
      replaced .clockAdvance fun t => [(16, dayWord t.calendar), (15, timeWord t.calendar)]) ∧
    (o = .uploadWord → s.upload.state = .waitLine → replaced (.uplReady true) fun t => [(19, uploadWord t.upload)]) ∧
    (o = .visitWord → s.visit.printer = .paperWait → s.pins.prnPaperOut = false →
      replaced .paperRestored fun t => [(23, visitWord t.visit)]))

/-! ### The wand -/

/-- R91, R92, R93, R94: an edge of WAND_IN ends the element under way. ARMED, a space's end begins a pass; in CAPTURE a
short first bar cancels the pass, a short element is merged into the one before it, above 192 elements with no width kept,
and any other is stored, its width kept up to the 192nd; in QUIET_WAIT no pass begins, a bar under the glitch limit being
absorbed into the space it interrupts. With the part not running only the level changes. That above 192 elements the count,
lowered by two with the short element's own, falls by 1 is the model's reading, and that a bar under way when capture resumes
at a start is measured so too is its choice (log entry 15), as is that the millisecond count does not take the ticks of an edge
while the part is not running (log entry 16). -/
def Obligations.WandEdgeEndsElement : Prop :=
  ∀ (s : State) (n : Nat), 1 ≤ n →
    let w := s.wand.tick n
    let width := s.wand.base + min 65535 (s.wand.counter + n)
    let after (x : Wand) : Prop := exec (.wandEdge n) s = .next { s with
      path := { s.path with fresh := 0 }
      pins := { s.pins with wandBar := !s.pins.wandBar }
      wand := { x with counter := 0 } }
    let inTime : Prop := (s.pins.wandBar = true → s.wand.base + s.wand.counter + n < 65535) ∧
      (s.pins.wandBar = false → s.wand.base + s.wand.counter + n < 250 * s.wand.passQuiet)
    (s.path.state ≠ .running → exec (.wandEdge n) s = .next { s with
      path := { s.path with fresh := 0 }, pins := { s.pins with wandBar := !s.pins.wandBar } }) ∧
    (s.path.state = .running →
      (s.wand.capture = .armed → s.pins.wandBar = false → after { w with
        capture := .capture
        buffer := []
        count := 0
        base := 0
        startStamp := w.ms
        passQuiet := s.active.quietTime
        passGlitch := s.active.glitchLimit }) ∧
      (s.wand.capture = .capture → inTime →
        (width < s.wand.passGlitch → s.wand.count = 0 →
          after { w with capture := .armed, buffer := [], count := 0, base := 0 }) ∧
        (width < s.wand.passGlitch → 0 < s.wand.count → s.wand.count ≤ 192 →
          after { w with
            base := s.wand.buffer.headD 0 + width, buffer := s.wand.buffer.tail, count := s.wand.count - 1 }) ∧
        (width < s.wand.passGlitch → 192 < s.wand.count → after { w with base := 0, count := s.wand.count - 1 }) ∧
        (s.wand.passGlitch ≤ width → s.wand.count < 192 →
          after { w with buffer := width :: s.wand.buffer, count := s.wand.count + 1, base := 0 }) ∧
        (s.wand.passGlitch ≤ width → 192 ≤ s.wand.count →
          after { w with count := s.wand.count + 1, base := 0 })) ∧
      (s.wand.capture = .quietWait → s.pins.wandBar = false →
        s.wand.base + s.wand.counter + n < 250 * s.active.quietTime →
        after { w with spaceBefore := width, base := 0 }) ∧
      (s.wand.capture = .quietWait → s.pins.wandBar = true →
        after { w with
          spaceBefore := 0
          base := if min 65535 (s.wand.counter + n) < s.active.glitchLimit then
            s.wand.spaceBefore + min 65535 (s.wand.counter + n) else 0 }))

/-- R94, R95, R96, R107: a space that reaches the quiet time arms the front end; in CAPTURE it ends the pass, which goes to
a free decoder with its stamps and is discarded with TOO_LONG above 192 elements or DECODER_BUSY otherwise. A bar that
reaches 65,535 ticks discards its pass with BAR_TOO_LONG, the counter holding there until the next edge. The repeat-guard
memory empties. -/
def Obligations.WandTimesReached : Prop :=
  ∀ s : State, s.path.state = .running →
    let toQuiet (q : Nat) : Wand := s.wand.tick (250 * q - (s.wand.base + s.wand.counter))
    let toLimit : Wand := s.wand.tick (65535 - (s.wand.base + s.wand.counter))
    let entered (st : CaptureState) (w : Wand) : Wand := { w with capture := st, buffer := [], count := 0, base := 0 }
    let discarded (c : Instr) (w : Wand) (code : Nat) : Prop := ∃ t, exec c s = .next t ∧
      OnlyChanges [.path, .wand, .events] s t ∧ PathGrows s t ∧ t.wand = w ∧ t.events = eventsAfterScanBad s code ∧
      Queues s t (stampMirror t.events 1)
    (s.pins.wandBar = false → s.wand.capture = .quietWait → exec .quietTimeReached s = .next { s with
      path := { s.path with fresh := 0 }, wand := entered .armed (toQuiet s.active.quietTime) }) ∧
    (s.pins.wandBar = false → s.wand.capture = .capture →
      (s.wand.count ≤ 192 → s.wand.decoder = .free → exec .quietTimeReached s = .next { s with
        path := { s.path with fresh := 0 }
        wand := { entered .armed (toQuiet s.wand.passQuiet) with
          decodeBuffer := ⟨s.wand.buffer.reverse, s.wand.count, s.wand.startStamp, (toQuiet s.wand.passQuiet).ms⟩
          decoder := .busy } }) ∧
      (s.wand.count ≤ 192 → s.wand.decoder ≠ .free →
        discarded .quietTimeReached (entered .armed (toQuiet s.wand.passQuiet)) 14) ∧
      (192 < s.wand.count → discarded .quietTimeReached (entered .armed (toQuiet s.wand.passQuiet)) 13)) ∧
    (s.pins.wandBar = true → s.wand.capture = .capture →
      discarded .barTooLong { entered .quietWait toLimit with counter := 65535 } 12) ∧
    (∀ g, s.wand.guard = some g →
      (∃ t, exec .repeatGuardExpire s = .next t ∧ OnlyChanges [.path, .wand, .events] s t ∧ t.wand.guard = none) ∧
      (s.wand.capture = .armed → exec .repeatGuardExpire s = .next { s with
        path := { s.path with fresh := 0 }
        wand := { s.wand.tick (250 * (2000 - (s.wand.ms - g.endStamp).toNat) - s.wand.msPhase) with guard := none } }))

/-- R98, R107, R108, R111: a decode that fails frees the decoder, raises SCAN_BAD with the error as its stamp's detail and
sounds REJECT. A pass that repeats the memory's content within the guard time is dropped and counted, the memory taking its
end stamp. Any other is offered to the ring, or with the SCAN window disabled accepted at once: ACCEPT sounds, the memory
takes it and an open visit's idle timer is reloaded. -/
def Obligations.PassDecoded : Prop :=
  ∀ s : State, s.path.state = .running → s.wand.decoder = .busy →
    (∀ code, decodePass s.wand.decodeBuffer.widths = .error code →
      ∃ t, exec .passDecode s = .next t ∧ OnlyChanges [.path, .wand, .events] s t ∧ PathGrows s t ∧
        t.wand = { s.wand with decoder := .free } ∧ t.events = eventsAfterScanBad s code ∧
        Queues s t (stampMirror t.events 1)) ∧
    (∀ c, decodePass s.wand.decodeBuffer.widths = .content c →
      let repeated (g : GuardMemory) : Prop := s.wand.guard = some g ∧ c.patron = g.patron ∧ c.digits = g.digits ∧
        (s.wand.decodeBuffer.startStamp - g.endStamp).toNat < s.active.repeatGuard
      (∀ g, repeated g → ∃ t, exec .passDecode s = .next t ∧ OnlyChanges [.path, .wand] s t ∧ PathGrows s t ∧
        t.wand = { s.wand with
          repeats := min (s.wand.repeats + 1) 65535
          guard := some { g with endStamp := s.wand.decodeBuffer.endStamp }
          decoder := .free } ∧
        Queues s t (if t.wand.repeats = s.wand.repeats then [] else [(22, wandCountWord t.wand)])) ∧
      ((∀ g, ¬ repeated g) → s.active.scanWin.enable = true → exec .passDecode s = .next { s with
        wand := { s.wand with decoder := .offering c }
        path := { s.path with
          waiting := s.path.waiting ++ [⟨.scanRecord, [], decide (0 < s.path.fresh)⟩], fresh := 0 } }) ∧
      ((∀ g, ¬ repeated g) → s.active.scanWin.enable = false → exec .passDecode s = .next { s with
        path := { s.path with fresh := 0 }
        wand := { s.wand with
          guard := some ⟨c.patron, c.digits, s.wand.decodeBuffer.endStamp⟩, decoder := .free }
        visit := if s.visit.visit.isSome then
          { s.visit with idleTimer := if s.active.idleTimeout = 0 then none else some s.active.idleTimeout } else s.visit
        events := if s.active.sounderEnable then
          { s.events with sounder := soundAfter s.active s.events.sounder .accept } else s.events }))

/-- R108, R109: the act of an accepted scan at the front of the line. With fewer than 32 records unread its record enters
the queue at the producer's ring place and then the producer mirror, the producer advances, SCAN_READY is raised, ACCEPT
sounds, and the guard memory and an open visit's idle timer take the scan; with 32 unread it is an overrun: counted, the
count posted in STATUS w22 when it changed (R111), SCAN_OVERRUN, REJECT. That the groups of an adoption still waiting take the
new w11 (R176) is the model's reading (log entry 10). -/
def Obligations.ScanRecordWritten : Prop :=
  ∀ (s : State) (c : ScanContent), s.path.state = .running → s.wand.decoder = .offering c → s.active.scanWin.enable = true →
    s.active.statusWin.enable = true → (frontGroups s.path.waiting).any (fun g => g.owner = .scanRecord) = true →
    s.path.pwq.length ≤ 19 →
    let unread := (s.wand.producer - s.wand.consumerCopy.setWidth 16).toNat
    let place (k : Nat) : Addr := s.active.scanWin.at (4 * (s.wand.producer.toNat % 32) + k)
    let sounds (p : Pattern) : Option Playing :=
      if s.active.sounderEnable then soundAfter s.active s.events.sounder p else s.events.sounder
    (unread < 32 → exec .scanRecordWrite s = .next { s with
      path := { s.path with
        pwq := s.path.pwq ++ ((scanWords s.wand.producer s.reading c).zip (List.range 4)).map (fun q => ⟨place q.2, q.1⟩) ++
          [⟨s.active.statusAddr 11, word (s.wand.producer + 1#16).toNat⟩]
        waiting := lineAfter [(11, word (s.wand.producer + 1#16).toNat)] (dropGroup .scanRecord s.path.waiting)
        fresh := 0 }
      wand := { s.wand with
        producer := s.wand.producer + 1#16
        guard := some ⟨c.patron, c.digits, s.wand.decodeBuffer.endStamp⟩
        decoder := .free }
      visit := if s.visit.visit.isSome then
        { s.visit with idleTimer := if s.active.idleTimeout = 0 then none else some s.active.idleTimeout } else s.visit
      events := { s.events with latchA := s.events.latchA ||| 512#15, sounder := sounds .accept } }) ∧
    (32 ≤ unread → ∃ t, exec .scanRecordWrite s = .next t ∧ OnlyChanges [.path, .wand, .events] s t ∧ PathGrows s t ∧
      t.wand = { s.wand with overruns := min (s.wand.overruns + 1) 65535, decoder := .free } ∧
      t.events = { s.events with latchA := s.events.latchA ||| 2048#15, sounder := sounds .rejectScan } ∧
      (s.path.waiting.length = 1 → t.path.waiting = [] ∧ t.path.pwq = s.path.pwq ++
        statusEntries s (if t.wand.overruns = s.wand.overruns then [] else [(22, wandCountWord t.wand)])))

/-! ### Slips and the printer -/

/-- R113, R122 to R126, R128: each composition read of the oldest slip in COMPOSING keeps its word, in the order w0, w1 and
w2 of the patron and w8 to w12 of each listed slot; the last one makes the slip READY with its text, and the next one
begins. The text is the header, the date, the card number's last four places and an empty line; the title and the due line
of each entry; the card's expiry when an entry was shortened, the number of items, and CONTINUED on a slip of a split; and a
form feed: lines of at most 32 printable bytes, at most 964 bytes in all. The stop bit of a form feed makes the head slip
the last slip and takes it from the queue. After either an idle printer goes on. That the command is one of these reads is
the model's choice (log entry 13), and that the rate is taken on entering PAPER_WAIT its reading (log entry 17). -/
def Obligations.SlipsComposedAndPrinted : Prop :=
  (∀ (s : State) (done_ : List (List Byte)) (j : SlipJob) (rest : List Slip), s.path.state = .running →
    s.visit.slips = done_.map .ready ++ .composing j :: rest →
    let addrs := [j.patronAddr, j.patronAddr + 1#22, j.patronAddr + 2#22] ++
      j.slotAddrs.flatMap fun a => [a + 8#22, a + 9#22, a + 10#22, a + 11#22, a + 12#22]
    ∀ a, a = addrs.getD j.words.length j.patronAddr → readServed s .slip a = true →
    let ws := j.words ++ [internalRead s a]
    let date := if j.openedAt.valid then j.openedAt else j.begun.getD j.openedAt
    let titles := (List.range j.slotAddrs.length).map fun i => ((ws.drop (3 + 5 * i)).take 5).flatMap fun w =>
      [w.extractLsb' 24 8, w.extractLsb' 16 8, w.extractLsb' 8 8, w.extractLsb' 0 8]
    let text := slipText { j with words := ws } date (nth ws 0) (nth ws 2) titles
    (ws.length < addrs.length → exec .slipComposed s = .next { s with
      path := { s.path with fresh := 0 }
      visit := { s.visit with slips := done_.map .ready ++ .composing { j with words := ws } :: rest } }) ∧
    (addrs.length ≤ ws.length → ∃ t, exec .slipComposed s = .next t ∧ OnlyChanges [.path, .visit, .events] s t ∧
      PathGrows s t ∧
      PrinterGoesOn s t { s.visit with slips := done_.map .ready ++ .ready text :: beginNext s.reading rest } ∧
      Queues s t (visitReport s t))) ∧
  (∀ (s : State) (text : List Byte) (rest : List Slip) (n : Nat), s.path.state = .running →
    s.visit.slips = .ready text :: rest → s.visit.printer = .sending n → s.visit.byteInProgress = true →
    text.length ≤ n + 1 →
    ∃ t, exec .slipPrinted s = .next t ∧ OnlyChanges [.path, .visit, .events] s t ∧ PathGrows s t ∧
      let printed := { s.visit with slips := rest, lastSlip := some text, printer := .idle, byteInProgress := false };
      PrinterGoesOn s t printed ∧
        Queues s t ((23, visitWord printed) :: if visitWord t.visit = visitWord printed then [] else [(23, visitWord t.visit)])) ∧
  (∀ (date : Nat → Nat × Nat × Nat) (j : SlipJob) (at_ : Reading) (w0 w2 : Word) (titles : List (List Byte)),
    (∀ d ∈ at_.day :: min (w0.toNat / 65536) 36524 :: j.entries.map (fun e => e.due.day), DateIs d (date d)) →
    at_.minute ≤ 1439 → (∀ e ∈ j.entries, e.due.minute ≤ 1439) → j.entries.length ≤ 16 → titles.length = j.entries.length →
    let lines := slipLines date j at_ w0 w2 titles
    slipText j at_ w0 w2 titles = lines.flatMap (fun l => l ++ [0x0A#8]) ++ [0x0C#8] ∧
      (j.header.length ≤ 32 → (∀ b ∈ titles, b.length ≤ 20) → (∀ e ∈ j.entries, e.tail.length ≤ 10) →
        (∀ l ∈ lines, l.length ≤ 32 ∧ ∀ b ∈ l, 0x20 ≤ b.toNat ∧ b.toNat ≤ 0x7E) ∧
          (slipText j at_ w0 w2 titles).length ≤ 964))

/-- R126, R127: the printer line. After a byte's stop bit the next byte of the slip begins unless PRN_BUSY is asserted, and
begins at its release. PRN_PAPER_OUT asserted while SENDING stops the slip and raises PAPER_OUT; paper restored prints it
again from its first byte. That PRN_BUSY is sampled at the stop bit the command stands for and that the rate stays as it was
taken are the model's reading, and that the command gives only the line's level where no such stop bit can come is its
choice, as is that paper out during the form feed keeps the slip for a reprint (R127 against R128; log entry 17). -/
def Obligations.PrinterLineKeepsPace : Prop :=
  ∀ (s : State) (busy level : Bool),
    let quiet := { s.path with fresh := 0 }
    (∀ n, s.visit.printer = .sending n → s.visit.byteInProgress = true →
      (∀ text rest, s.visit.slips = .ready text :: rest → n + 1 < text.length →
        exec (.printerByteSent busy) s = .next { s with
          path := quiet
          pins := { s.pins with prnBusy := busy }
          visit := { s.visit with printer := .sending (n + 1), byteInProgress := !busy } })) ∧
    ((s.visit.printer = .idle ∨ s.visit.printer = .paperWait) → s.visit.byteInProgress = true →
      exec (.printerByteSent busy) s = .next { s with
        path := quiet, pins := { s.pins with prnBusy := busy }, visit := { s.visit with byteInProgress := false } }) ∧
    (((s.visit.printer = .idle ∨ s.visit.printer = .paperWait) ∧ s.visit.byteInProgress = false ∨
        ∃ n text rest, s.visit.printer = .sending n ∧ s.visit.byteInProgress = true ∧ s.visit.slips = .ready text :: rest ∧
          text.length ≤ n + 1) →
      exec (.printerByteSent busy) s = .next { s with path := quiet, pins := { s.pins with prnBusy := busy } }) ∧
    (∀ n, s.visit.printer = .sending n → s.visit.byteInProgress = false → exec (.printerByteSent busy) s = .next s) ∧
    (∀ n, s.visit.printer = .sending n → exec .prnBusyRelease s = .next { s with
      path := quiet, pins := { s.pins with prnBusy := false }, visit := { s.visit with byteInProgress := true } }) ∧
    ((∀ n, s.visit.printer ≠ .sending n) → exec .prnBusyRelease s = .next { s with
      path := quiet, pins := { s.pins with prnBusy := false } }) ∧
    (((∀ n, s.visit.printer ≠ .sending n) ∨ level = false) → exec (.prnPaperOut level) s = .next { s with
      path := quiet, pins := { s.pins with prnPaperOut := level } }) ∧
    (∀ n, s.visit.printer = .sending n → ∃ t, exec (.prnPaperOut true) s = .next t ∧
      OnlyChanges [.path, .pins, .visit, .events] s t ∧ PathGrows s t ∧
      t.pins = { s.pins with prnPaperOut := true } ∧ t.visit = { s.visit with printer := .paperWait } ∧
      t.events = { s.events with latchA := s.events.latchA ||| 8192#15 } ∧
      (s.path.state = .running → Queues s t [(23, visitWord t.visit)])) ∧
    (s.path.state = .running → s.visit.printer = .paperWait → s.pins.prnPaperOut = false →
      ∃ t, exec .paperRestored s = .next t ∧ OnlyChanges [.path, .visit] s t ∧ PathGrows s t ∧
        t.visit = { s.visit with printer := .sending 0, byteInProgress := !s.pins.prnBusy } ∧
        Queues s t [(23, visitWord t.visit)])

/-! ### The journal and the upload -/

/-- R133, R134, R135, R136: the head of the system append queue is appended at the front of the line with 9 free queue entries:
with a free journal entry its eight words and the head mirror enter the queue and the head advances, the low mark being judged;
with none the entry is lost, the loss count rises and JOURNAL_LOST is raised, its stamp's words standing behind the mirror when
no other group waits. The groups of an adoption that wait behind the entry, as behind its own PROFILE_ADOPT entry, take the
new w12, or the new w20 of a lost entry (R176; the model's reading, log entry 10). That a w20 group of an earlier loss which
waits keeps its older count is the model's choice (log entry 8). -/
def Obligations.SystemEntryAppended : Prop :=
  ∀ (s : State) (e : JEntry) (rest : List JEntry), s.journal.systemQueue = e :: rest →
    (frontGroups s.path.waiting).any (fun g => g.owner = .systemEntry) = true → s.active.statusWin.enable = true →
    s.path.pwq.length ≤ 15 →
    (0 < s.freeEntries → ∃ t, exec .systemEntryAppend s = .next t ∧ OnlyChanges [.path, .journal, .events] s t ∧
      t.path = { s.path with
        pwq := s.path.pwq ++ ((e.words s.journal.head).zip (List.range 8)).map
          (fun q => ⟨s.active.journalAddr s.journal.head q.2, q.1⟩) ++
          [⟨s.active.statusAddr 12, s.journal.head + 1#32⟩]
        waiting := lineAfter [(12, s.journal.head + 1#32)] (dropGroup .systemEntry s.path.waiting)
        fresh := 0 } ∧
      t.journal = { s.journal with
        head := s.journal.head + 1#32, systemQueue := rest, lowArmed := decide (s.active.reserve < t.freeEntries) } ∧
      t.events = { s.events with latchB := s.events.latchB |||
        (if t.freeEntries ≤ s.active.reserve ∧ s.journal.lowArmed = true then 64#12 else 0#12) }) ∧
    (s.freeEntries = 0 → ∃ t es, exec .systemEntryAppend s = .next t ∧ OnlyChanges [.path, .journal, .events] s t ∧
      t.path.pwq = s.path.pwq ++ [⟨s.active.statusAddr 20, word (min (s.journal.lossCount + 1) 65535)⟩] ++ es ∧
      (s.path.state = .running → s.path.waiting.length = 1 → es = statusEntries s (stampMirror t.events 3)) ∧
      (∃ gs, t.path.waiting = lineAfter [(20, word (min (s.journal.lossCount + 1) 65535))]
        (dropGroup .systemEntry s.path.waiting) ++ gs) ∧
      t.journal = { s.journal with systemQueue := rest, lossCount := min (s.journal.lossCount + 1) 65535 } ∧
      t.events = { s.events with
        latchB := s.events.latchB ||| 128#12
        stamps := s.events.stamps.set 3 ((s.events.stamp 3).note s.active.stampLast s.reading
          (if s.active.journalWin.enable then (s.active.journalAddr s.journal.head 0).toNat else 0)) })

/-- R139, R143, R144, R150: UPL_READY asserted in WAIT_LINE sends HELLO; 60 s in WAIT_LINE fail the upload with NO_LINE; the
stop bit of a frame's last byte starts the acknowledgement timer when the reply to that frame is still awaited. R138, R174:
the failed upload judges a candidate that waits, unless the open visit, the CRQ or an operation keeps it waiting. After a
stop the line ends with the byte in progress (R154). That a frame whose reply is no longer awaited starts no timer is the
model's reading (log entry 18). Two points are its choice, not the spec's (log entry 18): a HELLO or a DONE is known by its
kind alone and a BATCH by its number alone, so that one left on the line by an earlier attempt starts the timer of a later
HELLO_SENT or DONE_SENT, or of a later batch of that number; and a HELLO behind a frame still on the line carries the fields
of the moment it is asked for. -/
def Obligations.UploadLineServed : Prop :=
  ∀ (s : State) (level : Bool),
    let wordIfChanged (t : State) : List (Nat × Word) :=
      if uploadWord t.upload = uploadWord s.upload then [] else [(19, uploadWord t.upload)]
    (s.upload.state = .waitLine → ∃ t, exec (.uplReady true) s = .next t ∧ OnlyChanges [.path, .pins, .upload] s t ∧
      PathGrows s t ∧ t.pins = { s.pins with uplReady := true } ∧
      t.upload = { s.upload with
        state := .helloSent
        ackTimer := false
        tx := s.upload.tx ++ [⟨.hello, frameBytes 1#8 (helloPayload s)⟩] } ∧
      (s.path.state = .running → Queues s t (wordIfChanged t))) ∧
    ((s.upload.state ≠ .waitLine ∨ level = false) → exec (.uplReady level) s = .next { s with
      path := { s.path with fresh := 0 }, pins := { s.pins with uplReady := level } }) ∧
    (∀ ws, s.upload.state = .waitLine → ¬ AdoptsNothing s → s.profile.candidate = some ws →
      JudgedAfter PathGrows .lineWaitTimeout s ws) ∧
    (s.upload.state = .waitLine → AdoptsNothing s → ∃ t, exec .lineWaitTimeout s = .next t ∧
      OnlyChanges [.path, .upload, .events] s t ∧ PathGrows s t ∧
      t.upload = { s.upload with
        state := .idle
        cause := .noLine
        ackTimer := false
        outstanding := none
        reading := false
        rxState := .hunt
        rxBytes := [] } ∧
      t.events = { s.events with latchB := s.events.latchB ||| 512#12 } ∧
      (s.path.state = .running → Queues s t (wordIfChanged t))) ∧
    (∀ f rest, s.upload.tx = f :: rest →
      let awaited : Prop := (f.tag = .hello ∧ s.upload.state = .helloSent) ∨ (f.tag = .done ∧ s.upload.state = .doneSent) ∨
        ∃ b, f.tag = .batch b.number ∧ s.upload.state = .sending ∧ s.upload.reading = false ∧ s.upload.outstanding = some b
      (awaited → exec .frameSent s = .next { s with
        path := { s.path with fresh := 0 }, upload := { s.upload with tx := rest, ackTimer := true } }) ∧
      (¬ awaited → exec .frameSent s = .next { s with
        path := { s.path with fresh := 0 }, upload := { s.upload with tx := rest } })) ∧
    (s.upload.tx = [] → s.upload.cutByte = true → exec .frameSent s = .next { s with
      path := { s.path with fresh := 0 }, upload := { s.upload with cutByte := false } })

/-- R146, R148, R149, R150, R152: each read of a formed batch keeps its word, the entries in order from the tail and each
entry's eight words in order; the last one sends the BATCH frame with the entries read. The acknowledgement timer's expiry
in SENDING, and a NAK with cause RESEND for the outstanding batch, are a failed attempt: a short retry sends the batch again
at the batch start size; past the short limit a long retry waits for the line; past the long limit the upload fails. The
upload word reports each change. The timer's expiry in HELLO_SENT and DONE_SENT is a long retry, the batch size kept, or the
failure past the long limit. R138, R174: a failed upload judges a candidate that waits, unless the open visit, the CRQ or an
operation keeps it waiting. That the command is one of the batch's reads (log entry 13), and that a HELLO behind a frame
still on the line carries the fields of the moment it is asked for (log entry 18), are the model's choices. -/
def Obligations.BatchSentAndRetried : Prop :=
  (∀ s : State, (s.upload.state = .helloSent ∨ s.upload.state = .doneSent) → s.upload.ackTimer = true →
    let waits : Upload := { s.upload with
      state := .waitLine
      ackTimer := false
      retries := s.upload.retries + 1#16
      rollover := s.upload.rollover || s.upload.retries = 65535#16
      longRetries := s.upload.longRetries + 1
      shortRetries := 0
      outstanding := none
      reading := false }
    let hello : Upload := { waits with
      state := .helloSent, tx := s.upload.tx ++ [⟨.hello, frameBytes 1#8 (helloPayload s)⟩] }
    let failed : Upload := { s.upload with
      state := .idle
      cause := .retries
      ackTimer := false
      outstanding := none
      reading := false
      rxState := .hunt
      rxBytes := [] }
    let ends (u : Upload) (e : EventUnit) (ws : List (Nat × Word)) : Prop := ∃ t, exec .ackTimeout s = .next t ∧
      OnlyChanges [.path, .upload, .events] s t ∧ PathGrows s t ∧ t.upload = u ∧ t.events = e ∧
      (s.path.state = .running → Queues s t ws)
    let long : Prop := s.upload.longRetries < s.upload.params.longLimit
    (long → s.pins.uplReady = false → ends waits s.events [(19, uploadWord waits)]) ∧
      (long → s.pins.uplReady = true → ends hello s.events [(19, uploadWord waits), (19, uploadWord hello)]) ∧
      (¬ long → ∀ ws, ¬ AdoptsNothing s → s.profile.candidate = some ws → JudgedAfter PathGrows .ackTimeout s ws) ∧
      (¬ long → AdoptsNothing s →
        ends failed { s.events with latchB := s.events.latchB ||| 512#12 } [(19, uploadWord failed)])) ∧
  ∀ (s : State) (b : Batch), s.upload.outstanding = some b →
    let n := b.words.length
    let a := s.active.journalAddr (s.journal.tail + word (n / 8)) (n % 8)
    let read : Batch := { b with words := b.words ++ [internalRead s a] }
    let frame (b : Batch) : TxFrame :=
      ⟨.batch b.number, frameBytes 2#8 (bytes16 b.number.toNat ++ [byte b.count] ++ textOf b.words)⟩
    let retried : Upload := { s.upload with
      ackTimer := false
      batchSize := s.upload.params.batchStart
      retries := s.upload.retries + 1#16
      rollover := s.upload.rollover || s.upload.retries = 65535#16 }
    let waits : Upload := { retried with
      state := .waitLine
      longRetries := s.upload.longRetries + 1
      shortRetries := 0
      outstanding := none
      reading := false }
    let short : Prop := s.upload.shortRetries < s.upload.params.shortLimit
    let long : Prop := s.upload.longRetries < s.upload.params.longLimit
    let ends (c : Instr) (u : Upload) (e : EventUnit) (ws : List (Nat × Word)) : Prop := ∃ t, exec c s = .next t ∧
      OnlyChanges [.path, .upload, .events] s t ∧ PathGrows s t ∧ t.upload = u ∧ t.events = e ∧
      (s.path.state = .running → Queues s t ws)
    let attempted (c : Instr) : Prop :=
      (short →
        let u : Upload := { retried with shortRetries := s.upload.shortRetries + 1, tx := s.upload.tx ++ [frame b] }
        ends c u s.events [(19, uploadWord u)]) ∧
      (¬ short → long → s.pins.uplReady = false → ends c waits s.events [(19, uploadWord waits)]) ∧
      (¬ short → long → s.pins.uplReady = true →
        let u : Upload := { waits with
          state := .helloSent, tx := s.upload.tx ++ [⟨.hello, frameBytes 1#8 (helloPayload s)⟩] }
        ends c u s.events [(19, uploadWord waits), (19, uploadWord u)]) ∧
      (¬ short → ¬ long → ∀ ws, ¬ AdoptsNothing s → s.profile.candidate = some ws → JudgedAfter PathGrows c s ws) ∧
      (¬ short → ¬ long → AdoptsNothing s →
        let u : Upload := { s.upload with
          state := .idle
          cause := .retries
          batchSize := s.upload.params.batchStart
          ackTimer := false
          outstanding := none
          reading := false
          rxState := .hunt
          rxBytes := [] }
        ends c u { s.events with latchB := s.events.latchB ||| 512#12 } [(19, uploadWord u)])
    (s.upload.reading = true → readServed s .batch a = true →
      (n + 1 < 8 * b.count → exec .batchReadDone s = .next { s with
        path := { s.path with fresh := 0 }, upload := { s.upload with outstanding := some read } }) ∧
      (8 * b.count ≤ n + 1 → exec .batchReadDone s = .next { s with
        path := { s.path with fresh := 0 }
        upload := { s.upload with outstanding := some read, reading := false, tx := s.upload.tx ++ [frame read] } })) ∧
    (s.upload.state = .sending → s.upload.ackTimer = true → attempted .ackTimeout) ∧
    (s.upload.state = .sending → s.upload.reading = false → s.upload.rxState = .hunt → s.upload.rxBytes = [] →
      attempted (.nakResend b.number))

/-- R49, R137, R145, R147, R150, R151, R152: the replies of the central, heard by a receiver in HUNT. An ACK of the
outstanding batch advances the tail by its count, counts its entries as sent, and forms the next batch or sends DONE; a NAK
with cause ABORT fails the upload; a WELCOME forms the first batch, its time refused, ignored or set; a BYE ends the upload.
The tail mirror and the upload word are posted as they change. R138, R174: an upload that a NAK or a BYE ends judges a
candidate that waits, unless the open visit, the CRQ or an operation keeps it waiting. R167 leaves the order of the groups
of one act open: that the tail mirror stands before the upload word, and the clock mirror of a time that is set before every
other group, is the model's choice (log entry 3). -/
def Obligations.RepliesHeard : Prop :=
  ∀ s : State, s.upload.rxState = .hunt → s.upload.rxBytes = [] →
    (∀ b, s.upload.outstanding = some b → s.upload.state = .sending → s.upload.reading = false →
      let tail := s.journal.tail + word b.count
      let left := (s.journal.head - tail).toNat
      let size := min (s.upload.batchSize + 1) s.upload.params.batchMax
      let sent := s.upload.entriesSent + word b.count
      (∃ t, exec (.ack b.number) s = .next t ∧ OnlyChanges [.path, .upload, .journal, .engine, .events] s t ∧ PathGrows s t ∧
        t.journal = { s.journal with tail := tail, lowArmed := decide (s.active.reserve < t.freeEntries) } ∧
        t.engine = { s.engine with sweep := { s.engine.sweep with
          state := if s.engine.sweep.state = .paused then .running else s.engine.sweep.state } } ∧
        (s.path.state = .running → Queues s t ((13, tail) ::
          if uploadWord t.upload = uploadWord s.upload then [] else [(19, uploadWord t.upload)])) ∧
        (0 < left → 0 < size → t.upload = { s.upload with
          batchCounter := s.upload.batchCounter + 1#16
          outstanding := some ⟨s.upload.batchCounter + 1#16, min size left, []⟩
          reading := true
          shortRetries := 0
          ackTimer := false
          entriesSent := sent
          batchSize := size }) ∧
        (left = 0 → t.upload = { s.upload with
          state := .doneSent
          outstanding := none
          ackTimer := false
          entriesSent := sent
          batchSize := size
          tx := s.upload.tx ++ [⟨.done, frameBytes 3#8 (bytesOf (tail - 1#32) ++ bytesOf sent)⟩] })) ∧
      (∀ ws, ¬ AdoptsNothing s → s.profile.candidate = some ws → JudgedAfter PathGrows (.nakAbort b.number) s ws) ∧
      (AdoptsNothing s → ∃ t, exec (.nakAbort b.number) s = .next t ∧
        OnlyChanges [.path, .upload, .events] s t ∧ PathGrows s t ∧
        t.upload = { s.upload with
          state := .idle, cause := .abort, ackTimer := false, outstanding := none, reading := false } ∧
        t.events = { s.events with latchB := s.events.latchB ||| 512#12 } ∧
        (s.path.state = .running → Queues s t [(19, uploadWord t.upload)]))) ∧
    (s.upload.state = .helloSent → ∀ (day minute : BitVec 16) (second timeValid : Byte),
      let offered : Prop := s.upload.params.acceptCentral = true ∧ timeValid = 1#8
      let bad : Prop := 36524 < day.toNat ∨ 1439 < minute.toNat ∨ 59 < second.toNat
      let near : Prop := s.calendar.valid = true ∧
        apart (86400 * day.toNat + 60 * minute.toNat + second.toNat)
          (86400 * s.calendar.day + 60 * s.calendar.minute + s.calendar.second) ≤ s.upload.params.tolerance
      ∃ t, exec (.welcome day minute second timeValid) s = .next t ∧
        OnlyChanges [.path, .upload, .journal, .calendar, .engine, .events] s t ∧ PathGrows s t ∧
        (¬ offered ∨ (¬ bad ∧ near) → OnlyChanges [.path, .upload] s t) ∧
        (¬ offered ∨ bad ∨ near → s.path.state = .running → Queues s t [(19, uploadWord t.upload)]) ∧
        (offered → bad → OnlyChanges [.path, .upload, .events] s t ∧
          t.events = { s.events with latchB := s.events.latchB ||| 1024#12 }) ∧
        (offered → ¬ bad → ¬ near → t.calendar = { s.calendar with
            day := day.toNat, minute := minute.toNat, second := second.toNat, prescaler := 0, valid := true } ∧
          t.events.latchB.getLsbD 2 = true ∧
          (s.journal.systemQueue.length < 4 → t.journal = { s.journal with systemQueue := s.journal.systemQueue ++
            [⟨.clockSet, 0, ⟨day.toNat, minute.toNat, second.toNat, true⟩, if s.calendar.valid then 1536 else 512, 65535, 65535,
              instantWord ⟨s.calendar.day, s.calendar.minute⟩ false, put 0 6 s.calendar.second, 0#32, 0#32⟩] }) ∧
          (s.path.state = .running → s.active.statusWin.enable = true → s.path.waiting = [] → s.path.pwq.length ≤ 22 →
            ∃ es, t.path.pwq = s.path.pwq ++ statusEntries s [(16, dayWord t.calendar), (15, timeWord t.calendar)] ++ es)) ∧
        (0 < min s.upload.batchSize s.present → t.upload = { s.upload with
          state := .sending
          batchCounter := s.upload.batchCounter + 1#16
          outstanding := some ⟨s.upload.batchCounter + 1#16, min s.upload.batchSize s.present, []⟩
          reading := true
          shortRetries := 0
          ackTimer := false }) ∧
        (min s.upload.batchSize s.present = 0 → t.upload = { s.upload with
          state := .doneSent
          ackTimer := false
          tx := s.upload.tx ++
            [⟨.done, frameBytes 3#8 (bytesOf (s.journal.tail - 1#32) ++ bytesOf s.upload.entriesSent)⟩] })) ∧
    (∀ ws, s.upload.state = .doneSent → ¬ AdoptsNothing s → s.profile.candidate = some ws →
      JudgedAfter PathGrows .bye s ws) ∧
    (s.upload.state = .doneSent → AdoptsNothing s → ∃ t, exec .bye s = .next t ∧
      OnlyChanges [.path, .upload, .events] s t ∧ PathGrows s t ∧
      t.upload = { s.upload with state := .idle, ackTimer := false } ∧
      t.events = { s.events with latchB := s.events.latchB ||| 256#12 } ∧
      (s.path.state = .running → Queues s t [(19, uploadWord t.upload)]))

/-- R141: while the Upload Engine is IDLE received bytes are discarded; bytes before a start byte are discarded; a header
that names a length above 1,024 discards its frame; a frame whose length is at most 1,024 and whose check is wrong has no
effect, nor has one whose check is right and whose type is none of the central's, whose length is not its type's or whose
NAK cause is neither RESEND nor ABORT; and 20 ms without a byte discard a partial frame. -/
def Obligations.FramesDiscarded : Prop :=
  ∀ s : State,
    let same : State := { s with path := { s.path with fresh := 0 } }
    (∀ bs, s.upload.state = .idle → exec (.frameDiscarded bs) s = .next same) ∧
    (∀ bs, s.upload.rxState = .hunt → (∀ b ∈ bs, b ≠ 0xA5#8) → exec (.frameDiscarded bs) s = .next same) ∧
    (∀ (type : Byte) (payload : List Byte) (c1 c0 : Byte), s.upload.rxState = .hunt → s.upload.rxBytes = [] →
      payload.length ≤ 1024 → [c1, c0] ≠ bytes16 (crc16 (frameBody type payload)).toNat →
      exec (.frameDiscarded (0xA5#8 :: (frameBody type payload ++ [c1, c0]))) s = .next same) ∧
    (∀ (type high low : Byte), s.upload.rxState = .hunt → s.upload.rxBytes = [] → 1024 < 256 * high.toNat + low.toNat →
      exec (.frameDiscarded [0xA5#8, type, high, low]) s = .next same) ∧
    (∀ (type : Byte) (payload : List Byte), s.upload.rxState = .hunt → s.upload.rxBytes = [] → payload.length ≤ 1024 →
      ¬ ((type = 0x81#8 ∧ payload.length = 6) ∨ (type = 0x82#8 ∧ payload.length = 2) ∨
        (type = 0x83#8 ∧ payload.length = 3 ∧ (payload.getLast? = some 1#8 ∨ payload.getLast? = some 2#8)) ∨
        (type = 0x84#8 ∧ payload = [])) →
      exec (.frameDiscarded (frameBytes type payload)) s = .next same) ∧
    (s.upload.rxState ≠ .hunt → exec .receiverTimeout s = .next { s with
      path := { s.path with fresh := 0 }, upload := { s.upload with rxState := .hunt, rxBytes := [] } })

/-! ### Stops and starts -/

/-- R25, R112, R130, R154, R170, R174, R187: PFAIL or RESET asserted while the part is starting or running begins the
orderly stop; a line asserted later only takes its level, RESET being remembered. The open visit is discarded at once, or
with the commit that the engine carries through. The stop that has settled parks the part. That a scan record's group leaves
the line at the stop, and that an assertion while a power-on start waits for the lines is such a stop, is the model's
reading, and that the queue keeps the stamp words which an abandoned start has placed is its choice (log entry 25). -/
def Obligations.StopsAndParks : Prop :=
  ∀ s : State,
    let stops (c : Instr) (pins : Pins) : Prop := ∃ t, exec c s = .next t ∧
      OnlyChanges [.pins, .path, .engine, .calendar, .wand, .visit, .upload, .profile, .events] s t ∧
      t.pins = pins ∧ t.path.state = .stopping ∧ t.path.stage = .none ∧ t.path.resetSeen = pins.reset ∧
      t.path.pwq = s.path.pwq ∧ t.path.waiting = keepWaiting (fun g => g.owner ≠ .scanRecord) false s.path.waiting ∧
      t.path.waiting.map (fun g => (g.owner, g.words)) =
        (s.path.waiting.filter (fun g => g.owner ≠ .scanRecord)).map (fun g => (g.owner, g.words)) ∧
      t.path.startReads = [] ∧
      (∀ a, s.path.upstream = .forwarded a → t.path.upstream = .forwarded a) ∧
      (∀ a why, s.path.upstream = .held a why → t.path.upstream = .held a .startStop) ∧
      t.engine.crq = [] ∧
      (s.engine.state = .commit → s.engine.op ≠ none →
        t.engine.state = .commit ∧ t.engine.op = s.engine.op) ∧
      (s.engine.state ≠ .commit → t.engine.state = .idle ∧ t.engine.op = none ∧ t.engine.busy = []) ∧
      t.engine.stateMap = s.engine.stateMap ∧
      t.calendar = { s.calendar with load := none } ∧
      t.wand = { s.wand with
        capture := .quietWait, buffer := [], count := 0, base := 0, decoder := .free } ∧
      (s.engine.state = .commit → s.engine.op ≠ none → t.visit = { s.visit with slips := [], printer := .idle }) ∧
      (¬ (s.engine.state = .commit ∧ s.engine.op ≠ none) →
        t.visit = { s.visit with slips := [], printer := .idle, visit := none, idleTimer := none }) ∧
      (t.upload.state, t.upload.tx, t.upload.outstanding) = (.idle, [], none) ∧
      t.profile = { s.profile with candidate := none } ∧ t.events = { s.events with sounder := none }
    (s.path.state = .running ∨ s.path.state = .starting →
      (s.pins.pfail = false → stops .pfail { s.pins with pfail := true }) ∧
      (s.pins.reset = false → stops .reset { s.pins with reset := true })) ∧
    (s.path.state = .stopping ∨ s.path.state = .parked →
      (s.pins.pfail = false → exec .pfail s = .next { s with
        pins := { s.pins with pfail := true }
        path := { s.path with resetSeen := s.path.resetSeen || s.pins.reset, fresh := 0 } }) ∧
      (s.pins.reset = false → exec .reset s = .next { s with
        pins := { s.pins with reset := true }
        path := { s.path with resetSeen := true, fresh := 0 } })) ∧
    (s.path.state = .stopping → s.path.pwq = [] → s.path.waiting = [] → s.engine.op = none →
      (∀ a, s.path.upstream ≠ .forwarded a) → s.visit.byteInProgress = false → s.upload.cutByte = false →
      exec .stopParked s = .next { s with path := { s.path with state := .parked, fresh := 0 } })

/-- R45, R178, R179, R182, R185: a start begins from PARKED with both lines deasserted, at the release of the lines a
power-on start waits for, or when main power reaches its working level. Every block then stands at the values its table gives
after every start (Tables 1-4 to 1-6, 5-4, 6-1, 7-1, 8-1, 10-2), but for what the same start restores later (R179, R180): the
profile in force with the batch size, and the counts of the ring, the journal and the sweep. The desk store and the desk
clock keep what they hold, and a loss of the backup supply that was recorded has cleared the clock. -/
def Obligations.StartsBegin : Prop :=
  ∀ s : State,
    let begun (k : StartKind) (stage : StartStage) (pins : Pins) (t : State) : Prop :=
      t.store = s.store ∧ t.pins = pins ∧ t.pending = s.pending ∧
      (t.path.state, t.path.stage, t.path.startKind) = (.starting, stage, k) ∧
      (t.path.pwq, t.path.waiting, t.path.resetSeen, t.path.startReads) = ([], [], false, []) ∧
      (∀ a why, s.path.upstream = .held a why → t.path.upstream = .held a .startStop) ∧
      (t.path.repairedConsumer, t.path.repairedTail) = (false, false) ∧
      (t.engine.state, t.engine.op, t.engine.crq, t.engine.busy, t.engine.stateMap) = (.idle, none, [], [], []) ∧
      (t.engine.resolutions, t.engine.interruptedWord) = (0, 65535#32) ∧
      (t.engine.sweep.state, t.engine.sweep.cursor, t.engine.sweep.target, t.engine.sweep.marks, t.engine.sweep.recovery) =
        (.idle, 0, none, 0, false) ∧
      (t.calendar.copy3, t.calendar.copy4, t.calendar.mark3, t.calendar.mark4, t.calendar.load) =
        (0#32, 0#32, false, false, none) ∧
      (t.wand.capture, t.wand.counter, t.wand.base, t.wand.buffer, t.wand.count) = (.quietWait, 0, 0, [], 0) ∧
      (t.wand.decoder, t.wand.decodeBuffer.widths, t.wand.decodeBuffer.count, t.wand.guard) = (.free, [], 0, none) ∧
      (t.wand.ms, t.wand.msPhase, t.wand.repeats, t.wand.overruns) = (0#32, 0, 0, 0) ∧
      (t.visit.visit, t.visit.idleTimer, t.visit.patronCopy, t.visit.slips, t.visit.lastSlip, t.visit.printer) =
        (none, none, 65535#32, [], none, .idle) ∧
      (t.visit.byteInProgress, t.visit.verdictWord, t.visit.finesWord) = (false, 65535#32, 0#32) ∧
      (t.journal.systemQueue, t.journal.lowArmed) = ([], true) ∧
      (t.upload.state, t.upload.batchCounter, t.upload.outstanding, t.upload.reading, t.upload.shortRetries,
        t.upload.longRetries) = (.idle, 0#16, none, false, 0, 0) ∧
      (t.upload.retries, t.upload.rollover, t.upload.entriesSent, t.upload.cause, t.upload.ackTimer, t.upload.tx) =
        (0#16, false, 0#32, .none, false, []) ∧
      (t.upload.cutByte, t.upload.rxState, t.upload.rxBytes) = (false, .hunt, []) ∧
      (t.profile.candidate, t.profile.outcome) = (none, .none) ∧
      (t.events.latchA, t.events.latchB, t.events.sounder, t.attn) = (0#15, 0#12, none, false) ∧
      t.events.stamps = List.replicate 4 ⟨0#8, 0, 0, false, 0⟩
    let clockKept (t : State) : Prop := t.reading = s.reading ∧ t.calendar.prescaler = s.calendar.prescaler ∧
      t.calendar.backupLoss = s.calendar.backupLoss
    (s.path.state = .parked → s.pins.reset = false → s.pins.pfail = false → s.pins.mainPower = true →
      ∃ t, exec .start s = .next t ∧ clockKept t ∧
        begun (if s.path.resetSeen then .resetLine else .pfailRelease) .profileReads s.pins t) ∧
    (s.pins.mainPower = false → ∃ t, exec .powerOn s = .next t ∧
      begun .powerOn (if s.pins.reset || s.pins.pfail then .awaitLines else .profileReads)
        { s.pins with mainPower := true } t ∧
      (s.calendar.backupLoss = false → clockKept t) ∧
      (s.calendar.backupLoss = true → t.reading = ⟨0, 0, 0, false⟩ ∧ t.calendar.prescaler = 0 ∧
        t.calendar.backupLoss = false)) ∧
    (s.pins.pfail = true →
      (s.path.stage ≠ .awaitLines ∨ s.pins.reset = true → exec .pfailRelease s = .next { s with
        path := { s.path with fresh := 0 }, pins := { s.pins with pfail := false } }) ∧
      (s.path.stage = .awaitLines → s.pins.reset = false → ∃ t, exec .pfailRelease s = .next t ∧ clockKept t ∧
        begun .powerOn .profileReads { s.pins with pfail := false } t)) ∧
    (s.pins.reset = true →
      (s.path.stage ≠ .awaitLines ∨ s.pins.pfail = true → exec .resetRelease s = .next { s with
        path := { s.path with fresh := 0 }, pins := { s.pins with reset := false } }) ∧
      (s.path.stage = .awaitLines → s.pins.pfail = false → ∃ t, exec .resetRelease s = .next t ∧ clockKept t ∧
        begun .powerOn .profileReads { s.pins with reset := false } t))

/-- R25, R45: a loss of main power without warning leaves the desk store with what the queue had drained and the clock as it
is, and nothing waiting in the part; the backup monitor, which watches while main power is absent, records the loss of
VBACKUP. What the blocks hold while main power is absent (PARKED, empty queues, an idle engine, clear latches) is the
model's choice (log entry 26). -/
def Obligations.PowerIsLost : Prop :=
  ∀ s : State,
    (s.pins.mainPower = true → ∃ t, exec .mainPowerLoss s = .next t ∧ t.store = s.store ∧
      t.pins = { s.pins with mainPower := false } ∧ t.pending = s.pending ∧ t.reading = s.reading ∧
      t.calendar.prescaler = s.calendar.prescaler ∧ t.calendar.backupLoss = s.calendar.backupLoss ∧
      t.path.state = .parked ∧ (t.path.pwq, t.path.waiting, t.path.upstream) = ([], [], .idle) ∧
      (t.engine.op, t.engine.crq, t.engine.busy) = (none, [], []) ∧ t.visit.visit = none ∧ t.visit.slips = [] ∧
      (t.events.latchA, t.events.latchB) = (0#15, 0#12)) ∧
    (s.pins.mainPower = false → exec .vbackupLoss s = .next { s with
      path := { s.path with fresh := 0 }, calendar := { s.calendar with backupLoss := true } })

/-- R171, R177, R179, R180, R181: each of the start's 128 reads of the profile region places its word in the shadow. The
last one puts the stored profile in force, clamped, when its sum is 0 and its format 1, and the default profile otherwise
with PROFILE_REJECTED, and the Upload Engine takes the batch size of the profile in force. With a STATUS window the reads of
the mirrors w11, w1, w12, w13, w17 and w20 follow, and the last one restores the counts, a consumer or a tail out of its law
being repaired; without one, as under the default profile, the counts start at 0. The list load follows when the profile has
a CALENDAR window; without one the start completes: its STATUS words are placed, the START_UP entry is asked for, a held
access to a word outside every window is released and in SERVICE mode the recovery pass starts. The stamp
words are those of the records as they then stand (R185), a JOURNAL_LOST of the tail's repair among them: that this is what
R181 means by cleared is the model's reading (log entry 14). That each command is one of
these reads is the model's choice (log entry 13), and that the recovery pass over no loan slot ends in the same act, taking
the clock's day as its last-swept day, is its reading (log entry 34). -/
def Obligations.StartRestores : Prop :=
  ∀ s : State, s.path.state = .starting →
    let n := s.path.startReads.length
    let swept (t : State) (restored : Nat) : Prop := t.engine.sweep.lastSwept =
      if t.active.mode = .service ∧ t.active.loanCount = 0 ∧ s.calendar.valid = true then s.calendar.day else restored
    let completed (t : State) (before : List QEntry) (restored : Nat) : Prop := StartCompletes s t before ∧
      swept t restored ∧ t.calendar = s.calendar ∧ t.store = s.store ∧ t.pins = s.pins
    (∀ a, a = BitVec.ofNat 22 n → s.path.stage = .profileReads → readServed s .startUp a = true →
      let shadow := s.profile.shadow.set n (internalRead s a)
      let good : Prop := sumWords shadow = 0#32 ∧ field (nth shadow 0) 0 8 = 1
      let new := (readProfile shadow).clamp
      let uploads (t : State) : Prop := (t.upload.state, t.upload.params, t.upload.batchSize) =
        (.idle, t.active.upload, t.active.upload.batchStart)
      let inForce (t : State) : Prop :=
        t.profile = { s.profile with shadow := shadow, active := new, defaultInForce := false } ∧ uploads t ∧
          t.events.latchB.getLsbD 5 = (s.events.latchB.getLsbD 5 || decide (new ≠ readProfile shadow)) ∧
          t.events.latchB.getLsbD 4 = s.events.latchB.getLsbD 4
      let zeroed (t : State) : Prop := (t.wand.producer, t.wand.consumerCopy, t.journal.head, t.journal.tail) =
          (0#16, 0#32, 0#32, 0#32) ∧ (s.journal.systemQueue.length < 4 → t.journal.lossCount = 0)
      (n < 127 → exec .startProfileReadDone s = .next { s with
        path := { s.path with startReads := s.path.startReads ++ [internalRead s a], fresh := 0 }
        profile := { s.profile with shadow := shadow } }) ∧
      (127 ≤ n → good → new.statusWin.enable = true → ∃ t, exec .startProfileReadDone s = .next t ∧
        OnlyChanges [.path, .upload, .profile, .events] s t ∧ t.path.stage = .statusReads ∧ t.path.state = .starting ∧
        t.path.startReads = [] ∧ inForce t ∧
        t.events.latchB = s.events.latchB ||| (if new = readProfile shadow then 0#12 else 32#12)) ∧
      (127 ≤ n → good → new.statusWin.enable = false → new.calendarWin.enable = true →
        ∃ t, exec .startProfileReadDone s = .next t ∧
          OnlyChanges [.path, .engine, .calendar, .wand, .journal, .upload, .profile, .events] s t ∧
          t.path.stage = .listLoad ∧ t.path.state = .starting ∧ t.path.startReads = [] ∧
          t.calendar = { s.calendar with load := some 0 } ∧ inForce t ∧ zeroed t ∧ t.engine.sweep.lastSwept = 0) ∧
      (127 ≤ n → good → new.statusWin.enable = false → new.calendarWin.enable = false → PlainHeld s new →
        ∃ t, exec .startProfileReadDone s = .next t ∧ completed t [] 0 ∧ inForce t ∧ zeroed t) ∧
      (127 ≤ n → ¬ good → PlainHeld s defaultProfile → ∃ t, exec .startProfileReadDone s = .next t ∧ completed t [] 0 ∧
        zeroed t ∧ uploads t ∧
        t.profile = { s.profile with shadow := shadow, active := defaultProfile, defaultInForce := true } ∧
        t.events.latchB.getLsbD 4 = true)) ∧
    (∀ a, a = s.active.statusAddr ([11, 1, 12, 13, 17, 20].getD n 20) → s.path.stage = .statusReads →
      readServed s .startUp a = true →
      let reads := s.path.startReads ++ [internalRead s a]
      let gap := (nth reads 2 - nth reads 3).toNat
      let counted (t : State) : Prop :=
        t.wand = { s.wand with
          producer := (nth reads 0).setWidth 16
          consumerCopy := if ((nth reads 0).setWidth 16 - (nth reads 1).setWidth 16 : BitVec 16).toNat ≤ 32
            then word (field (nth reads 1) 0 16) else word (field (nth reads 0) 0 16) } ∧
        t.journal.head = nth reads 2 ∧ t.journal.tail = (if gap ≤ s.active.capacity then nth reads 3 else nth reads 2) ∧
        (s.active.capacity < gap → t.events.latchB.getLsbD 7 = true)
      let loss := if gap ≤ s.active.capacity then field (nth reads 5) 0 16 else min (field (nth reads 5) 0 16 + 1) 65535
      (n < 5 → exec .startStatusReadDone s = .next { s with path := { s.path with startReads := reads, fresh := 0 } }) ∧
      (5 ≤ n → s.active.calendarWin.enable = true → ∃ t, exec .startStatusReadDone s = .next t ∧
        OnlyChanges [.path, .engine, .calendar, .wand, .journal, .events] s t ∧
        t.path.stage = .listLoad ∧ t.path.state = .starting ∧ t.path.startReads = [] ∧
        t.calendar = { s.calendar with load := some 0 } ∧ counted t ∧ t.journal.lossCount = loss ∧
        t.engine.sweep = { s.engine.sweep with lastSwept := min (field (nth reads 4) 0 16) 36524 }) ∧
      (5 ≤ n → s.active.calendarWin.enable = false → PlainHeld s s.active →
        ∃ t, exec .startStatusReadDone s = .next t ∧
          completed t (if gap ≤ s.active.capacity then [] else statusEntries s (stampMirror t.events 3))
            (min (field (nth reads 4) 0 16) 36524) ∧
          counted t ∧ t.profile = s.profile ∧ (s.journal.systemQueue.length < 4 → t.journal.lossCount = loss)))

/-! ### Functions of the part -/

/-- R97, R99 to R106: the ten steps of a decode, each made on the whole pass before the next, with the code of Table 6-4 that
its failure gives. The length check passes for 8k − 1 elements, k from 5 to 24, and any other count gives LENGTH. In capture
order, the first character whose second and third widest widths are equal gives AMBIGUOUS, or whose ratio is below 3 to 2
RATIO; a gap wider than the wide sum before it gives GAP; a total below half or above double the one before it SPEED. A pass
that reads in neither direction gives PATTERN, and one that begins neither with START nor with STOP seen from the far end
NO_START. In the chosen reading a last character that is not STOP gives NO_STOP, a second that is no mark NO_MARK, another
that is no digit NOT_DIGIT, and a wrong check digit CHECK. A pass that none of these ends has its mark, its direction and its
k − 4 data digits as content. -/
def Obligations.LengthCheck : Prop :=
  ∀ ws : List Nat,
    (∀ k, 5 ≤ k → k ≤ 24 → ws.length = 8 * k - 1 → decodePass ws ≠ .error 1 ∧
      ∀ c, decodePass ws = .content c → c.digits.length = k - 4) ∧
    ((∀ k, 5 ≤ k → k ≤ 24 → ws.length ≠ 8 * k - 1) → decodePass ws = .error 1) ∧
    (∀ (k : Nat) (a b t : Nat → Nat), 5 ≤ k → k ≤ 24 → ws.length = 8 * k - 1 →
      let char (j : Nat) : List Nat := (ws.drop (8 * (j - 1))).take 7
      let gap (j : Nat) : Nat := ws.getD (8 * j - 1) 0
      let total (j : Nat) : Nat := (char j).sum
      let bad (j : Nat) : Prop := b j = t j ∨ 2 * b j < 3 * t j
      let steady (j : Nat) : Prop := total (j - 1) ≤ 2 * total j ∧ total j ≤ 2 * total (j - 1)
      let fails (code : Nat) : Prop := decodePass ws = .error code
      (∀ j, 1 ≤ j → j ≤ k → Ranks (char j) (a j) (b j) (t j)) →
      (∀ j, 1 ≤ j → j ≤ k → (∀ i, 1 ≤ i → i < j → ¬ bad i) →
        (b j = t j → fails 2) ∧ (b j ≠ t j → 2 * b j < 3 * t j → fails 3)) ∧
      ((∀ j, 1 ≤ j → j ≤ k → ¬ bad j) →
        ((∃ j, 1 ≤ j ∧ j < k ∧ a j + b j < gap j) → fails 4) ∧
        ((∀ j, 1 ≤ j → j < k → gap j ≤ a j + b j) →
          ((∃ j, 2 ≤ j ∧ j ≤ k ∧ ¬ steady j) → fails 5) ∧
          ((∀ j, 2 ≤ j → j ≤ k → steady j) → ∀ ps : List (Nat × Nat), ps.length = k →
            (∀ j, 1 ≤ j → j ≤ k → WideAt (char j) (t j) (ps.getD (j - 1) (0, 0)).1 (ps.getD (j - 1) (0, 0)).2) →
            let forward := ps.map saysForward
            let backward := ps.reverse.map saysBackward
            let reads (ms : List (Option Meaning)) : Prop := ∀ m ∈ ms, m ≠ none
            (¬ reads forward → ¬ reads backward → fails 6) ∧
            (reads forward ∨ reads backward →
              (ps.head? ≠ some (1, 3) → ps.head? ≠ some (2, 5) → fails 7) ∧
              (∀ (turned : Bool) (ms : List (Option Meaning)), (ps.head? = some (1, 3) ∧ turned = false ∧ ms = forward) ∨
                  (ps.head? = some (2, 5) ∧ turned = true ∧ ms = backward) →
                (ms.getLast? ≠ some (some .stop) → fails 8) ∧
                (ms.getLast? = some (some .stop) →
                  (ms[1]? ≠ some (some .item) → ms[1]? ≠ some (some .patron) → fails 9) ∧
                  (∀ patron : Bool, ms[1]? = some (some (if patron then .patron else .item)) →
                    ((∃ m ∈ (ms.drop 2).dropLast, ∀ d, m ≠ some (.digit d)) → fails 10) ∧
                    (∀ (data : List Nat) (check : Nat),
                      (ms.drop 2).dropLast = data.map (fun d => some (.digit d)) ++ [some (.digit check)] →
                      (check ≠ checkOf data → fails 11) ∧
                      (check = checkOf data → decodePass ws = .content ⟨patron, turned, data⟩))))))))))

/-- R78: the chargeable hours of an hour loan: every started hour of the lateness past the grace. -/
def Obligations.HourLateness : Prop :=
  ∀ (due ret : Instant) (grace : Nat),
    let late : Int := 1440 * ((ret.day : Int) - due.day) + ((ret.minute : Int) - due.minute)
    (late ≤ grace → chargeableHours due ret grace = 0) ∧
      ((grace : Int) < late → (chargeableHours due ret grace : Int) = (late - grace + 59) / 60) ∧
      (∀ k : Nat, (grace : Int) + 60 * k < late → late ≤ grace + 60 * (k + 1) → chargeableHours due ret grace = k + 1)

/-- R64 to R75: the law of due instants. A day loan granted within the calendar falls due after its loan day and an hour
loan after its loan instant, and no due day is later than 36,524. -/
def Obligations.DueInstantLaw : Prop :=
  ∀ (c : OpenCal) (hours : Bool) (now : Instant) (period minLength expiry : Nat) (notPastExpiry : Bool) (d : Instant)
      (noOpenDay shortened : Bool),
    now.day ≤ 36524 → now.minute ≤ 1439 → (∀ h ∈ c.hours, h.opening ≤ 1439 ∧ h.closing ≤ 1439) →
    c.due hours now period minLength expiry notPastExpiry = .due d noOpenDay shortened →
    d.day ≤ 36524 ∧ d.minute ≤ 1439 ∧ (hours = false → now.day < d.day) ∧ (hours = true → now.minutes < d.minutes)
end

