-- ==== Sys2Proof/Laws/Accesses.lean ====
section
/-! SUPPORT. How an upstream access that is judged at once is treated: one lemma for each of the conditions of Safety.lean. -/

namespace Sys2Proof.Machine

/-- A word of a window lies outside the profile region. -/
theorem not_profile_of_window {p : Profile} {a : Addr} {k : WindowKind} {n : Nat} (h : regionOf p a = .window k n) :
    ¬ a.toNat < 128 := by
  intro hl
  simp [regionOf, hl] at h

/-- Outside the profile region a write is not merged into the shadow. -/
theorem profileSnoop_outside {a : Access} {s : State} (h : ¬ a.addr.toNat < 128) : profileSnoop a s = s := by
  simp [profileSnoop, h]

/-- An access to a presented word is judged in the act of its arrival. -/
theorem arrive_presented {a : Access} {s : State} (h : Presented s a.addr) : arrive a s = .next (endAct (judge a s)) := by
  obtain ⟨hp, hu, hr, -⟩ := h
  simp only [arrive, actIf, hp, hu, State.running, hr, decide_true, Bool.and_self, if_true]
  rfl

/-- A write to a presented word that the queue does not hold is treated as its guard says. -/
theorem arriveWrite_presented {addr : Addr} {data : Word} {st : Strobes} {s : State} (h : Presented s addr)
    (hq : queueHolds s addr = false) :
    arriveWrite addr data st s = .next (endAct (treatWrite patronWrite ⟨true, addr, data, st⟩ s)) := by
  rw [arriveWrite, arrive_presented (a := ⟨true, addr, data, st⟩) h]
  simp [judge, h.2.2.2, hq]

/-- A write judged at once takes the treatment of its region. -/
theorem arriveWrite_judged {addr : Addr} {data : Word} {st : Strobes} {s : State} (h : WriteJudged s addr) :
    arriveWrite addr data st s = .next (endAct (freeWrite patronWrite ⟨true, addr, data, st⟩ s)) := by
  rw [arriveWrite_presented h.1 h.2.1]
  simp [treatWrite, h.2.2]

/-- A write judged as a word of a window takes the treatment of that window. -/
theorem arriveWrite_window {addr : Addr} {data : Word} {st : Strobes} {s : State} {k : WindowKind} {n : Nat}
    (h : WriteJudged s addr) (hr : regionOf s.active addr = .window k n) :
    arriveWrite addr data st s = .next (endAct (windowWrite patronWrite ⟨true, addr, data, st⟩ k n s)) := by
  rw [arriveWrite_judged h]
  simp [freeWrite, hr]

/-- A write judged as STATUS word `n`. -/
theorem arriveWrite_status {addr : Addr} {data : Word} {st : Strobes} {s : State} {n : Nat} (h : StatusWriteJudged s addr n) :
    arriveWrite addr data st s = .next (endAct (statusWrite patronWrite ⟨true, addr, data, st⟩ n s)) :=
  arriveWrite_window h.1 h.2

/-- A write judged as word 0 of a loan slot whose state is known. -/
theorem arriveWrite_loan {addr : Addr} {data : Word} {st : Strobes} {s : State} {i : Nat} {v : LoanState}
    (h : LoanWriteJudged s addr i v) :
    arriveWrite addr data st s = .next (endAct (judgeRequest ⟨true, addr, data, st⟩ i v s)) := by
  obtain ⟨hw, hs, hr, hm⟩ := h
  rw [arriveWrite_window hw hr]
  simp [windowWrite, hs, requestWrite, hm]

/-- A write judged as word 5 of a borrower. -/
theorem arriveWrite_payment {addr : Addr} {data : Word} {st : Strobes} {s : State} {b : Nat} (h : PaymentJudged s addr b) :
    arriveWrite addr data st s = .next (endAct (paymentWrite ⟨true, addr, data, st⟩ b s)) := by
  obtain ⟨hw, hs, hr⟩ := h
  rw [arriveWrite_window hw hr]
  have h1 : (8 * b + 5) % 8 = 5 := by omega
  have h2 : (8 * b + 5) / 8 = b := by omega
  simp [windowWrite, hs, h1, h2]

/-- A guarded write outside the profile region is suppressed. -/
theorem arriveWrite_guarded {addr : Addr} {data : Word} {st : Strobes} {s : State} (h : Presented s addr)
    (hq : queueHolds s addr = false) (hg : guardAt s addr = .guarded) (hl : ¬ addr.toNat < 128) :
    arriveWrite addr data st s = .next { s with path := pathCompleted s } := by
  rw [arriveWrite_presented h hq]
  simp only [treatWrite, hg]
  rw [profileSnoop_outside hl]
  rfl

/-- A read of a presented word is answered by its region. -/
theorem arriveRead_presented {addr : Addr} {s : State} (h : Presented s addr) :
    arriveRead addr s = .next (endAct (treatRead ⟨false, addr, 0#32, 0#4⟩ s)) := by
  rw [arriveRead, arrive_presented (a := ⟨false, addr, 0#32, 0#4⟩) h]
  simp [judge, h.2.2.2]

/-- The window an address is decoded as is one it hits, at the word the decoding gives. -/
theorem hits_of_window {p : Profile} {a : Addr} {k : WindowKind} {n : Nat} (h : regionOf p a = .window k n) :
    p.hits k a = true ∧ p.wordIn k a = n := by
  simp only [regionOf] at h
  split at h
  · cases h
  · split at h
    · next k' hk =>
      cases h
      exact ⟨by simpa using List.find?_some hk, rfl⟩
    · cases h

/-- A word that the window it is decoded as guards is guarded. -/
theorem guardAt_of_window {s : State} {a : Addr} {k : WindowKind} {n : Nat} (h : regionOf s.active a = .window k n)
    (hg : guardOf s k n = .guarded) : guardAt s a = .guarded := by
  obtain ⟨hh, hw⟩ := hits_of_window h
  have : (guardsAt s a).contains .guarded = true := by
    simp only [guardsAt, List.contains_iff_mem, List.mem_map, List.mem_filter]
    refine ⟨k, ⟨?_, hh⟩, by rw [hw, hg]⟩
    cases k <;> simp [WindowKind.order]
  rw [guardAt, if_pos this]

end Sys2Proof.Machine
end

