-- ==== Sys2Proof/Laws/Fields.lean ====
section
/-! SUPPORT. Bit fields: the bits of a field placed in a word, and what the fields of the visit word say. -/

namespace Sys2Proof.Machine

/-- The bits of a value placed in a field. -/
theorem put_getLsbD (lo width n i : Nat) :
    (put lo width n).getLsbD i = (decide (i < 32) && decide (lo ≤ i) && decide (i < lo + width) && n.testBit (i - lo)) := by
  simp only [put, word, BitVec.getLsbD_ofNat, Nat.testBit_mul_two_pow, Nat.testBit_mod_two_pow]
  by_cases h1 : lo ≤ i
  · by_cases h2 : i < lo + width
    · have h3 : i - lo < width := by omega
      simp [h1, h2, h3]
    · have h3 : ¬ i - lo < width := by omega
      simp [h1, h2, h3]
  · simp [h1]

/-- The two bits of the standing in the visit word. -/
theorem visitWord_low (v : VisitUnit) (i : Nat) (hi : i < 2) :
    (visitWord v).getLsbD i =
      (match v.visit with
      | some r => r.standing.code
      | none => 0).testBit i := by
  simp only [visitWord, BitVec.getLsbD_or, put_getLsbD]
  have h : ¬ 2 ≤ i := by omega
  have h' : i < 32 := by omega
  simp [hi, h, h', show ¬ 7 ≤ i by omega, show ¬ 8 ≤ i by omega, show ¬ 11 ≤ i by omega, show ¬ 12 ≤ i by omega]
  all_goals rfl

/-- Two bits of a number below 4 determine it. -/
theorem code_eq_of_bits {a b : Nat} (ha : a < 4) (hb : b < 4) (h0 : a.testBit 0 = b.testBit 0)
    (h1 : a.testBit 1 = b.testBit 1) : a = b := by
  interval_cases a <;> interval_cases b <;> simp_all (decide := true)

/-- Visit words of visits that stand differently differ. -/
theorem visitWord_ne {v w : VisitUnit}
    (h : (match v.visit with | some r => r.standing.code | none => 0) ≠
      (match w.visit with | some r => r.standing.code | none => 0)) : visitWord v ≠ visitWord w := by
  intro e
  have hc : ∀ u : VisitUnit, (match u.visit with | some r => r.standing.code | none => 0) < 4 := by
    intro u
    split
    · next r _ => cases r.standing <;> decide
    · decide
  refine h (code_eq_of_bits (hc v) (hc w) ?_ ?_)
  · have h0 : (visitWord v).getLsbD 0 = (visitWord w).getLsbD 0 := congrArg (·.getLsbD 0) e
    exact (visitWord_low v 0 (by omega)).symm.trans (h0.trans (visitWord_low w 0 (by omega)))
  · have h1 : (visitWord v).getLsbD 1 = (visitWord w).getLsbD 1 := congrArg (·.getLsbD 1) e
    exact (visitWord_low v 1 (by omega)).symm.trans (h1.trans (visitWord_low w 1 (by omega)))

end Sys2Proof.Machine
end

