-- ==== Sys2Proof/Laws/State.lean ====
section
/-! SUPPORT. One lemma for each field of the state and each update: what the field is after the update. -/

namespace Sys2Proof.Machine

/-! ### setStore -/

@[simp] theorem State.setStore_store (s : State) (x : List Host.Cell) : (s.setStore x).store = x := rfl
@[simp] theorem State.setStore_pins (s : State) (x : List Host.Cell) : (s.setStore x).pins = s.pins := rfl
@[simp] theorem State.setStore_path (s : State) (x : List Host.Cell) : (s.setStore x).path = s.path := rfl
@[simp] theorem State.setStore_engine (s : State) (x : List Host.Cell) : (s.setStore x).engine = s.engine := rfl
@[simp] theorem State.setStore_calendar (s : State) (x : List Host.Cell) : (s.setStore x).calendar = s.calendar := rfl
@[simp] theorem State.setStore_wand (s : State) (x : List Host.Cell) : (s.setStore x).wand = s.wand := rfl
@[simp] theorem State.setStore_visit (s : State) (x : List Host.Cell) : (s.setStore x).visit = s.visit := rfl
@[simp] theorem State.setStore_journal (s : State) (x : List Host.Cell) : (s.setStore x).journal = s.journal := rfl
@[simp] theorem State.setStore_upload (s : State) (x : List Host.Cell) : (s.setStore x).upload = s.upload := rfl
@[simp] theorem State.setStore_profile (s : State) (x : List Host.Cell) : (s.setStore x).profile = s.profile := rfl
@[simp] theorem State.setStore_events (s : State) (x : List Host.Cell) : (s.setStore x).events = s.events := rfl
@[simp] theorem State.setStore_pending (s : State) (x : List Host.Cell) : (s.setStore x).pending = s.pending := rfl

/-! ### setPins -/

@[simp] theorem State.setPins_store (s : State) (x : Pins) : (s.setPins x).store = s.store := rfl
@[simp] theorem State.setPins_pins (s : State) (x : Pins) : (s.setPins x).pins = x := rfl
@[simp] theorem State.setPins_path (s : State) (x : Pins) : (s.setPins x).path = s.path := rfl
@[simp] theorem State.setPins_engine (s : State) (x : Pins) : (s.setPins x).engine = s.engine := rfl
@[simp] theorem State.setPins_calendar (s : State) (x : Pins) : (s.setPins x).calendar = s.calendar := rfl
@[simp] theorem State.setPins_wand (s : State) (x : Pins) : (s.setPins x).wand = s.wand := rfl
@[simp] theorem State.setPins_visit (s : State) (x : Pins) : (s.setPins x).visit = s.visit := rfl
@[simp] theorem State.setPins_journal (s : State) (x : Pins) : (s.setPins x).journal = s.journal := rfl
@[simp] theorem State.setPins_upload (s : State) (x : Pins) : (s.setPins x).upload = s.upload := rfl
@[simp] theorem State.setPins_profile (s : State) (x : Pins) : (s.setPins x).profile = s.profile := rfl
@[simp] theorem State.setPins_events (s : State) (x : Pins) : (s.setPins x).events = s.events := rfl
@[simp] theorem State.setPins_pending (s : State) (x : Pins) : (s.setPins x).pending = s.pending := rfl

/-! ### setPath -/

@[simp] theorem State.setPath_store (s : State) (x : StorePath) : (s.setPath x).store = s.store := rfl
@[simp] theorem State.setPath_pins (s : State) (x : StorePath) : (s.setPath x).pins = s.pins := rfl
@[simp] theorem State.setPath_path (s : State) (x : StorePath) : (s.setPath x).path = x := rfl
@[simp] theorem State.setPath_engine (s : State) (x : StorePath) : (s.setPath x).engine = s.engine := rfl
@[simp] theorem State.setPath_calendar (s : State) (x : StorePath) : (s.setPath x).calendar = s.calendar := rfl
@[simp] theorem State.setPath_wand (s : State) (x : StorePath) : (s.setPath x).wand = s.wand := rfl
@[simp] theorem State.setPath_visit (s : State) (x : StorePath) : (s.setPath x).visit = s.visit := rfl
@[simp] theorem State.setPath_journal (s : State) (x : StorePath) : (s.setPath x).journal = s.journal := rfl
@[simp] theorem State.setPath_upload (s : State) (x : StorePath) : (s.setPath x).upload = s.upload := rfl
@[simp] theorem State.setPath_profile (s : State) (x : StorePath) : (s.setPath x).profile = s.profile := rfl
@[simp] theorem State.setPath_events (s : State) (x : StorePath) : (s.setPath x).events = s.events := rfl
@[simp] theorem State.setPath_pending (s : State) (x : StorePath) : (s.setPath x).pending = s.pending := rfl

/-! ### setEngine -/

@[simp] theorem State.setEngine_store (s : State) (x : Engine) : (s.setEngine x).store = s.store := rfl
@[simp] theorem State.setEngine_pins (s : State) (x : Engine) : (s.setEngine x).pins = s.pins := rfl
@[simp] theorem State.setEngine_path (s : State) (x : Engine) : (s.setEngine x).path = s.path := rfl
@[simp] theorem State.setEngine_engine (s : State) (x : Engine) : (s.setEngine x).engine = x := rfl
@[simp] theorem State.setEngine_calendar (s : State) (x : Engine) : (s.setEngine x).calendar = s.calendar := rfl
@[simp] theorem State.setEngine_wand (s : State) (x : Engine) : (s.setEngine x).wand = s.wand := rfl
@[simp] theorem State.setEngine_visit (s : State) (x : Engine) : (s.setEngine x).visit = s.visit := rfl
@[simp] theorem State.setEngine_journal (s : State) (x : Engine) : (s.setEngine x).journal = s.journal := rfl
@[simp] theorem State.setEngine_upload (s : State) (x : Engine) : (s.setEngine x).upload = s.upload := rfl
@[simp] theorem State.setEngine_profile (s : State) (x : Engine) : (s.setEngine x).profile = s.profile := rfl
@[simp] theorem State.setEngine_events (s : State) (x : Engine) : (s.setEngine x).events = s.events := rfl
@[simp] theorem State.setEngine_pending (s : State) (x : Engine) : (s.setEngine x).pending = s.pending := rfl

/-! ### setCalendar -/

@[simp] theorem State.setCalendar_store (s : State) (x : Calendar) : (s.setCalendar x).store = s.store := rfl
@[simp] theorem State.setCalendar_pins (s : State) (x : Calendar) : (s.setCalendar x).pins = s.pins := rfl
@[simp] theorem State.setCalendar_path (s : State) (x : Calendar) : (s.setCalendar x).path = s.path := rfl
@[simp] theorem State.setCalendar_engine (s : State) (x : Calendar) : (s.setCalendar x).engine = s.engine := rfl
@[simp] theorem State.setCalendar_calendar (s : State) (x : Calendar) : (s.setCalendar x).calendar = x := rfl
@[simp] theorem State.setCalendar_wand (s : State) (x : Calendar) : (s.setCalendar x).wand = s.wand := rfl
@[simp] theorem State.setCalendar_visit (s : State) (x : Calendar) : (s.setCalendar x).visit = s.visit := rfl
@[simp] theorem State.setCalendar_journal (s : State) (x : Calendar) : (s.setCalendar x).journal = s.journal := rfl
@[simp] theorem State.setCalendar_upload (s : State) (x : Calendar) : (s.setCalendar x).upload = s.upload := rfl
@[simp] theorem State.setCalendar_profile (s : State) (x : Calendar) : (s.setCalendar x).profile = s.profile := rfl
@[simp] theorem State.setCalendar_events (s : State) (x : Calendar) : (s.setCalendar x).events = s.events := rfl
@[simp] theorem State.setCalendar_pending (s : State) (x : Calendar) : (s.setCalendar x).pending = s.pending := rfl

/-! ### setWand -/

@[simp] theorem State.setWand_store (s : State) (x : Wand) : (s.setWand x).store = s.store := rfl
@[simp] theorem State.setWand_pins (s : State) (x : Wand) : (s.setWand x).pins = s.pins := rfl
@[simp] theorem State.setWand_path (s : State) (x : Wand) : (s.setWand x).path = s.path := rfl
@[simp] theorem State.setWand_engine (s : State) (x : Wand) : (s.setWand x).engine = s.engine := rfl
@[simp] theorem State.setWand_calendar (s : State) (x : Wand) : (s.setWand x).calendar = s.calendar := rfl
@[simp] theorem State.setWand_wand (s : State) (x : Wand) : (s.setWand x).wand = x := rfl
@[simp] theorem State.setWand_visit (s : State) (x : Wand) : (s.setWand x).visit = s.visit := rfl
@[simp] theorem State.setWand_journal (s : State) (x : Wand) : (s.setWand x).journal = s.journal := rfl
@[simp] theorem State.setWand_upload (s : State) (x : Wand) : (s.setWand x).upload = s.upload := rfl
@[simp] theorem State.setWand_profile (s : State) (x : Wand) : (s.setWand x).profile = s.profile := rfl
@[simp] theorem State.setWand_events (s : State) (x : Wand) : (s.setWand x).events = s.events := rfl
@[simp] theorem State.setWand_pending (s : State) (x : Wand) : (s.setWand x).pending = s.pending := rfl

/-! ### setVisit -/

@[simp] theorem State.setVisit_store (s : State) (x : VisitUnit) : (s.setVisit x).store = s.store := rfl
@[simp] theorem State.setVisit_pins (s : State) (x : VisitUnit) : (s.setVisit x).pins = s.pins := rfl
@[simp] theorem State.setVisit_path (s : State) (x : VisitUnit) : (s.setVisit x).path = s.path := rfl
@[simp] theorem State.setVisit_engine (s : State) (x : VisitUnit) : (s.setVisit x).engine = s.engine := rfl
@[simp] theorem State.setVisit_calendar (s : State) (x : VisitUnit) : (s.setVisit x).calendar = s.calendar := rfl
@[simp] theorem State.setVisit_wand (s : State) (x : VisitUnit) : (s.setVisit x).wand = s.wand := rfl
@[simp] theorem State.setVisit_visit (s : State) (x : VisitUnit) : (s.setVisit x).visit = x := rfl
@[simp] theorem State.setVisit_journal (s : State) (x : VisitUnit) : (s.setVisit x).journal = s.journal := rfl
@[simp] theorem State.setVisit_upload (s : State) (x : VisitUnit) : (s.setVisit x).upload = s.upload := rfl
@[simp] theorem State.setVisit_profile (s : State) (x : VisitUnit) : (s.setVisit x).profile = s.profile := rfl
@[simp] theorem State.setVisit_events (s : State) (x : VisitUnit) : (s.setVisit x).events = s.events := rfl
@[simp] theorem State.setVisit_pending (s : State) (x : VisitUnit) : (s.setVisit x).pending = s.pending := rfl

/-! ### setJournal -/

@[simp] theorem State.setJournal_store (s : State) (x : Journal) : (s.setJournal x).store = s.store := rfl
@[simp] theorem State.setJournal_pins (s : State) (x : Journal) : (s.setJournal x).pins = s.pins := rfl
@[simp] theorem State.setJournal_path (s : State) (x : Journal) : (s.setJournal x).path = s.path := rfl
@[simp] theorem State.setJournal_engine (s : State) (x : Journal) : (s.setJournal x).engine = s.engine := rfl
@[simp] theorem State.setJournal_calendar (s : State) (x : Journal) : (s.setJournal x).calendar = s.calendar := rfl
@[simp] theorem State.setJournal_wand (s : State) (x : Journal) : (s.setJournal x).wand = s.wand := rfl
@[simp] theorem State.setJournal_visit (s : State) (x : Journal) : (s.setJournal x).visit = s.visit := rfl
@[simp] theorem State.setJournal_journal (s : State) (x : Journal) : (s.setJournal x).journal = x := rfl
@[simp] theorem State.setJournal_upload (s : State) (x : Journal) : (s.setJournal x).upload = s.upload := rfl
@[simp] theorem State.setJournal_profile (s : State) (x : Journal) : (s.setJournal x).profile = s.profile := rfl
@[simp] theorem State.setJournal_events (s : State) (x : Journal) : (s.setJournal x).events = s.events := rfl
@[simp] theorem State.setJournal_pending (s : State) (x : Journal) : (s.setJournal x).pending = s.pending := rfl

/-! ### setUpload -/

@[simp] theorem State.setUpload_store (s : State) (x : Upload) : (s.setUpload x).store = s.store := rfl
@[simp] theorem State.setUpload_pins (s : State) (x : Upload) : (s.setUpload x).pins = s.pins := rfl
@[simp] theorem State.setUpload_path (s : State) (x : Upload) : (s.setUpload x).path = s.path := rfl
@[simp] theorem State.setUpload_engine (s : State) (x : Upload) : (s.setUpload x).engine = s.engine := rfl
@[simp] theorem State.setUpload_calendar (s : State) (x : Upload) : (s.setUpload x).calendar = s.calendar := rfl
@[simp] theorem State.setUpload_wand (s : State) (x : Upload) : (s.setUpload x).wand = s.wand := rfl
@[simp] theorem State.setUpload_visit (s : State) (x : Upload) : (s.setUpload x).visit = s.visit := rfl
@[simp] theorem State.setUpload_journal (s : State) (x : Upload) : (s.setUpload x).journal = s.journal := rfl
@[simp] theorem State.setUpload_upload (s : State) (x : Upload) : (s.setUpload x).upload = x := rfl
@[simp] theorem State.setUpload_profile (s : State) (x : Upload) : (s.setUpload x).profile = s.profile := rfl
@[simp] theorem State.setUpload_events (s : State) (x : Upload) : (s.setUpload x).events = s.events := rfl
@[simp] theorem State.setUpload_pending (s : State) (x : Upload) : (s.setUpload x).pending = s.pending := rfl

/-! ### setProfile -/

@[simp] theorem State.setProfile_store (s : State) (x : ProfileUnit) : (s.setProfile x).store = s.store := rfl
@[simp] theorem State.setProfile_pins (s : State) (x : ProfileUnit) : (s.setProfile x).pins = s.pins := rfl
@[simp] theorem State.setProfile_path (s : State) (x : ProfileUnit) : (s.setProfile x).path = s.path := rfl
@[simp] theorem State.setProfile_engine (s : State) (x : ProfileUnit) : (s.setProfile x).engine = s.engine := rfl
@[simp] theorem State.setProfile_calendar (s : State) (x : ProfileUnit) : (s.setProfile x).calendar = s.calendar := rfl
@[simp] theorem State.setProfile_wand (s : State) (x : ProfileUnit) : (s.setProfile x).wand = s.wand := rfl
@[simp] theorem State.setProfile_visit (s : State) (x : ProfileUnit) : (s.setProfile x).visit = s.visit := rfl
@[simp] theorem State.setProfile_journal (s : State) (x : ProfileUnit) : (s.setProfile x).journal = s.journal := rfl
@[simp] theorem State.setProfile_upload (s : State) (x : ProfileUnit) : (s.setProfile x).upload = s.upload := rfl
@[simp] theorem State.setProfile_profile (s : State) (x : ProfileUnit) : (s.setProfile x).profile = x := rfl
@[simp] theorem State.setProfile_events (s : State) (x : ProfileUnit) : (s.setProfile x).events = s.events := rfl
@[simp] theorem State.setProfile_pending (s : State) (x : ProfileUnit) : (s.setProfile x).pending = s.pending := rfl

/-! ### setEvents -/

@[simp] theorem State.setEvents_store (s : State) (x : EventUnit) : (s.setEvents x).store = s.store := rfl
@[simp] theorem State.setEvents_pins (s : State) (x : EventUnit) : (s.setEvents x).pins = s.pins := rfl
@[simp] theorem State.setEvents_path (s : State) (x : EventUnit) : (s.setEvents x).path = s.path := rfl
@[simp] theorem State.setEvents_engine (s : State) (x : EventUnit) : (s.setEvents x).engine = s.engine := rfl
@[simp] theorem State.setEvents_calendar (s : State) (x : EventUnit) : (s.setEvents x).calendar = s.calendar := rfl
@[simp] theorem State.setEvents_wand (s : State) (x : EventUnit) : (s.setEvents x).wand = s.wand := rfl
@[simp] theorem State.setEvents_visit (s : State) (x : EventUnit) : (s.setEvents x).visit = s.visit := rfl
@[simp] theorem State.setEvents_journal (s : State) (x : EventUnit) : (s.setEvents x).journal = s.journal := rfl
@[simp] theorem State.setEvents_upload (s : State) (x : EventUnit) : (s.setEvents x).upload = s.upload := rfl
@[simp] theorem State.setEvents_profile (s : State) (x : EventUnit) : (s.setEvents x).profile = s.profile := rfl
@[simp] theorem State.setEvents_events (s : State) (x : EventUnit) : (s.setEvents x).events = x := rfl
@[simp] theorem State.setEvents_pending (s : State) (x : EventUnit) : (s.setEvents x).pending = s.pending := rfl

/-! ### setPending -/

@[simp] theorem State.setPending_store (s : State) (x : List Instr) : (s.setPending x).store = s.store := rfl
@[simp] theorem State.setPending_pins (s : State) (x : List Instr) : (s.setPending x).pins = s.pins := rfl
@[simp] theorem State.setPending_path (s : State) (x : List Instr) : (s.setPending x).path = s.path := rfl
@[simp] theorem State.setPending_engine (s : State) (x : List Instr) : (s.setPending x).engine = s.engine := rfl
@[simp] theorem State.setPending_calendar (s : State) (x : List Instr) : (s.setPending x).calendar = s.calendar := rfl
@[simp] theorem State.setPending_wand (s : State) (x : List Instr) : (s.setPending x).wand = s.wand := rfl
@[simp] theorem State.setPending_visit (s : State) (x : List Instr) : (s.setPending x).visit = s.visit := rfl
@[simp] theorem State.setPending_journal (s : State) (x : List Instr) : (s.setPending x).journal = s.journal := rfl
@[simp] theorem State.setPending_upload (s : State) (x : List Instr) : (s.setPending x).upload = s.upload := rfl
@[simp] theorem State.setPending_profile (s : State) (x : List Instr) : (s.setPending x).profile = s.profile := rfl
@[simp] theorem State.setPending_events (s : State) (x : List Instr) : (s.setPending x).events = s.events := rfl
@[simp] theorem State.setPending_pending (s : State) (x : List Instr) : (s.setPending x).pending = x := rfl

end Sys2Proof.Machine
end

