-- ==== Sys2Proof/Laws/Frames.lean ====
section
/-! SUPPORT. What the shared operations leave as it was: one lemma for each, naming every block it does not change and, where it
changes the Store Path only in the queue or the line of groups, the fields of the Store Path it does not change. -/

namespace Sys2Proof.Machine

/-! ### Ops -/

/-- The end of an act changes only the count of groups begun in it. -/
@[simp] theorem endAct_keeps (s : State) :
    (endAct s).store = s.store ∧ (endAct s).pins = s.pins ∧ (endAct s).engine = s.engine ∧
      (endAct s).calendar = s.calendar ∧ (endAct s).wand = s.wand ∧ (endAct s).visit = s.visit ∧
      (endAct s).journal = s.journal ∧ (endAct s).upload = s.upload ∧ (endAct s).profile = s.profile ∧
      (endAct s).events = s.events ∧ (endAct s).pending = s.pending ∧ (endAct s).path.state = s.path.state ∧
      (endAct s).path.stage = s.path.stage ∧ (endAct s).path.startKind = s.path.startKind ∧
      (endAct s).path.resetSeen = s.path.resetSeen ∧ (endAct s).path.repairedConsumer = s.path.repairedConsumer ∧
      (endAct s).path.repairedTail = s.path.repairedTail ∧ (endAct s).path.startReads = s.path.startReads ∧
      (endAct s).path.upstream = s.path.upstream ∧ (endAct s).path.completion = s.path.completion := by
  simp [endAct]

/-- Words placed in the queue change only the queue. -/
@[simp] theorem enqueue_keeps (es : List QEntry) (s : State) :
    (enqueue es s).store = s.store ∧ (enqueue es s).pins = s.pins ∧ (enqueue es s).engine = s.engine ∧
      (enqueue es s).calendar = s.calendar ∧ (enqueue es s).wand = s.wand ∧ (enqueue es s).visit = s.visit ∧
      (enqueue es s).journal = s.journal ∧ (enqueue es s).upload = s.upload ∧ (enqueue es s).profile = s.profile ∧
      (enqueue es s).events = s.events ∧ (enqueue es s).pending = s.pending ∧
      (enqueue es s).path.state = s.path.state ∧ (enqueue es s).path.stage = s.path.stage ∧
      (enqueue es s).path.startKind = s.path.startKind ∧ (enqueue es s).path.resetSeen = s.path.resetSeen ∧
      (enqueue es s).path.repairedConsumer = s.path.repairedConsumer ∧
      (enqueue es s).path.repairedTail = s.path.repairedTail ∧ (enqueue es s).path.startReads = s.path.startReads ∧
      (enqueue es s).path.upstream = s.path.upstream ∧ (enqueue es s).path.completion = s.path.completion := by
  simp [enqueue]

/-- The adoption groups that follow written words change only the line of groups. -/
@[simp] theorem follow_keeps (ws : List (Nat × Word)) (s : State) :
    (follow ws s).store = s.store ∧ (follow ws s).pins = s.pins ∧ (follow ws s).engine = s.engine ∧
      (follow ws s).calendar = s.calendar ∧ (follow ws s).wand = s.wand ∧ (follow ws s).visit = s.visit ∧
      (follow ws s).journal = s.journal ∧ (follow ws s).upload = s.upload ∧ (follow ws s).profile = s.profile ∧
      (follow ws s).events = s.events ∧ (follow ws s).pending = s.pending ∧ (follow ws s).path.state = s.path.state ∧
      (follow ws s).path.stage = s.path.stage ∧ (follow ws s).path.startKind = s.path.startKind ∧
      (follow ws s).path.resetSeen = s.path.resetSeen ∧
      (follow ws s).path.repairedConsumer = s.path.repairedConsumer ∧
      (follow ws s).path.repairedTail = s.path.repairedTail ∧ (follow ws s).path.startReads = s.path.startReads ∧
      (follow ws s).path.pwq = s.path.pwq ∧ (follow ws s).path.upstream = s.path.upstream ∧
      (follow ws s).path.completion = s.path.completion ∧ (follow ws s).path.fresh = s.path.fresh := by
  simp [follow]

/-- A group that begins to wait changes only the line of groups. -/
@[simp] theorem beginWait_keeps (o : GroupOwner) (ws : List (Nat × Word)) (b : Bool) (s : State) :
    (beginWait o ws b s).store = s.store ∧ (beginWait o ws b s).pins = s.pins ∧
      (beginWait o ws b s).engine = s.engine ∧ (beginWait o ws b s).calendar = s.calendar ∧
      (beginWait o ws b s).wand = s.wand ∧ (beginWait o ws b s).visit = s.visit ∧
      (beginWait o ws b s).journal = s.journal ∧ (beginWait o ws b s).upload = s.upload ∧
      (beginWait o ws b s).profile = s.profile ∧ (beginWait o ws b s).events = s.events ∧
      (beginWait o ws b s).pending = s.pending ∧ (beginWait o ws b s).path.state = s.path.state ∧
      (beginWait o ws b s).path.stage = s.path.stage ∧ (beginWait o ws b s).path.startKind = s.path.startKind ∧
      (beginWait o ws b s).path.resetSeen = s.path.resetSeen ∧
      (beginWait o ws b s).path.repairedConsumer = s.path.repairedConsumer ∧
      (beginWait o ws b s).path.repairedTail = s.path.repairedTail ∧
      (beginWait o ws b s).path.startReads = s.path.startReads ∧
      (beginWait o ws b s).path.upstream = s.path.upstream ∧
      (beginWait o ws b s).path.completion = s.path.completion := by
  simp [beginWait]

/-- A newer group that takes the place of a waiting one changes only the line of groups. -/
@[simp] theorem replaceWaiting_keeps (o : GroupOwner) (ws : List (Nat × Word)) (s : State) :
    (replaceWaiting o ws s).store = s.store ∧ (replaceWaiting o ws s).pins = s.pins ∧
      (replaceWaiting o ws s).engine = s.engine ∧ (replaceWaiting o ws s).calendar = s.calendar ∧
      (replaceWaiting o ws s).wand = s.wand ∧ (replaceWaiting o ws s).visit = s.visit ∧
      (replaceWaiting o ws s).journal = s.journal ∧ (replaceWaiting o ws s).upload = s.upload ∧
      (replaceWaiting o ws s).profile = s.profile ∧ (replaceWaiting o ws s).events = s.events ∧
      (replaceWaiting o ws s).pending = s.pending ∧ (replaceWaiting o ws s).path.state = s.path.state ∧
      (replaceWaiting o ws s).path.stage = s.path.stage ∧ (replaceWaiting o ws s).path.startKind = s.path.startKind ∧
      (replaceWaiting o ws s).path.resetSeen = s.path.resetSeen ∧
      (replaceWaiting o ws s).path.repairedConsumer = s.path.repairedConsumer ∧
      (replaceWaiting o ws s).path.repairedTail = s.path.repairedTail ∧
      (replaceWaiting o ws s).path.startReads = s.path.startReads ∧
      (replaceWaiting o ws s).path.upstream = s.path.upstream ∧
      (replaceWaiting o ws s).path.completion = s.path.completion := by
  simp [replaceWaiting]

/-- A group that leaves the line changes only the line of groups. -/
@[simp] theorem leaveWait_keeps (o : GroupOwner) (s : State) :
    (leaveWait o s).store = s.store ∧ (leaveWait o s).pins = s.pins ∧ (leaveWait o s).engine = s.engine ∧
      (leaveWait o s).calendar = s.calendar ∧ (leaveWait o s).wand = s.wand ∧ (leaveWait o s).visit = s.visit ∧
      (leaveWait o s).journal = s.journal ∧ (leaveWait o s).upload = s.upload ∧ (leaveWait o s).profile = s.profile ∧
      (leaveWait o s).events = s.events ∧ (leaveWait o s).pending = s.pending ∧
      (leaveWait o s).path.state = s.path.state ∧ (leaveWait o s).path.stage = s.path.stage ∧
      (leaveWait o s).path.startKind = s.path.startKind ∧ (leaveWait o s).path.resetSeen = s.path.resetSeen ∧
      (leaveWait o s).path.repairedConsumer = s.path.repairedConsumer ∧
      (leaveWait o s).path.repairedTail = s.path.repairedTail ∧ (leaveWait o s).path.startReads = s.path.startReads ∧
      (leaveWait o s).path.upstream = s.path.upstream ∧ (leaveWait o s).path.completion = s.path.completion := by
  simp [leaveWait]

/-- A group produced changes only the queue or the line of groups. -/
@[simp] theorem produce_keeps (o : GroupOwner) (ws : List (Nat × Word)) (b : Bool) (s : State) :
    (produce o ws b s).store = s.store ∧ (produce o ws b s).pins = s.pins ∧ (produce o ws b s).engine = s.engine ∧
      (produce o ws b s).calendar = s.calendar ∧ (produce o ws b s).wand = s.wand ∧
      (produce o ws b s).visit = s.visit ∧ (produce o ws b s).journal = s.journal ∧
      (produce o ws b s).upload = s.upload ∧ (produce o ws b s).profile = s.profile ∧
      (produce o ws b s).events = s.events ∧ (produce o ws b s).pending = s.pending ∧
      (produce o ws b s).path.state = s.path.state ∧ (produce o ws b s).path.stage = s.path.stage ∧
      (produce o ws b s).path.startKind = s.path.startKind ∧ (produce o ws b s).path.resetSeen = s.path.resetSeen ∧
      (produce o ws b s).path.repairedConsumer = s.path.repairedConsumer ∧
      (produce o ws b s).path.repairedTail = s.path.repairedTail ∧
      (produce o ws b s).path.startReads = s.path.startReads ∧ (produce o ws b s).path.upstream = s.path.upstream ∧
      (produce o ws b s).path.completion = s.path.completion := by
  unfold produce
  split
  · simp
  · split
    · simp
    · split <;> simp

/-- A claim changes only the engine. -/
@[simp] theorem claim_keeps (c : Claim) (s : State) :
    (claim c s).store = s.store ∧ (claim c s).pins = s.pins ∧ (claim c s).path = s.path ∧
      (claim c s).calendar = s.calendar ∧ (claim c s).wand = s.wand ∧ (claim c s).visit = s.visit ∧
      (claim c s).journal = s.journal ∧ (claim c s).upload = s.upload ∧ (claim c s).profile = s.profile ∧
      (claim c s).events = s.events ∧ (claim c s).pending = s.pending := by
  simp [claim]

/-- The end of a claim changes only the engine. -/
@[simp] theorem release_keeps (c : Claim) (s : State) :
    (release c s).store = s.store ∧ (release c s).pins = s.pins ∧ (release c s).path = s.path ∧
      (release c s).calendar = s.calendar ∧ (release c s).wand = s.wand ∧ (release c s).visit = s.visit ∧
      (release c s).journal = s.journal ∧ (release c s).upload = s.upload ∧ (release c s).profile = s.profile ∧
      (release c s).events = s.events ∧ (release c s).pending = s.pending := by
  simp [release]

/-- A state recorded in the map changes only the engine. -/
@[simp] theorem recordState_keeps (i : Nat) (v : LoanState) (s : State) :
    (recordState i v s).store = s.store ∧ (recordState i v s).pins = s.pins ∧ (recordState i v s).path = s.path ∧
      (recordState i v s).calendar = s.calendar ∧ (recordState i v s).wand = s.wand ∧
      (recordState i v s).visit = s.visit ∧ (recordState i v s).journal = s.journal ∧
      (recordState i v s).upload = s.upload ∧ (recordState i v s).profile = s.profile ∧
      (recordState i v s).events = s.events ∧ (recordState i v s).pending = s.pending := by
  simp [recordState]

/-- An upstream write that completes changes only the access. -/
@[simp] theorem completeWrite_keeps (s : State) :
    (completeWrite s).store = s.store ∧ (completeWrite s).pins = s.pins ∧ (completeWrite s).engine = s.engine ∧
      (completeWrite s).calendar = s.calendar ∧ (completeWrite s).wand = s.wand ∧ (completeWrite s).visit = s.visit ∧
      (completeWrite s).journal = s.journal ∧ (completeWrite s).upload = s.upload ∧
      (completeWrite s).profile = s.profile ∧ (completeWrite s).events = s.events ∧
      (completeWrite s).pending = s.pending ∧ (completeWrite s).path.state = s.path.state ∧
      (completeWrite s).path.stage = s.path.stage ∧ (completeWrite s).path.startKind = s.path.startKind ∧
      (completeWrite s).path.resetSeen = s.path.resetSeen ∧
      (completeWrite s).path.repairedConsumer = s.path.repairedConsumer ∧
      (completeWrite s).path.repairedTail = s.path.repairedTail ∧
      (completeWrite s).path.startReads = s.path.startReads := by
  simp [completeWrite]

/-- An upstream read that completes changes only the access. -/
@[simp] theorem completeRead_keeps (d : Word) (s : State) :
    (completeRead d s).store = s.store ∧ (completeRead d s).pins = s.pins ∧ (completeRead d s).engine = s.engine ∧
      (completeRead d s).calendar = s.calendar ∧ (completeRead d s).wand = s.wand ∧
      (completeRead d s).visit = s.visit ∧ (completeRead d s).journal = s.journal ∧
      (completeRead d s).upload = s.upload ∧ (completeRead d s).profile = s.profile ∧
      (completeRead d s).events = s.events ∧ (completeRead d s).pending = s.pending ∧
      (completeRead d s).path.state = s.path.state ∧ (completeRead d s).path.stage = s.path.stage ∧
      (completeRead d s).path.startKind = s.path.startKind ∧ (completeRead d s).path.resetSeen = s.path.resetSeen ∧
      (completeRead d s).path.repairedConsumer = s.path.repairedConsumer ∧
      (completeRead d s).path.repairedTail = s.path.repairedTail ∧
      (completeRead d s).path.startReads = s.path.startReads := by
  simp [completeRead]

/-- An access held changes only the access. -/
@[simp] theorem hold_keeps (a : Access) (why : Hold) (s : State) :
    (hold a why s).store = s.store ∧ (hold a why s).pins = s.pins ∧ (hold a why s).engine = s.engine ∧
      (hold a why s).calendar = s.calendar ∧ (hold a why s).wand = s.wand ∧ (hold a why s).visit = s.visit ∧
      (hold a why s).journal = s.journal ∧ (hold a why s).upload = s.upload ∧ (hold a why s).profile = s.profile ∧
      (hold a why s).events = s.events ∧ (hold a why s).pending = s.pending ∧
      (hold a why s).path.state = s.path.state ∧ (hold a why s).path.stage = s.path.stage ∧
      (hold a why s).path.startKind = s.path.startKind ∧ (hold a why s).path.resetSeen = s.path.resetSeen ∧
      (hold a why s).path.repairedConsumer = s.path.repairedConsumer ∧
      (hold a why s).path.repairedTail = s.path.repairedTail ∧ (hold a why s).path.startReads = s.path.startReads ∧
      (hold a why s).path.completion = s.path.completion := by
  simp [hold]

/-- An access forwarded changes only the access. -/
@[simp] theorem forward_keeps (a : Access) (s : State) :
    (forward a s).store = s.store ∧ (forward a s).pins = s.pins ∧ (forward a s).engine = s.engine ∧
      (forward a s).calendar = s.calendar ∧ (forward a s).wand = s.wand ∧ (forward a s).visit = s.visit ∧
      (forward a s).journal = s.journal ∧ (forward a s).upload = s.upload ∧ (forward a s).profile = s.profile ∧
      (forward a s).events = s.events ∧ (forward a s).pending = s.pending ∧ (forward a s).path.state = s.path.state ∧
      (forward a s).path.stage = s.path.stage ∧ (forward a s).path.startKind = s.path.startKind ∧
      (forward a s).path.resetSeen = s.path.resetSeen ∧
      (forward a s).path.repairedConsumer = s.path.repairedConsumer ∧
      (forward a s).path.repairedTail = s.path.repairedTail ∧ (forward a s).path.startReads = s.path.startReads ∧
      (forward a s).path.completion = s.path.completion := by
  simp [forward]

/-- A write rewritten changes only the access. -/
@[simp] theorem rewrite_keeps (a : Access) (d : Word) (s : State) :
    (rewrite a d s).store = s.store ∧ (rewrite a d s).pins = s.pins ∧ (rewrite a d s).engine = s.engine ∧
      (rewrite a d s).calendar = s.calendar ∧ (rewrite a d s).wand = s.wand ∧ (rewrite a d s).visit = s.visit ∧
      (rewrite a d s).journal = s.journal ∧ (rewrite a d s).upload = s.upload ∧ (rewrite a d s).profile = s.profile ∧
      (rewrite a d s).events = s.events ∧ (rewrite a d s).pending = s.pending ∧
      (rewrite a d s).path.state = s.path.state ∧ (rewrite a d s).path.stage = s.path.stage ∧
      (rewrite a d s).path.startKind = s.path.startKind ∧ (rewrite a d s).path.resetSeen = s.path.resetSeen ∧
      (rewrite a d s).path.repairedConsumer = s.path.repairedConsumer ∧
      (rewrite a d s).path.repairedTail = s.path.repairedTail ∧ (rewrite a d s).path.startReads = s.path.startReads ∧
      (rewrite a d s).path.completion = s.path.completion := by
  simp [rewrite]

/-! ### Events and tones -/

/-- A stamp updated changes only the events and its mirror. -/
@[simp] theorem stampEvent_keeps (k d : Nat) (s : State) :
    (stampEvent k d s).store = s.store ∧ (stampEvent k d s).pins = s.pins ∧ (stampEvent k d s).engine = s.engine ∧
      (stampEvent k d s).calendar = s.calendar ∧ (stampEvent k d s).wand = s.wand ∧
      (stampEvent k d s).visit = s.visit ∧ (stampEvent k d s).journal = s.journal ∧
      (stampEvent k d s).upload = s.upload ∧ (stampEvent k d s).profile = s.profile ∧
      (stampEvent k d s).pending = s.pending ∧ (stampEvent k d s).path.state = s.path.state ∧
      (stampEvent k d s).path.stage = s.path.stage ∧ (stampEvent k d s).path.startKind = s.path.startKind ∧
      (stampEvent k d s).path.resetSeen = s.path.resetSeen ∧
      (stampEvent k d s).path.repairedConsumer = s.path.repairedConsumer ∧
      (stampEvent k d s).path.repairedTail = s.path.repairedTail ∧
      (stampEvent k d s).path.startReads = s.path.startReads ∧ (stampEvent k d s).path.upstream = s.path.upstream ∧
      (stampEvent k d s).path.completion = s.path.completion := by
  simp [stampEvent]

/-- An event raised changes only the events and a mirror. -/
@[simp] theorem raise_keeps (e : Event) (d : Nat) (s : State) :
    (raise e d s).store = s.store ∧ (raise e d s).pins = s.pins ∧ (raise e d s).engine = s.engine ∧
      (raise e d s).calendar = s.calendar ∧ (raise e d s).wand = s.wand ∧ (raise e d s).visit = s.visit ∧
      (raise e d s).journal = s.journal ∧ (raise e d s).upload = s.upload ∧ (raise e d s).profile = s.profile ∧
      (raise e d s).pending = s.pending ∧ (raise e d s).path.state = s.path.state ∧
      (raise e d s).path.stage = s.path.stage ∧ (raise e d s).path.startKind = s.path.startKind ∧
      (raise e d s).path.resetSeen = s.path.resetSeen ∧
      (raise e d s).path.repairedConsumer = s.path.repairedConsumer ∧
      (raise e d s).path.repairedTail = s.path.repairedTail ∧ (raise e d s).path.startReads = s.path.startReads ∧
      (raise e d s).path.upstream = s.path.upstream ∧ (raise e d s).path.completion = s.path.completion := by
  unfold raise
  cases e <;> simp [Event.record]

/-- Events raised in one act change only the events and mirrors. -/
@[simp] theorem raiseAll_keeps (es : List Event) (s : State) :
    (raiseAll es s).store = s.store ∧ (raiseAll es s).pins = s.pins ∧ (raiseAll es s).engine = s.engine ∧
      (raiseAll es s).calendar = s.calendar ∧ (raiseAll es s).wand = s.wand ∧ (raiseAll es s).visit = s.visit ∧
      (raiseAll es s).journal = s.journal ∧ (raiseAll es s).upload = s.upload ∧ (raiseAll es s).profile = s.profile ∧
      (raiseAll es s).pending = s.pending ∧ (raiseAll es s).path.state = s.path.state ∧
      (raiseAll es s).path.stage = s.path.stage ∧ (raiseAll es s).path.startKind = s.path.startKind ∧
      (raiseAll es s).path.resetSeen = s.path.resetSeen ∧
      (raiseAll es s).path.repairedConsumer = s.path.repairedConsumer ∧
      (raiseAll es s).path.repairedTail = s.path.repairedTail ∧ (raiseAll es s).path.startReads = s.path.startReads ∧
      (raiseAll es s).path.upstream = s.path.upstream ∧ (raiseAll es s).path.completion = s.path.completion := by
  unfold raiseAll
  induction es generalizing s with
  | nil => simp
  | cons e es ih => simp [ih (raise e 0 s)]

/-- BAD_REQUEST changes only the events and its mirror. -/
@[simp] theorem badRequest_keeps (a : Addr) (s : State) :
    (badRequest a s).store = s.store ∧ (badRequest a s).pins = s.pins ∧ (badRequest a s).engine = s.engine ∧
      (badRequest a s).calendar = s.calendar ∧ (badRequest a s).wand = s.wand ∧ (badRequest a s).visit = s.visit ∧
      (badRequest a s).journal = s.journal ∧ (badRequest a s).upload = s.upload ∧
      (badRequest a s).profile = s.profile ∧ (badRequest a s).pending = s.pending ∧
      (badRequest a s).path.state = s.path.state ∧ (badRequest a s).path.stage = s.path.stage ∧
      (badRequest a s).path.startKind = s.path.startKind ∧ (badRequest a s).path.resetSeen = s.path.resetSeen ∧
      (badRequest a s).path.repairedConsumer = s.path.repairedConsumer ∧
      (badRequest a s).path.repairedTail = s.path.repairedTail ∧
      (badRequest a s).path.startReads = s.path.startReads ∧ (badRequest a s).path.upstream = s.path.upstream ∧
      (badRequest a s).path.completion = s.path.completion := by
  simp [badRequest]

/-- CLEAR_STAMPS changes only the events and their mirrors. -/
@[simp] theorem clearStamps_keeps (s : State) :
    (clearStamps s).store = s.store ∧ (clearStamps s).pins = s.pins ∧ (clearStamps s).engine = s.engine ∧
      (clearStamps s).calendar = s.calendar ∧ (clearStamps s).wand = s.wand ∧ (clearStamps s).visit = s.visit ∧
      (clearStamps s).journal = s.journal ∧ (clearStamps s).upload = s.upload ∧ (clearStamps s).profile = s.profile ∧
      (clearStamps s).pending = s.pending ∧ (clearStamps s).path.state = s.path.state ∧
      (clearStamps s).path.stage = s.path.stage ∧ (clearStamps s).path.startKind = s.path.startKind ∧
      (clearStamps s).path.resetSeen = s.path.resetSeen ∧
      (clearStamps s).path.repairedConsumer = s.path.repairedConsumer ∧
      (clearStamps s).path.repairedTail = s.path.repairedTail ∧ (clearStamps s).path.startReads = s.path.startReads ∧
      (clearStamps s).path.upstream = s.path.upstream ∧ (clearStamps s).path.completion = s.path.completion := by
  simp [clearStamps]

/-- A sounder that falls silent changes only the events. -/
@[simp] theorem silenceSounder_keeps (s : State) :
    (silenceSounder s).store = s.store ∧ (silenceSounder s).pins = s.pins ∧ (silenceSounder s).path = s.path ∧
      (silenceSounder s).engine = s.engine ∧ (silenceSounder s).calendar = s.calendar ∧
      (silenceSounder s).wand = s.wand ∧ (silenceSounder s).visit = s.visit ∧
      (silenceSounder s).journal = s.journal ∧ (silenceSounder s).upload = s.upload ∧
      (silenceSounder s).profile = s.profile ∧ (silenceSounder s).pending = s.pending := by
  simp [silenceSounder]

/-- A tone request changes only the events. -/
@[simp] theorem requestTone_keeps (p : Pattern) (s : State) :
    (requestTone p s).store = s.store ∧ (requestTone p s).pins = s.pins ∧ (requestTone p s).path = s.path ∧
      (requestTone p s).engine = s.engine ∧ (requestTone p s).calendar = s.calendar ∧
      (requestTone p s).wand = s.wand ∧ (requestTone p s).visit = s.visit ∧ (requestTone p s).journal = s.journal ∧
      (requestTone p s).upload = s.upload ∧ (requestTone p s).profile = s.profile ∧
      (requestTone p s).pending = s.pending := by
  unfold requestTone
  split <;> simp

/-- A tone request that need not be there changes only the events. -/
@[simp] theorem requestToneIf_keeps (p : Option Pattern) (s : State) :
    (requestToneIf p s).store = s.store ∧ (requestToneIf p s).pins = s.pins ∧ (requestToneIf p s).path = s.path ∧
      (requestToneIf p s).engine = s.engine ∧ (requestToneIf p s).calendar = s.calendar ∧
      (requestToneIf p s).wand = s.wand ∧ (requestToneIf p s).visit = s.visit ∧
      (requestToneIf p s).journal = s.journal ∧ (requestToneIf p s).upload = s.upload ∧
      (requestToneIf p s).profile = s.profile ∧ (requestToneIf p s).pending = s.pending := by
  cases p <;> simp [requestToneIf]

/-- The end of a segment changes only the events. -/
@[simp] theorem nextSegment_keeps (s : State) :
    (nextSegment s).store = s.store ∧ (nextSegment s).pins = s.pins ∧ (nextSegment s).path = s.path ∧
      (nextSegment s).engine = s.engine ∧ (nextSegment s).calendar = s.calendar ∧ (nextSegment s).wand = s.wand ∧
      (nextSegment s).visit = s.visit ∧ (nextSegment s).journal = s.journal ∧ (nextSegment s).upload = s.upload ∧
      (nextSegment s).profile = s.profile ∧ (nextSegment s).pending = s.pending := by
  unfold nextSegment
  split
  · split <;> simp
  · simp

/-! ### Reports -/

/-- A report of the visit word changes only the queue or the line. -/
@[simp] theorem reportVisit_keeps (b : State) (s : State) :
    (reportVisit b s).store = s.store ∧ (reportVisit b s).pins = s.pins ∧ (reportVisit b s).engine = s.engine ∧
      (reportVisit b s).calendar = s.calendar ∧ (reportVisit b s).wand = s.wand ∧ (reportVisit b s).visit = s.visit ∧
      (reportVisit b s).journal = s.journal ∧ (reportVisit b s).upload = s.upload ∧
      (reportVisit b s).profile = s.profile ∧ (reportVisit b s).events = s.events ∧
      (reportVisit b s).pending = s.pending ∧ (reportVisit b s).path.state = s.path.state ∧
      (reportVisit b s).path.stage = s.path.stage ∧ (reportVisit b s).path.startKind = s.path.startKind ∧
      (reportVisit b s).path.resetSeen = s.path.resetSeen ∧
      (reportVisit b s).path.repairedConsumer = s.path.repairedConsumer ∧
      (reportVisit b s).path.repairedTail = s.path.repairedTail ∧
      (reportVisit b s).path.startReads = s.path.startReads ∧ (reportVisit b s).path.upstream = s.path.upstream ∧
      (reportVisit b s).path.completion = s.path.completion := by
  unfold reportVisit
  split <;> simp

/-- A report of the upload word changes only the queue or the line. -/
@[simp] theorem reportUpload_keeps (b : State) (s : State) :
    (reportUpload b s).store = s.store ∧ (reportUpload b s).pins = s.pins ∧ (reportUpload b s).engine = s.engine ∧
      (reportUpload b s).calendar = s.calendar ∧ (reportUpload b s).wand = s.wand ∧
      (reportUpload b s).visit = s.visit ∧ (reportUpload b s).journal = s.journal ∧
      (reportUpload b s).upload = s.upload ∧ (reportUpload b s).profile = s.profile ∧
      (reportUpload b s).events = s.events ∧ (reportUpload b s).pending = s.pending ∧
      (reportUpload b s).path.state = s.path.state ∧ (reportUpload b s).path.stage = s.path.stage ∧
      (reportUpload b s).path.startKind = s.path.startKind ∧ (reportUpload b s).path.resetSeen = s.path.resetSeen ∧
      (reportUpload b s).path.repairedConsumer = s.path.repairedConsumer ∧
      (reportUpload b s).path.repairedTail = s.path.repairedTail ∧
      (reportUpload b s).path.startReads = s.path.startReads ∧ (reportUpload b s).path.upstream = s.path.upstream ∧
      (reportUpload b s).path.completion = s.path.completion := by
  unfold reportUpload
  split <;> simp

/-- A report of the profile word changes only the queue or the line. -/
@[simp] theorem reportProfile_keeps (b : State) (s : State) :
    (reportProfile b s).store = s.store ∧ (reportProfile b s).pins = s.pins ∧ (reportProfile b s).engine = s.engine ∧
      (reportProfile b s).calendar = s.calendar ∧ (reportProfile b s).wand = s.wand ∧
      (reportProfile b s).visit = s.visit ∧ (reportProfile b s).journal = s.journal ∧
      (reportProfile b s).upload = s.upload ∧ (reportProfile b s).profile = s.profile ∧
      (reportProfile b s).events = s.events ∧ (reportProfile b s).pending = s.pending ∧
      (reportProfile b s).path.state = s.path.state ∧ (reportProfile b s).path.stage = s.path.stage ∧
      (reportProfile b s).path.startKind = s.path.startKind ∧ (reportProfile b s).path.resetSeen = s.path.resetSeen ∧
      (reportProfile b s).path.repairedConsumer = s.path.repairedConsumer ∧
      (reportProfile b s).path.repairedTail = s.path.repairedTail ∧
      (reportProfile b s).path.startReads = s.path.startReads ∧ (reportProfile b s).path.upstream = s.path.upstream ∧
      (reportProfile b s).path.completion = s.path.completion := by
  unfold reportProfile
  split <;> simp

/-- A report of the wand counts changes only the queue or the line. -/
@[simp] theorem reportWandCounts_keeps (s : State) :
    (reportWandCounts s).store = s.store ∧ (reportWandCounts s).pins = s.pins ∧
      (reportWandCounts s).engine = s.engine ∧ (reportWandCounts s).calendar = s.calendar ∧
      (reportWandCounts s).wand = s.wand ∧ (reportWandCounts s).visit = s.visit ∧
      (reportWandCounts s).journal = s.journal ∧ (reportWandCounts s).upload = s.upload ∧
      (reportWandCounts s).profile = s.profile ∧ (reportWandCounts s).events = s.events ∧
      (reportWandCounts s).pending = s.pending ∧ (reportWandCounts s).path.state = s.path.state ∧
      (reportWandCounts s).path.stage = s.path.stage ∧ (reportWandCounts s).path.startKind = s.path.startKind ∧
      (reportWandCounts s).path.resetSeen = s.path.resetSeen ∧
      (reportWandCounts s).path.repairedConsumer = s.path.repairedConsumer ∧
      (reportWandCounts s).path.repairedTail = s.path.repairedTail ∧
      (reportWandCounts s).path.startReads = s.path.startReads ∧
      (reportWandCounts s).path.upstream = s.path.upstream ∧
      (reportWandCounts s).path.completion = s.path.completion := by
  simp [reportWandCounts]

/-- The clock mirror changes only the queue or the line. -/
@[simp] theorem writeClockMirror_keeps (s : State) :
    (writeClockMirror s).store = s.store ∧ (writeClockMirror s).pins = s.pins ∧
      (writeClockMirror s).engine = s.engine ∧ (writeClockMirror s).calendar = s.calendar ∧
      (writeClockMirror s).wand = s.wand ∧ (writeClockMirror s).visit = s.visit ∧
      (writeClockMirror s).journal = s.journal ∧ (writeClockMirror s).upload = s.upload ∧
      (writeClockMirror s).profile = s.profile ∧ (writeClockMirror s).events = s.events ∧
      (writeClockMirror s).pending = s.pending ∧ (writeClockMirror s).path.state = s.path.state ∧
      (writeClockMirror s).path.stage = s.path.stage ∧ (writeClockMirror s).path.startKind = s.path.startKind ∧
      (writeClockMirror s).path.resetSeen = s.path.resetSeen ∧
      (writeClockMirror s).path.repairedConsumer = s.path.repairedConsumer ∧
      (writeClockMirror s).path.repairedTail = s.path.repairedTail ∧
      (writeClockMirror s).path.startReads = s.path.startReads ∧
      (writeClockMirror s).path.upstream = s.path.upstream ∧
      (writeClockMirror s).path.completion = s.path.completion := by
  unfold writeClockMirror
  split <;> simp

/-- STATUS w10 and w14 change the Visit Unit, which keeps them, and the queue or the line. -/
@[simp] theorem writePatronStatus_keeps (o : GroupOwner) (a b : Word) (s : State) :
    (writePatronStatus o a b s).store = s.store ∧ (writePatronStatus o a b s).pins = s.pins ∧
      (writePatronStatus o a b s).engine = s.engine ∧ (writePatronStatus o a b s).calendar = s.calendar ∧
      (writePatronStatus o a b s).wand = s.wand ∧ (writePatronStatus o a b s).journal = s.journal ∧
      (writePatronStatus o a b s).upload = s.upload ∧ (writePatronStatus o a b s).profile = s.profile ∧
      (writePatronStatus o a b s).events = s.events ∧ (writePatronStatus o a b s).pending = s.pending ∧
      (writePatronStatus o a b s).path.state = s.path.state ∧ (writePatronStatus o a b s).path.stage = s.path.stage ∧
      (writePatronStatus o a b s).path.startKind = s.path.startKind ∧
      (writePatronStatus o a b s).path.resetSeen = s.path.resetSeen ∧
      (writePatronStatus o a b s).path.repairedConsumer = s.path.repairedConsumer ∧
      (writePatronStatus o a b s).path.repairedTail = s.path.repairedTail ∧
      (writePatronStatus o a b s).path.startReads = s.path.startReads ∧
      (writePatronStatus o a b s).path.upstream = s.path.upstream ∧
      (writePatronStatus o a b s).path.completion = s.path.completion := by
  simp [writePatronStatus]

/-! ### The sweep record -/

/-- The sweep record belongs to the engine. -/
@[simp] theorem setSweep_keeps (sw : Sweep) (s : State) :
    (setSweep sw s).store = s.store ∧ (setSweep sw s).pins = s.pins ∧ (setSweep sw s).path = s.path ∧
      (setSweep sw s).calendar = s.calendar ∧ (setSweep sw s).wand = s.wand ∧ (setSweep sw s).visit = s.visit ∧
      (setSweep sw s).journal = s.journal ∧ (setSweep sw s).upload = s.upload ∧ (setSweep sw s).profile = s.profile ∧
      (setSweep sw s).events = s.events ∧ (setSweep sw s).pending = s.pending := by
  simp [setSweep]

/-- The end of a sweep changes the engine, the events and a mirror. -/
@[simp] theorem sweepEnd_keeps (s : State) :
    (sweepEnd s).store = s.store ∧ (sweepEnd s).pins = s.pins ∧ (sweepEnd s).calendar = s.calendar ∧
      (sweepEnd s).wand = s.wand ∧ (sweepEnd s).visit = s.visit ∧ (sweepEnd s).journal = s.journal ∧
      (sweepEnd s).upload = s.upload ∧ (sweepEnd s).profile = s.profile ∧ (sweepEnd s).pending = s.pending ∧
      (sweepEnd s).path.state = s.path.state ∧ (sweepEnd s).path.stage = s.path.stage ∧
      (sweepEnd s).path.startKind = s.path.startKind ∧ (sweepEnd s).path.resetSeen = s.path.resetSeen ∧
      (sweepEnd s).path.repairedConsumer = s.path.repairedConsumer ∧
      (sweepEnd s).path.repairedTail = s.path.repairedTail ∧ (sweepEnd s).path.startReads = s.path.startReads ∧
      (sweepEnd s).path.upstream = s.path.upstream ∧ (sweepEnd s).path.completion = s.path.completion := by
  simp [sweepEnd]

/-- The same when the cursor has reached the slot count. -/
@[simp] theorem endIfDone_keeps (s : State) :
    (endIfDone s).store = s.store ∧ (endIfDone s).pins = s.pins ∧ (endIfDone s).calendar = s.calendar ∧
      (endIfDone s).wand = s.wand ∧ (endIfDone s).visit = s.visit ∧ (endIfDone s).journal = s.journal ∧
      (endIfDone s).upload = s.upload ∧ (endIfDone s).profile = s.profile ∧ (endIfDone s).pending = s.pending ∧
      (endIfDone s).path.state = s.path.state ∧ (endIfDone s).path.stage = s.path.stage ∧
      (endIfDone s).path.startKind = s.path.startKind ∧ (endIfDone s).path.resetSeen = s.path.resetSeen ∧
      (endIfDone s).path.repairedConsumer = s.path.repairedConsumer ∧
      (endIfDone s).path.repairedTail = s.path.repairedTail ∧ (endIfDone s).path.startReads = s.path.startReads ∧
      (endIfDone s).path.upstream = s.path.upstream ∧ (endIfDone s).path.completion = s.path.completion := by
  unfold endIfDone
  split <;> simp

/-- A sweep started changes the engine, and what its end changes. -/
@[simp] theorem sweepBegin_keeps (t : Option Instant) (r : Bool) (s : State) :
    (sweepBegin t r s).store = s.store ∧ (sweepBegin t r s).pins = s.pins ∧
      (sweepBegin t r s).calendar = s.calendar ∧ (sweepBegin t r s).wand = s.wand ∧
      (sweepBegin t r s).visit = s.visit ∧ (sweepBegin t r s).journal = s.journal ∧
      (sweepBegin t r s).upload = s.upload ∧ (sweepBegin t r s).profile = s.profile ∧
      (sweepBegin t r s).pending = s.pending ∧ (sweepBegin t r s).path.state = s.path.state ∧
      (sweepBegin t r s).path.stage = s.path.stage ∧ (sweepBegin t r s).path.startKind = s.path.startKind ∧
      (sweepBegin t r s).path.resetSeen = s.path.resetSeen ∧
      (sweepBegin t r s).path.repairedConsumer = s.path.repairedConsumer ∧
      (sweepBegin t r s).path.repairedTail = s.path.repairedTail ∧
      (sweepBegin t r s).path.startReads = s.path.startReads ∧ (sweepBegin t r s).path.upstream = s.path.upstream ∧
      (sweepBegin t r s).path.completion = s.path.completion := by
  simp [sweepBegin]

/-- The same of a sweep restarted. -/
@[simp] theorem sweepRestart_keeps (t : Option Instant) (s : State) :
    (sweepRestart t s).store = s.store ∧ (sweepRestart t s).pins = s.pins ∧
      (sweepRestart t s).calendar = s.calendar ∧ (sweepRestart t s).wand = s.wand ∧
      (sweepRestart t s).visit = s.visit ∧ (sweepRestart t s).journal = s.journal ∧
      (sweepRestart t s).upload = s.upload ∧ (sweepRestart t s).profile = s.profile ∧
      (sweepRestart t s).pending = s.pending ∧ (sweepRestart t s).path.state = s.path.state ∧
      (sweepRestart t s).path.stage = s.path.stage ∧ (sweepRestart t s).path.startKind = s.path.startKind ∧
      (sweepRestart t s).path.resetSeen = s.path.resetSeen ∧
      (sweepRestart t s).path.repairedConsumer = s.path.repairedConsumer ∧
      (sweepRestart t s).path.repairedTail = s.path.repairedTail ∧
      (sweepRestart t s).path.startReads = s.path.startReads ∧ (sweepRestart t s).path.upstream = s.path.upstream ∧
      (sweepRestart t s).path.completion = s.path.completion := by
  simp [sweepRestart]

/-- A rollover notice changes what a sweep started changes. -/
@[simp] theorem sendNotice_keeps (i : Instant) (s : State) :
    (sendNotice i s).store = s.store ∧ (sendNotice i s).pins = s.pins ∧ (sendNotice i s).calendar = s.calendar ∧
      (sendNotice i s).wand = s.wand ∧ (sendNotice i s).visit = s.visit ∧ (sendNotice i s).journal = s.journal ∧
      (sendNotice i s).upload = s.upload ∧ (sendNotice i s).profile = s.profile ∧
      (sendNotice i s).pending = s.pending ∧ (sendNotice i s).path.state = s.path.state ∧
      (sendNotice i s).path.stage = s.path.stage ∧ (sendNotice i s).path.startKind = s.path.startKind ∧
      (sendNotice i s).path.resetSeen = s.path.resetSeen ∧
      (sendNotice i s).path.repairedConsumer = s.path.repairedConsumer ∧
      (sendNotice i s).path.repairedTail = s.path.repairedTail ∧
      (sendNotice i s).path.startReads = s.path.startReads ∧ (sendNotice i s).path.upstream = s.path.upstream ∧
      (sendNotice i s).path.completion = s.path.completion := by
  unfold sendNotice rolloverNotice
  split
  · split <;> simp
  · simp

/-- The same of the recovery pass. -/
@[simp] theorem recoveryPass_keeps (s : State) :
    (recoveryPass s).store = s.store ∧ (recoveryPass s).pins = s.pins ∧ (recoveryPass s).calendar = s.calendar ∧
      (recoveryPass s).wand = s.wand ∧ (recoveryPass s).visit = s.visit ∧ (recoveryPass s).journal = s.journal ∧
      (recoveryPass s).upload = s.upload ∧ (recoveryPass s).profile = s.profile ∧
      (recoveryPass s).pending = s.pending ∧ (recoveryPass s).path.state = s.path.state ∧
      (recoveryPass s).path.stage = s.path.stage ∧ (recoveryPass s).path.startKind = s.path.startKind ∧
      (recoveryPass s).path.resetSeen = s.path.resetSeen ∧
      (recoveryPass s).path.repairedConsumer = s.path.repairedConsumer ∧
      (recoveryPass s).path.repairedTail = s.path.repairedTail ∧
      (recoveryPass s).path.startReads = s.path.startReads ∧ (recoveryPass s).path.upstream = s.path.upstream ∧
      (recoveryPass s).path.completion = s.path.completion := by
  simp [recoveryPass]

/-- A sweep stopped changes only the engine. -/
@[simp] theorem sweepStop_keeps (s : State) :
    (sweepStop s).store = s.store ∧ (sweepStop s).pins = s.pins ∧ (sweepStop s).path = s.path ∧
      (sweepStop s).calendar = s.calendar ∧ (sweepStop s).wand = s.wand ∧ (sweepStop s).visit = s.visit ∧
      (sweepStop s).journal = s.journal ∧ (sweepStop s).upload = s.upload ∧ (sweepStop s).profile = s.profile ∧
      (sweepStop s).events = s.events ∧ (sweepStop s).pending = s.pending := by
  unfold sweepStop
  split <;> simp

/-- Free journal room changes only the engine. -/
@[simp] theorem reportRoom_keeps (s : State) :
    (reportRoom s).store = s.store ∧ (reportRoom s).pins = s.pins ∧ (reportRoom s).path = s.path ∧
      (reportRoom s).calendar = s.calendar ∧ (reportRoom s).wand = s.wand ∧ (reportRoom s).visit = s.visit ∧
      (reportRoom s).journal = s.journal ∧ (reportRoom s).upload = s.upload ∧ (reportRoom s).profile = s.profile ∧
      (reportRoom s).events = s.events ∧ (reportRoom s).pending = s.pending := by
  unfold reportRoom
  split <;> simp

/-! ### The journal -/

/-- The low mark changes the journal and the events. -/
@[simp] theorem judgeLow_keeps (s : State) :
    (judgeLow s).store = s.store ∧ (judgeLow s).pins = s.pins ∧ (judgeLow s).engine = s.engine ∧
      (judgeLow s).calendar = s.calendar ∧ (judgeLow s).wand = s.wand ∧ (judgeLow s).visit = s.visit ∧
      (judgeLow s).upload = s.upload ∧ (judgeLow s).profile = s.profile ∧ (judgeLow s).pending = s.pending ∧
      (judgeLow s).path.state = s.path.state ∧ (judgeLow s).path.stage = s.path.stage ∧
      (judgeLow s).path.startKind = s.path.startKind ∧ (judgeLow s).path.resetSeen = s.path.resetSeen ∧
      (judgeLow s).path.repairedConsumer = s.path.repairedConsumer ∧
      (judgeLow s).path.repairedTail = s.path.repairedTail ∧ (judgeLow s).path.startReads = s.path.startReads ∧
      (judgeLow s).path.upstream = s.path.upstream ∧ (judgeLow s).path.completion = s.path.completion := by
  unfold judgeLow
  split
  · split <;> simp
  · simp

/-- A loss counted changes only the journal. -/
@[simp] theorem countLoss_keeps (s : State) :
    (countLoss s).store = s.store ∧ (countLoss s).pins = s.pins ∧ (countLoss s).path = s.path ∧
      (countLoss s).engine = s.engine ∧ (countLoss s).calendar = s.calendar ∧ (countLoss s).wand = s.wand ∧
      (countLoss s).visit = s.visit ∧ (countLoss s).upload = s.upload ∧ (countLoss s).profile = s.profile ∧
      (countLoss s).events = s.events ∧ (countLoss s).pending = s.pending := by
  simp [countLoss]

/-- The head belongs to the journal. -/
@[simp] theorem advanceHead_keeps (s : State) :
    (advanceHead s).store = s.store ∧ (advanceHead s).pins = s.pins ∧ (advanceHead s).path = s.path ∧
      (advanceHead s).engine = s.engine ∧ (advanceHead s).calendar = s.calendar ∧ (advanceHead s).wand = s.wand ∧
      (advanceHead s).visit = s.visit ∧ (advanceHead s).upload = s.upload ∧ (advanceHead s).profile = s.profile ∧
      (advanceHead s).events = s.events ∧ (advanceHead s).pending = s.pending := by
  simp [advanceHead]

/-- A kept entry's group changes the queue, the journal and the events. -/
@[simp] theorem appendKept_keeps (e : JEntry) (ws : List QEntry) (s : State) :
    (appendKept e ws s).store = s.store ∧ (appendKept e ws s).pins = s.pins ∧ (appendKept e ws s).engine = s.engine ∧
      (appendKept e ws s).calendar = s.calendar ∧ (appendKept e ws s).wand = s.wand ∧
      (appendKept e ws s).visit = s.visit ∧ (appendKept e ws s).upload = s.upload ∧
      (appendKept e ws s).profile = s.profile ∧ (appendKept e ws s).pending = s.pending ∧
      (appendKept e ws s).path.state = s.path.state ∧ (appendKept e ws s).path.stage = s.path.stage ∧
      (appendKept e ws s).path.startKind = s.path.startKind ∧ (appendKept e ws s).path.resetSeen = s.path.resetSeen ∧
      (appendKept e ws s).path.repairedConsumer = s.path.repairedConsumer ∧
      (appendKept e ws s).path.repairedTail = s.path.repairedTail ∧
      (appendKept e ws s).path.startReads = s.path.startReads ∧ (appendKept e ws s).path.upstream = s.path.upstream ∧
      (appendKept e ws s).path.completion = s.path.completion := by
  simp [appendKept]

/-- A lost entry's group changes the queue, the journal and the events. -/
@[simp] theorem appendLost_keeps (ws : List QEntry) (s : State) :
    (appendLost ws s).store = s.store ∧ (appendLost ws s).pins = s.pins ∧ (appendLost ws s).engine = s.engine ∧
      (appendLost ws s).calendar = s.calendar ∧ (appendLost ws s).wand = s.wand ∧ (appendLost ws s).visit = s.visit ∧
      (appendLost ws s).upload = s.upload ∧ (appendLost ws s).profile = s.profile ∧
      (appendLost ws s).pending = s.pending ∧ (appendLost ws s).path.state = s.path.state ∧
      (appendLost ws s).path.stage = s.path.stage ∧ (appendLost ws s).path.startKind = s.path.startKind ∧
      (appendLost ws s).path.resetSeen = s.path.resetSeen ∧
      (appendLost ws s).path.repairedConsumer = s.path.repairedConsumer ∧
      (appendLost ws s).path.repairedTail = s.path.repairedTail ∧
      (appendLost ws s).path.startReads = s.path.startReads ∧ (appendLost ws s).path.upstream = s.path.upstream ∧
      (appendLost ws s).path.completion = s.path.completion := by
  simp [appendLost]

/-- A system entry changes the journal, the line, and the events when it is lost. -/
@[simp] theorem systemEntry_keeps (e : JEntry) (s : State) :
    (systemEntry e s).store = s.store ∧ (systemEntry e s).pins = s.pins ∧ (systemEntry e s).engine = s.engine ∧
      (systemEntry e s).calendar = s.calendar ∧ (systemEntry e s).wand = s.wand ∧ (systemEntry e s).visit = s.visit ∧
      (systemEntry e s).upload = s.upload ∧ (systemEntry e s).profile = s.profile ∧
      (systemEntry e s).pending = s.pending ∧ (systemEntry e s).path.state = s.path.state ∧
      (systemEntry e s).path.stage = s.path.stage ∧ (systemEntry e s).path.startKind = s.path.startKind ∧
      (systemEntry e s).path.resetSeen = s.path.resetSeen ∧
      (systemEntry e s).path.repairedConsumer = s.path.repairedConsumer ∧
      (systemEntry e s).path.repairedTail = s.path.repairedTail ∧
      (systemEntry e s).path.startReads = s.path.startReads ∧ (systemEntry e s).path.upstream = s.path.upstream ∧
      (systemEntry e s).path.completion = s.path.completion := by
  unfold systemEntry
  split <;> simp

/-- The head of the system queue appended changes the queue, the journal and the events. -/
@[simp] theorem appendSystem_keeps (s : State) :
    (appendSystem s).store = s.store ∧ (appendSystem s).pins = s.pins ∧ (appendSystem s).engine = s.engine ∧
      (appendSystem s).calendar = s.calendar ∧ (appendSystem s).wand = s.wand ∧ (appendSystem s).visit = s.visit ∧
      (appendSystem s).upload = s.upload ∧ (appendSystem s).profile = s.profile ∧
      (appendSystem s).pending = s.pending ∧ (appendSystem s).path.state = s.path.state ∧
      (appendSystem s).path.stage = s.path.stage ∧ (appendSystem s).path.startKind = s.path.startKind ∧
      (appendSystem s).path.resetSeen = s.path.resetSeen ∧
      (appendSystem s).path.repairedConsumer = s.path.repairedConsumer ∧
      (appendSystem s).path.repairedTail = s.path.repairedTail ∧
      (appendSystem s).path.startReads = s.path.startReads ∧ (appendSystem s).path.upstream = s.path.upstream ∧
      (appendSystem s).path.completion = s.path.completion := by
  unfold appendSystem
  split
  · simp
  · simp only []
    split <;> simp

/-! ### The visit -/

/-- The idle timer belongs to the Visit Unit. -/
@[simp] theorem loadTimer_keeps (s : State) :
    (loadTimer s).store = s.store ∧ (loadTimer s).pins = s.pins ∧ (loadTimer s).path = s.path ∧
      (loadTimer s).engine = s.engine ∧ (loadTimer s).calendar = s.calendar ∧ (loadTimer s).wand = s.wand ∧
      (loadTimer s).journal = s.journal ∧ (loadTimer s).upload = s.upload ∧ (loadTimer s).profile = s.profile ∧
      (loadTimer s).events = s.events ∧ (loadTimer s).pending = s.pending := by
  simp [loadTimer]

/-- The same of its reload. -/
@[simp] theorem reloadTimer_keeps (s : State) :
    (reloadTimer s).store = s.store ∧ (reloadTimer s).pins = s.pins ∧ (reloadTimer s).path = s.path ∧
      (reloadTimer s).engine = s.engine ∧ (reloadTimer s).calendar = s.calendar ∧ (reloadTimer s).wand = s.wand ∧
      (reloadTimer s).journal = s.journal ∧ (reloadTimer s).upload = s.upload ∧ (reloadTimer s).profile = s.profile ∧
      (reloadTimer s).events = s.events ∧ (reloadTimer s).pending = s.pending := by
  unfold reloadTimer
  split <;> simp

/-- The copy of STATUS w0 belongs to the Visit Unit. -/
@[simp] theorem setPatronCopy_keeps (w : Word) (s : State) :
    (setPatronCopy w s).store = s.store ∧ (setPatronCopy w s).pins = s.pins ∧ (setPatronCopy w s).path = s.path ∧
      (setPatronCopy w s).engine = s.engine ∧ (setPatronCopy w s).calendar = s.calendar ∧
      (setPatronCopy w s).wand = s.wand ∧ (setPatronCopy w s).journal = s.journal ∧
      (setPatronCopy w s).upload = s.upload ∧ (setPatronCopy w s).profile = s.profile ∧
      (setPatronCopy w s).events = s.events ∧ (setPatronCopy w s).pending = s.pending := by
  simp [setPatronCopy]

/-- A slip asked for changes the Visit Unit, and the events when it is dropped. -/
@[simp] theorem askSlip_keeps (v : Visit) (c : Bool) (s : State) :
    (askSlip v c s).store = s.store ∧ (askSlip v c s).pins = s.pins ∧ (askSlip v c s).engine = s.engine ∧
      (askSlip v c s).calendar = s.calendar ∧ (askSlip v c s).wand = s.wand ∧ (askSlip v c s).journal = s.journal ∧
      (askSlip v c s).upload = s.upload ∧ (askSlip v c s).profile = s.profile ∧ (askSlip v c s).pending = s.pending ∧
      (askSlip v c s).path.state = s.path.state ∧ (askSlip v c s).path.stage = s.path.stage ∧
      (askSlip v c s).path.startKind = s.path.startKind ∧ (askSlip v c s).path.resetSeen = s.path.resetSeen ∧
      (askSlip v c s).path.repairedConsumer = s.path.repairedConsumer ∧
      (askSlip v c s).path.repairedTail = s.path.repairedTail ∧ (askSlip v c s).path.startReads = s.path.startReads ∧
      (askSlip v c s).path.upstream = s.path.upstream ∧ (askSlip v c s).path.completion = s.path.completion := by
  unfold askSlip
  split <;> simp

/-- The same under the slip enable. -/
@[simp] theorem askSlipIfEnabled_keeps (v : Visit) (c : Bool) (s : State) :
    (askSlipIfEnabled v c s).store = s.store ∧ (askSlipIfEnabled v c s).pins = s.pins ∧
      (askSlipIfEnabled v c s).engine = s.engine ∧ (askSlipIfEnabled v c s).calendar = s.calendar ∧
      (askSlipIfEnabled v c s).wand = s.wand ∧ (askSlipIfEnabled v c s).journal = s.journal ∧
      (askSlipIfEnabled v c s).upload = s.upload ∧ (askSlipIfEnabled v c s).profile = s.profile ∧
      (askSlipIfEnabled v c s).pending = s.pending ∧ (askSlipIfEnabled v c s).path.state = s.path.state ∧
      (askSlipIfEnabled v c s).path.stage = s.path.stage ∧
      (askSlipIfEnabled v c s).path.startKind = s.path.startKind ∧
      (askSlipIfEnabled v c s).path.resetSeen = s.path.resetSeen ∧
      (askSlipIfEnabled v c s).path.repairedConsumer = s.path.repairedConsumer ∧
      (askSlipIfEnabled v c s).path.repairedTail = s.path.repairedTail ∧
      (askSlipIfEnabled v c s).path.startReads = s.path.startReads ∧
      (askSlipIfEnabled v c s).path.upstream = s.path.upstream ∧
      (askSlipIfEnabled v c s).path.completion = s.path.completion := by
  unfold askSlipIfEnabled
  split <;> simp

/-- A printer that goes on changes the Visit Unit and the events. -/
@[simp] theorem startPrinter_keeps (s : State) :
    (startPrinter s).store = s.store ∧ (startPrinter s).pins = s.pins ∧ (startPrinter s).engine = s.engine ∧
      (startPrinter s).calendar = s.calendar ∧ (startPrinter s).wand = s.wand ∧
      (startPrinter s).journal = s.journal ∧ (startPrinter s).upload = s.upload ∧
      (startPrinter s).profile = s.profile ∧ (startPrinter s).pending = s.pending ∧
      (startPrinter s).path.state = s.path.state ∧ (startPrinter s).path.stage = s.path.stage ∧
      (startPrinter s).path.startKind = s.path.startKind ∧ (startPrinter s).path.resetSeen = s.path.resetSeen ∧
      (startPrinter s).path.repairedConsumer = s.path.repairedConsumer ∧
      (startPrinter s).path.repairedTail = s.path.repairedTail ∧
      (startPrinter s).path.startReads = s.path.startReads ∧ (startPrinter s).path.upstream = s.path.upstream ∧
      (startPrinter s).path.completion = s.path.completion := by
  unfold startPrinter
  split
  · split
    · simp
    · split <;> simp
  · simp

/-- The word a close writes changes the Visit Unit and the queue or the line. -/
@[simp] theorem closeWord_keeps (b : Bool) (s : State) :
    (closeWord b s).store = s.store ∧ (closeWord b s).pins = s.pins ∧ (closeWord b s).engine = s.engine ∧
      (closeWord b s).calendar = s.calendar ∧ (closeWord b s).wand = s.wand ∧ (closeWord b s).journal = s.journal ∧
      (closeWord b s).upload = s.upload ∧ (closeWord b s).profile = s.profile ∧ (closeWord b s).events = s.events ∧
      (closeWord b s).pending = s.pending ∧ (closeWord b s).path.state = s.path.state ∧
      (closeWord b s).path.stage = s.path.stage ∧ (closeWord b s).path.startKind = s.path.startKind ∧
      (closeWord b s).path.resetSeen = s.path.resetSeen ∧
      (closeWord b s).path.repairedConsumer = s.path.repairedConsumer ∧
      (closeWord b s).path.repairedTail = s.path.repairedTail ∧ (closeWord b s).path.startReads = s.path.startReads ∧
      (closeWord b s).path.upstream = s.path.upstream ∧ (closeWord b s).path.completion = s.path.completion := by
  unfold closeWord
  split <;> simp

/-- The visit record belongs to the Visit Unit. -/
@[simp] theorem clearVisit_keeps (s : State) :
    (clearVisit s).store = s.store ∧ (clearVisit s).pins = s.pins ∧ (clearVisit s).path = s.path ∧
      (clearVisit s).engine = s.engine ∧ (clearVisit s).calendar = s.calendar ∧ (clearVisit s).wand = s.wand ∧
      (clearVisit s).journal = s.journal ∧ (clearVisit s).upload = s.upload ∧ (clearVisit s).profile = s.profile ∧
      (clearVisit s).events = s.events ∧ (clearVisit s).pending = s.pending := by
  simp [clearVisit]

/-- A PATRON_OPEN entry changes only the engine. -/
@[simp] theorem queuePatronOpen_keeps (b : Nat) (s : State) :
    (queuePatronOpen b s).store = s.store ∧ (queuePatronOpen b s).pins = s.pins ∧
      (queuePatronOpen b s).path = s.path ∧ (queuePatronOpen b s).calendar = s.calendar ∧
      (queuePatronOpen b s).wand = s.wand ∧ (queuePatronOpen b s).visit = s.visit ∧
      (queuePatronOpen b s).journal = s.journal ∧ (queuePatronOpen b s).upload = s.upload ∧
      (queuePatronOpen b s).profile = s.profile ∧ (queuePatronOpen b s).events = s.events ∧
      (queuePatronOpen b s).pending = s.pending := by
  simp [queuePatronOpen]

/-- A visit opened changes the Visit Unit, the engine and the visit word. -/
@[simp] theorem openVisit_keeps (b : Nat) (s : State) :
    (openVisit b s).store = s.store ∧ (openVisit b s).pins = s.pins ∧ (openVisit b s).calendar = s.calendar ∧
      (openVisit b s).wand = s.wand ∧ (openVisit b s).journal = s.journal ∧ (openVisit b s).upload = s.upload ∧
      (openVisit b s).profile = s.profile ∧ (openVisit b s).events = s.events ∧ (openVisit b s).pending = s.pending ∧
      (openVisit b s).path.state = s.path.state ∧ (openVisit b s).path.stage = s.path.stage ∧
      (openVisit b s).path.startKind = s.path.startKind ∧ (openVisit b s).path.resetSeen = s.path.resetSeen ∧
      (openVisit b s).path.repairedConsumer = s.path.repairedConsumer ∧
      (openVisit b s).path.repairedTail = s.path.repairedTail ∧ (openVisit b s).path.startReads = s.path.startReads ∧
      (openVisit b s).path.upstream = s.path.upstream ∧ (openVisit b s).path.completion = s.path.completion := by
  simp [openVisit]

/-- The standing changes the Visit Unit and the visit word. -/
@[simp] theorem setStanding_keeps (st : Standing) (s : State) :
    (setStanding st s).store = s.store ∧ (setStanding st s).pins = s.pins ∧ (setStanding st s).engine = s.engine ∧
      (setStanding st s).calendar = s.calendar ∧ (setStanding st s).wand = s.wand ∧
      (setStanding st s).journal = s.journal ∧ (setStanding st s).upload = s.upload ∧
      (setStanding st s).profile = s.profile ∧ (setStanding st s).events = s.events ∧
      (setStanding st s).pending = s.pending ∧ (setStanding st s).path.state = s.path.state ∧
      (setStanding st s).path.stage = s.path.stage ∧ (setStanding st s).path.startKind = s.path.startKind ∧
      (setStanding st s).path.resetSeen = s.path.resetSeen ∧
      (setStanding st s).path.repairedConsumer = s.path.repairedConsumer ∧
      (setStanding st s).path.repairedTail = s.path.repairedTail ∧
      (setStanding st s).path.startReads = s.path.startReads ∧ (setStanding st s).path.upstream = s.path.upstream ∧
      (setStanding st s).path.completion = s.path.completion := by
  unfold setStanding
  split <;> simp

/-- A visit refreshed changes the Visit Unit, the engine and the visit word. -/
@[simp] theorem refreshVisit_keeps (b : Nat) (s : State) :
    (refreshVisit b s).store = s.store ∧ (refreshVisit b s).pins = s.pins ∧
      (refreshVisit b s).calendar = s.calendar ∧ (refreshVisit b s).wand = s.wand ∧
      (refreshVisit b s).journal = s.journal ∧ (refreshVisit b s).upload = s.upload ∧
      (refreshVisit b s).profile = s.profile ∧ (refreshVisit b s).events = s.events ∧
      (refreshVisit b s).pending = s.pending ∧ (refreshVisit b s).path.state = s.path.state ∧
      (refreshVisit b s).path.stage = s.path.stage ∧ (refreshVisit b s).path.startKind = s.path.startKind ∧
      (refreshVisit b s).path.resetSeen = s.path.resetSeen ∧
      (refreshVisit b s).path.repairedConsumer = s.path.repairedConsumer ∧
      (refreshVisit b s).path.repairedTail = s.path.repairedTail ∧
      (refreshVisit b s).path.startReads = s.path.startReads ∧ (refreshVisit b s).path.upstream = s.path.upstream ∧
      (refreshVisit b s).path.completion = s.path.completion := by
  simp [refreshVisit]

/-- A grant that joins the list changes the Visit Unit and the visit word. -/
@[simp] theorem appendGrant_keeps (e : SlipEntry) (b : Nat) (s : State) :
    (appendGrant e b s).store = s.store ∧ (appendGrant e b s).pins = s.pins ∧ (appendGrant e b s).engine = s.engine ∧
      (appendGrant e b s).calendar = s.calendar ∧ (appendGrant e b s).wand = s.wand ∧
      (appendGrant e b s).journal = s.journal ∧ (appendGrant e b s).upload = s.upload ∧
      (appendGrant e b s).profile = s.profile ∧ (appendGrant e b s).pending = s.pending ∧
      (appendGrant e b s).path.state = s.path.state ∧ (appendGrant e b s).path.stage = s.path.stage ∧
      (appendGrant e b s).path.startKind = s.path.startKind ∧ (appendGrant e b s).path.resetSeen = s.path.resetSeen ∧
      (appendGrant e b s).path.repairedConsumer = s.path.repairedConsumer ∧
      (appendGrant e b s).path.repairedTail = s.path.repairedTail ∧
      (appendGrant e b s).path.startReads = s.path.startReads ∧ (appendGrant e b s).path.upstream = s.path.upstream ∧
      (appendGrant e b s).path.completion = s.path.completion := by
  unfold appendGrant
  split
  · simp
  · split
    · simp
    · split
      · simp
      · simp only []
        split <;> simp

/-- A READY copy queued changes the Visit Unit, and what a printer that goes on changes. -/
@[simp] theorem queueReady_keeps (t : List Byte) (s : State) :
    (queueReady t s).store = s.store ∧ (queueReady t s).pins = s.pins ∧ (queueReady t s).engine = s.engine ∧
      (queueReady t s).calendar = s.calendar ∧ (queueReady t s).wand = s.wand ∧
      (queueReady t s).journal = s.journal ∧ (queueReady t s).upload = s.upload ∧
      (queueReady t s).profile = s.profile ∧ (queueReady t s).pending = s.pending ∧
      (queueReady t s).path.state = s.path.state ∧ (queueReady t s).path.stage = s.path.stage ∧
      (queueReady t s).path.startKind = s.path.startKind ∧ (queueReady t s).path.resetSeen = s.path.resetSeen ∧
      (queueReady t s).path.repairedConsumer = s.path.repairedConsumer ∧
      (queueReady t s).path.repairedTail = s.path.repairedTail ∧
      (queueReady t s).path.startReads = s.path.startReads ∧ (queueReady t s).path.upstream = s.path.upstream ∧
      (queueReady t s).path.completion = s.path.completion := by
  simp [queueReady]

/-- The visit discarded at a stop belongs to the Visit Unit. -/
@[simp] theorem settleVisit_keeps (s : State) :
    (settleVisit s).store = s.store ∧ (settleVisit s).pins = s.pins ∧ (settleVisit s).path = s.path ∧
      (settleVisit s).engine = s.engine ∧ (settleVisit s).calendar = s.calendar ∧ (settleVisit s).wand = s.wand ∧
      (settleVisit s).journal = s.journal ∧ (settleVisit s).upload = s.upload ∧ (settleVisit s).profile = s.profile ∧
      (settleVisit s).events = s.events ∧ (settleVisit s).pending = s.pending := by
  unfold settleVisit
  split <;> simp

/-- REPRINT changes the Visit Unit and the events. -/
@[simp] theorem reprintCommand_keeps (a : Addr) (s : State) :
    (reprintCommand a s).store = s.store ∧ (reprintCommand a s).pins = s.pins ∧
      (reprintCommand a s).engine = s.engine ∧ (reprintCommand a s).calendar = s.calendar ∧
      (reprintCommand a s).wand = s.wand ∧ (reprintCommand a s).journal = s.journal ∧
      (reprintCommand a s).upload = s.upload ∧ (reprintCommand a s).profile = s.profile ∧
      (reprintCommand a s).pending = s.pending ∧ (reprintCommand a s).path.state = s.path.state ∧
      (reprintCommand a s).path.stage = s.path.stage ∧ (reprintCommand a s).path.startKind = s.path.startKind ∧
      (reprintCommand a s).path.resetSeen = s.path.resetSeen ∧
      (reprintCommand a s).path.repairedConsumer = s.path.repairedConsumer ∧
      (reprintCommand a s).path.repairedTail = s.path.repairedTail ∧
      (reprintCommand a s).path.startReads = s.path.startReads ∧
      (reprintCommand a s).path.upstream = s.path.upstream ∧
      (reprintCommand a s).path.completion = s.path.completion := by
  unfold reprintCommand
  split
  · simp
  · split <;> simp

/-! ### The wand -/

/-- A change of the wand is one of the wand. -/
@[simp] theorem onWand_keeps (f : Wand → Wand) (s : State) :
    (onWand f s).store = s.store ∧ (onWand f s).pins = s.pins ∧ (onWand f s).path = s.path ∧
      (onWand f s).engine = s.engine ∧ (onWand f s).calendar = s.calendar ∧ (onWand f s).visit = s.visit ∧
      (onWand f s).journal = s.journal ∧ (onWand f s).upload = s.upload ∧ (onWand f s).profile = s.profile ∧
      (onWand f s).events = s.events ∧ (onWand f s).pending = s.pending := by
  simp [onWand]

/-- The copy of STATUS w1 belongs to the wand. -/
@[simp] theorem setConsumer_keeps (w : Word) (s : State) :
    (setConsumer w s).store = s.store ∧ (setConsumer w s).pins = s.pins ∧ (setConsumer w s).path = s.path ∧
      (setConsumer w s).engine = s.engine ∧ (setConsumer w s).calendar = s.calendar ∧
      (setConsumer w s).visit = s.visit ∧ (setConsumer w s).journal = s.journal ∧
      (setConsumer w s).upload = s.upload ∧ (setConsumer w s).profile = s.profile ∧
      (setConsumer w s).events = s.events ∧ (setConsumer w s).pending = s.pending := by
  simp [setConsumer]

/-- A scan error changes only the events and its mirror. -/
@[simp] theorem scanBad_keeps (c : Nat) (s : State) :
    (scanBad c s).store = s.store ∧ (scanBad c s).pins = s.pins ∧ (scanBad c s).engine = s.engine ∧
      (scanBad c s).calendar = s.calendar ∧ (scanBad c s).wand = s.wand ∧ (scanBad c s).visit = s.visit ∧
      (scanBad c s).journal = s.journal ∧ (scanBad c s).upload = s.upload ∧ (scanBad c s).profile = s.profile ∧
      (scanBad c s).pending = s.pending ∧ (scanBad c s).path.state = s.path.state ∧
      (scanBad c s).path.stage = s.path.stage ∧ (scanBad c s).path.startKind = s.path.startKind ∧
      (scanBad c s).path.resetSeen = s.path.resetSeen ∧
      (scanBad c s).path.repairedConsumer = s.path.repairedConsumer ∧
      (scanBad c s).path.repairedTail = s.path.repairedTail ∧ (scanBad c s).path.startReads = s.path.startReads ∧
      (scanBad c s).path.upstream = s.path.upstream ∧ (scanBad c s).path.completion = s.path.completion := by
  simp [scanBad]

/-! ### The upload -/

/-- A frame asked for changes only the Upload Engine. -/
@[simp] theorem sendFrame_keeps (f : TxFrame) (s : State) :
    (sendFrame f s).store = s.store ∧ (sendFrame f s).pins = s.pins ∧ (sendFrame f s).path = s.path ∧
      (sendFrame f s).engine = s.engine ∧ (sendFrame f s).calendar = s.calendar ∧ (sendFrame f s).wand = s.wand ∧
      (sendFrame f s).visit = s.visit ∧ (sendFrame f s).journal = s.journal ∧ (sendFrame f s).profile = s.profile ∧
      (sendFrame f s).events = s.events ∧ (sendFrame f s).pending = s.pending := by
  simp [sendFrame]

/-- HELLO changes only the Upload Engine. -/
@[simp] theorem sendHello_keeps (s : State) :
    (sendHello s).store = s.store ∧ (sendHello s).pins = s.pins ∧ (sendHello s).path = s.path ∧
      (sendHello s).engine = s.engine ∧ (sendHello s).calendar = s.calendar ∧ (sendHello s).wand = s.wand ∧
      (sendHello s).visit = s.visit ∧ (sendHello s).journal = s.journal ∧ (sendHello s).profile = s.profile ∧
      (sendHello s).events = s.events ∧ (sendHello s).pending = s.pending := by
  simp [sendHello]

/-- WAIT_LINE changes the Upload Engine and the upload word. -/
@[simp] theorem enterWaitLine_keeps (b : State) (s : State) :
    (enterWaitLine b s).store = s.store ∧ (enterWaitLine b s).pins = s.pins ∧ (enterWaitLine b s).engine = s.engine ∧
      (enterWaitLine b s).calendar = s.calendar ∧ (enterWaitLine b s).wand = s.wand ∧
      (enterWaitLine b s).visit = s.visit ∧ (enterWaitLine b s).journal = s.journal ∧
      (enterWaitLine b s).profile = s.profile ∧ (enterWaitLine b s).events = s.events ∧
      (enterWaitLine b s).pending = s.pending ∧ (enterWaitLine b s).path.state = s.path.state ∧
      (enterWaitLine b s).path.stage = s.path.stage ∧ (enterWaitLine b s).path.startKind = s.path.startKind ∧
      (enterWaitLine b s).path.resetSeen = s.path.resetSeen ∧
      (enterWaitLine b s).path.repairedConsumer = s.path.repairedConsumer ∧
      (enterWaitLine b s).path.repairedTail = s.path.repairedTail ∧
      (enterWaitLine b s).path.startReads = s.path.startReads ∧ (enterWaitLine b s).path.upstream = s.path.upstream ∧
      (enterWaitLine b s).path.completion = s.path.completion := by
  unfold enterWaitLine
  simp only []
  split <;> simp

/-- An upload started changes the Upload Engine and the upload word. -/
@[simp] theorem startUpload_keeps (s : State) :
    (startUpload s).store = s.store ∧ (startUpload s).pins = s.pins ∧ (startUpload s).engine = s.engine ∧
      (startUpload s).calendar = s.calendar ∧ (startUpload s).wand = s.wand ∧ (startUpload s).visit = s.visit ∧
      (startUpload s).journal = s.journal ∧ (startUpload s).profile = s.profile ∧ (startUpload s).events = s.events ∧
      (startUpload s).pending = s.pending ∧ (startUpload s).path.state = s.path.state ∧
      (startUpload s).path.stage = s.path.stage ∧ (startUpload s).path.startKind = s.path.startKind ∧
      (startUpload s).path.resetSeen = s.path.resetSeen ∧
      (startUpload s).path.repairedConsumer = s.path.repairedConsumer ∧
      (startUpload s).path.repairedTail = s.path.repairedTail ∧ (startUpload s).path.startReads = s.path.startReads ∧
      (startUpload s).path.upstream = s.path.upstream ∧ (startUpload s).path.completion = s.path.completion := by
  simp [startUpload]

/-- DONE changes only the Upload Engine. -/
@[simp] theorem sendDone_keeps (s : State) :
    (sendDone s).store = s.store ∧ (sendDone s).pins = s.pins ∧ (sendDone s).path = s.path ∧
      (sendDone s).engine = s.engine ∧ (sendDone s).calendar = s.calendar ∧ (sendDone s).wand = s.wand ∧
      (sendDone s).visit = s.visit ∧ (sendDone s).journal = s.journal ∧ (sendDone s).profile = s.profile ∧
      (sendDone s).events = s.events ∧ (sendDone s).pending = s.pending := by
  simp [sendDone]

/-- A batch formed changes only the Upload Engine. -/
@[simp] theorem formBatch_keeps (s : State) :
    (formBatch s).store = s.store ∧ (formBatch s).pins = s.pins ∧ (formBatch s).path = s.path ∧
      (formBatch s).engine = s.engine ∧ (formBatch s).calendar = s.calendar ∧ (formBatch s).wand = s.wand ∧
      (formBatch s).visit = s.visit ∧ (formBatch s).journal = s.journal ∧ (formBatch s).profile = s.profile ∧
      (formBatch s).events = s.events ∧ (formBatch s).pending = s.pending := by
  unfold formBatch
  simp only []
  split <;> simp

/-- The tail advanced changes the journal and its mirror. -/
@[simp] theorem advanceTail_keeps (n : Nat) (s : State) :
    (advanceTail n s).store = s.store ∧ (advanceTail n s).pins = s.pins ∧ (advanceTail n s).engine = s.engine ∧
      (advanceTail n s).calendar = s.calendar ∧ (advanceTail n s).wand = s.wand ∧ (advanceTail n s).visit = s.visit ∧
      (advanceTail n s).upload = s.upload ∧ (advanceTail n s).profile = s.profile ∧
      (advanceTail n s).events = s.events ∧ (advanceTail n s).pending = s.pending ∧
      (advanceTail n s).path.state = s.path.state ∧ (advanceTail n s).path.stage = s.path.stage ∧
      (advanceTail n s).path.startKind = s.path.startKind ∧ (advanceTail n s).path.resetSeen = s.path.resetSeen ∧
      (advanceTail n s).path.repairedConsumer = s.path.repairedConsumer ∧
      (advanceTail n s).path.repairedTail = s.path.repairedTail ∧
      (advanceTail n s).path.startReads = s.path.startReads ∧ (advanceTail n s).path.upstream = s.path.upstream ∧
      (advanceTail n s).path.completion = s.path.completion := by
  simp [advanceTail]

/-! ### The clock -/

/-- The clock placed changes only the Calendar Unit. -/
@[simp] theorem placeClock_keeps (d m k : Nat) (s : State) :
    (placeClock d m k s).store = s.store ∧ (placeClock d m k s).pins = s.pins ∧ (placeClock d m k s).path = s.path ∧
      (placeClock d m k s).engine = s.engine ∧ (placeClock d m k s).wand = s.wand ∧
      (placeClock d m k s).visit = s.visit ∧ (placeClock d m k s).journal = s.journal ∧
      (placeClock d m k s).upload = s.upload ∧ (placeClock d m k s).profile = s.profile ∧
      (placeClock d m k s).events = s.events ∧ (placeClock d m k s).pending = s.pending := by
  simp [placeClock]

/-- The clock set changes the Calendar Unit, a system entry, the sweep and the events. -/
@[simp] theorem setClock_keeps (d m k : Nat) (src : SetSource) (s : State) :
    (setClock d m k src s).store = s.store ∧ (setClock d m k src s).pins = s.pins ∧
      (setClock d m k src s).wand = s.wand ∧ (setClock d m k src s).visit = s.visit ∧
      (setClock d m k src s).upload = s.upload ∧ (setClock d m k src s).profile = s.profile ∧
      (setClock d m k src s).pending = s.pending ∧ (setClock d m k src s).path.state = s.path.state ∧
      (setClock d m k src s).path.stage = s.path.stage ∧ (setClock d m k src s).path.startKind = s.path.startKind ∧
      (setClock d m k src s).path.resetSeen = s.path.resetSeen ∧
      (setClock d m k src s).path.repairedConsumer = s.path.repairedConsumer ∧
      (setClock d m k src s).path.repairedTail = s.path.repairedTail ∧
      (setClock d m k src s).path.startReads = s.path.startReads ∧
      (setClock d m k src s).path.upstream = s.path.upstream ∧
      (setClock d m k src s).path.completion = s.path.completion := by
  unfold setClock
  simp only []
  split <;> simp

end Sys2Proof.Machine
end

