-- ==== Sys2Proof/Laws/Memory.lean ====
section
/-! SUPPORT. The laws of the desk store: a lane reads what was last written to it, a write leaves every other lane alone, and every
write keeps the canonical form. -/

namespace Sys2Proof.Machine

/-! ### The canonical form -/

/-- A store that rises from `n` rises from any lower address. -/
theorem risesFrom_mono {m : List Host.Cell} {n k : Nat} (h : risesFrom m n = true) (hk : k ≤ n) : risesFrom m k = true := by
  cases m with
  | nil => rfl
  | cons c rest =>
    obtain ⟨a, b⟩ := c
    simp only [risesFrom, Bool.and_eq_true, decide_eq_true_eq] at h ⊢
    exact ⟨⟨by omega, h.1.2⟩, h.2⟩

/-- A listed cell keeps the form of the cells above it. -/
theorem risesFrom_listed {rest : List Host.Cell} {n k : Nat} {b : Byte} (h : risesFrom rest (n + 1) = true) (hk : k ≤ n) :
    risesFrom (listed n b rest) k = true := by
  unfold listed
  split
  · exact risesFrom_mono h (by omega)
  · next hb => simp [risesFrom, h, hb, hk]

/-- One lane written keeps the addresses rising. -/
theorem risesFrom_writeLane {m : List Host.Cell} {n a : Nat} {b : Byte} (h : risesFrom m n = true) (ha : n ≤ a) :
    risesFrom (writeLane m a b) n = true := by
  induction m generalizing n with
  | nil => exact risesFrom_listed rfl ha
  | cons c rest ih =>
    obtain ⟨k, d⟩ := c
    simp only [risesFrom, Bool.and_eq_true, decide_eq_true_eq] at h
    obtain ⟨⟨hk, hd⟩, hr⟩ := h
    unfold writeLane
    split
    · next hlt =>
      refine risesFrom_listed ?_ ha
      simp [risesFrom, hd, hr]
      omega
    · split
      · next he =>
        subst he
        exact risesFrom_listed hr hk
      · simp only [risesFrom, Bool.and_eq_true, decide_eq_true_eq]
        exact ⟨⟨hk, hd⟩, ih hr (by omega)⟩

/-- One lane written lists no address but its own beside those listed. -/
theorem all_writeLane {m : List Host.Cell} {a : Nat} {b : Byte} {p : Host.Cell → Bool} (h : m.all p = true)
    (ha : p (a, b) = true) : (writeLane m a b).all p = true := by
  have hl : ∀ rest : List Host.Cell, rest.all p = true → (listed a b rest).all p = true := by
    intro rest hr
    unfold listed
    split
    · exact hr
    · simp only [List.all_cons, ha, hr, Bool.and_self]
  induction m with
  | nil => exact hl [] rfl
  | cons c rest ih =>
    obtain ⟨k, d⟩ := c
    simp only [List.all_cons, Bool.and_eq_true] at h
    unfold writeLane
    split
    · exact hl _ (by simp only [List.all_cons, h.1, h.2, Bool.and_self])
    · split
      · exact hl _ h.2
      · simp only [List.all_cons, h.1, ih h.2, Bool.and_self]

/-- One lane written keeps the canonical form. -/
theorem wf_writeLane {m : List Host.Cell} {a : Nat} {b : Byte} (h : Memory.wf m = true) (ha : a < 4 * 2 ^ 22) :
    Memory.wf (writeLane m a b) = true := by
  simp only [Memory.wf, Bool.and_eq_true] at h ⊢
  exact ⟨risesFrom_writeLane h.1 (Nat.zero_le a), all_writeLane h.2 (by simpa using ha)⟩

/-- A lane of a word is a lane of the store. -/
theorem laneAddr_lt (a : Addr) {k : Nat} (hk : k < 4) : laneAddr a k < 4 * 2 ^ 22 := by
  have := a.isLt
  unfold laneAddr
  omega

/-- A word written in any of its lanes keeps the canonical form. -/
theorem wf_writeWord {m : List Host.Cell} (a : Addr) (w : Word) (st : Strobes) (h : Memory.wf m = true) :
    Memory.wf (writeWord m a w st) = true := by
  have step : ∀ (k : Nat) (l : List Host.Cell), k < 4 → Memory.wf l = true → Memory.wf (writeIf st k l a w) = true := by
    intro k l hk hl
    unfold writeIf
    split
    · exact wf_writeLane hl (laneAddr_lt a hk)
    · exact hl
  exact step 3 _ (by omega) (step 2 _ (by omega) (step 1 _ (by omega) (step 0 _ (by omega) h)))

/-- The store at reset is in its canonical form. -/
theorem wf_reset : Memory.wf State.reset.store = true := rfl

/-! ### Reading after writing -/

/-- A lane below every cell listed reads as an unlisted one. -/
theorem readLane_below {m : List Host.Cell} {n a : Nat} (h : risesFrom m n = true) (ha : a < n) : readLane m a = unlisted := by
  induction m generalizing n with
  | nil => rfl
  | cons c rest ih =>
    obtain ⟨k, d⟩ := c
    simp only [risesFrom, Bool.and_eq_true, decide_eq_true_eq] at h
    rw [readLane, if_neg (by omega)]
    exact ih h.2 (by omega)

/-- The lane of a listed cell reads its byte; any other reads what the rest holds. -/
theorem readLane_listed {rest : List Host.Cell} {n : Nat} {b : Byte} (h : risesFrom rest (n + 1) = true) (a : Nat) :
    readLane (listed n b rest) a = if a = n then b else readLane rest a := by
  unfold listed
  split
  · next hb =>
    split
    · next he =>
      subst he
      rw [readLane_below h (by omega), hb]
    · rfl
  · rw [readLane]
    simp only [eq_comm]

/-- A lane reads what was written to it, and every other lane reads as before. -/
theorem readLane_writeLane {m : List Host.Cell} {n : Nat} {b : Byte} (h : risesFrom m 0 = true) (a : Nat) :
    readLane (writeLane m n b) a = if a = n then b else readLane m a := by
  have main : ∀ (m : List Host.Cell) (lo : Nat), risesFrom m lo = true →
      readLane (writeLane m n b) a = if a = n then b else readLane m a := by
    intro m
    induction m with
    | nil => intro lo _; exact readLane_listed rfl a
    | cons c rest ih =>
      intro lo h
      obtain ⟨k, d⟩ := c
      have h' := h
      simp only [risesFrom, Bool.and_eq_true, decide_eq_true_eq] at h
      obtain ⟨⟨hk, hd⟩, hr⟩ := h
      unfold writeLane
      split
      · next hlt =>
        rw [readLane_listed]
        simp [risesFrom, hd, hr]
        omega
      · split
        · next he =>
          subst he
          rw [readLane_listed hr]
          split
          · rfl
          · next hne => rw [readLane, if_neg (fun e => hne e.symm)]
        · next hne =>
          rw [readLane, ih _ hr, readLane]
          by_cases hka : k = a
          · subst hka
            simp [Ne.symm hne]
          · simp [hka]
  exact main m 0 h

/-- Lanes of words are distinct. -/
theorem laneAddr_inj {a b : Addr} {j k : Nat} (hj : j < 4) (hk : k < 4) : laneAddr b k = laneAddr a j ↔ b = a ∧ k = j := by
  unfold laneAddr
  constructor
  · intro h
    refine ⟨BitVec.eq_of_toNat_eq ?_, ?_⟩ <;> omega
  · rintro ⟨rfl, rfl⟩
    rfl

/-- What each lane of the store reads once a word has been written in the lanes of its strobes. -/
theorem readLane_writeWord {m : List Host.Cell} (a : Addr) (w : Word) (st : Strobes) (h : Memory.wf m = true) (b : Addr)
    {k : Nat} (hk : k < 4) : readLane (writeWord m a w st) (laneAddr b k) =
      if b = a ∧ st.getLsbD k = true then lane w k else readLane m (laneAddr b k) := by
  have one : ∀ (j : Nat) (l : List Host.Cell), j < 4 → Memory.wf l = true →
      readLane (writeIf st j l a w) (laneAddr b k) =
        if b = a ∧ k = j ∧ st.getLsbD j = true then lane w j else readLane l (laneAddr b k) := by
    intro j l hj hl
    simp only [Memory.wf, Bool.and_eq_true] at hl
    unfold writeIf
    split
    · next hs =>
      rw [readLane_writeLane hl.1]
      simp [laneAddr_inj hj hk, hs]
    · next hs => simp [hs]
  have keep : ∀ (j : Nat) (l : List Host.Cell), j < 4 → Memory.wf l = true → Memory.wf (writeIf st j l a w) = true := by
    intro j l hj hl
    unfold writeIf
    split
    · exact wf_writeLane hl (laneAddr_lt a hj)
    · exact hl
  have h0 := keep 0 m (by omega) h
  have h1 := keep 1 _ (by omega) h0
  have h2 := keep 2 _ (by omega) h1
  unfold writeWord
  rw [one 3 _ (by omega) h2, one 2 _ (by omega) h1, one 1 _ (by omega) h0, one 0 _ (by omega) h]
  by_cases hb : b = a
  · interval_cases k <;> simp [hb]
  · simp [hb]

/-- The four lanes of a word put together are the word. -/
theorem ofLanes_lane (w : Word) : ofLanes (lane w 3) (lane w 2) (lane w 1) (lane w 0) = w := by
  apply BitVec.eq_of_toNat_eq
  have := w.isLt
  simp only [ofLanes, lane, BitVec.toNat_append, BitVec.toNat_ofNat]
  simp only [Nat.shiftLeft_eq]
  rw [← Nat.shiftLeft_eq, ← Nat.shiftLeft_eq, ← Nat.shiftLeft_eq]
  rw [← Nat.shiftLeft_add_eq_or_of_lt (by omega), ← Nat.shiftLeft_add_eq_or_of_lt (by omega),
    ← Nat.shiftLeft_add_eq_or_of_lt (by omega)]
  simp only [Nat.shiftLeft_eq]
  omega

/-- A full word reads as it was written. -/
theorem readWord_writeWord {m : List Host.Cell} (a : Addr) (w : Word) (h : Memory.wf m = true) :
    readWord (writeWord m a w fullWord) a = w := by
  have hl : ∀ k, k < 4 → readLane (writeWord m a w fullWord) (laneAddr a k) = lane w k := by
    intro k hk
    have hs : (fullWord : Strobes).getLsbD k = true := by interval_cases k <;> rfl
    rw [readLane_writeWord a w fullWord h a hk, if_pos ⟨rfl, hs⟩]
  unfold readWord
  rw [hl 3 (by omega), hl 2 (by omega), hl 1 (by omega), hl 0 (by omega)]
  exact ofLanes_lane w

/-- Another word reads as before. -/
theorem readWord_other {m : List Host.Cell} (a b : Addr) (w : Word) (st : Strobes) (h : Memory.wf m = true) (hb : b ≠ a) :
    readWord (writeWord m a w st) b = readWord m b := by
  have hl : ∀ k, k < 4 → readLane (writeWord m a w st) (laneAddr b k) = readLane m (laneAddr b k) := by
    intro k hk
    rw [readLane_writeWord a w st h b hk, if_neg (fun e => hb e.1)]
  unfold readWord
  rw [hl 3 (by omega), hl 2 (by omega), hl 1 (by omega), hl 0 (by omega)]

end Sys2Proof.Machine
end

