-- ==== Sys2Proof/Laws/Queue.lean ====
section
/-! SUPPORT. What a produced group does to the Posted Write Queue: with room it enters at once, with the STATUS window disabled it
goes nowhere, and in every case the queue at most grows at its end. -/

namespace Sys2Proof.Machine

/-- A group of `n` STATUS words would enter the queue at once. -/
def Open (s : State) (n : Nat) : Prop :=
  s.active.statusWin.enable = true ∧ (s.path.state = .starting ∨ s.path.state = .running) ∧ s.path.waiting = [] ∧
    s.path.pwq.length + n ≤ 24

/-- A group that finds room and no group waiting enters the queue at once. -/
theorem produce_open {o : GroupOwner} {ws : List (Nat × Word)} {b : Bool} {s : State} (h : Open s ws.length) :
    produce o ws b s = enqueue (statusEntries s ws) s := by
  obtain ⟨he, hs, hw, hl⟩ := h
  have hws : writesStatus s = true := by rcases hs with hs | hs <;> simp [writesStatus, he, hs]
  have hf : ws.length ≤ pwqFree s := by simp only [pwqFree, Config.pwqDepth]; omega
  simp [produce, hws, hw, hf]

/-- With the STATUS window disabled a group goes nowhere. -/
theorem produce_disabled {o : GroupOwner} {ws : List (Nat × Word)} {b : Bool} {s : State}
    (h : s.active.statusWin.enable = false) : produce o ws b s = s := by
  simp [produce, writesStatus, h]

@[simp] theorem enqueue_pwq (es : List QEntry) (s : State) : (enqueue es s).path.pwq = s.path.pwq ++ es := by simp [enqueue]

@[simp] theorem enqueue_waiting (es : List QEntry) (s : State) : (enqueue es s).path.waiting = s.path.waiting := by
  simp [enqueue]

/-- A followed group keeps its owner and its place among the groups of its act. -/
@[simp] theorem Group.follow_owner (ws : List (Nat × Word)) (g : Group) : (g.follow ws).owner = g.owner := by
  unfold Group.follow
  split <;> rfl

@[simp] theorem Group.follow_tied (ws : List (Nat × Word)) (g : Group) : (g.follow ws).tied = g.tied := by
  unfold Group.follow
  split <;> rfl

/-- Only an adoption's groups follow. -/
theorem Group.follow_other {ws : List (Nat × Word)} {g : Group} (h : g.owner ≠ .adoption) : g.follow ws = g := by
  simp [Group.follow, h]

/-- What the line is once STATUS words have been written. -/
@[simp] theorem follow_waiting (ws : List (Nat × Word)) (s : State) :
    (follow ws s).path.waiting = s.path.waiting.map (Group.follow ws) := by
  simp [follow]

/-- In a line without adoption groups nothing follows. -/
theorem follow_idle {ws : List (Nat × Word)} {s : State} (h : ∀ g ∈ s.path.waiting, g.owner ≠ .adoption) :
    (follow ws s).path.waiting = s.path.waiting := by
  rw [follow_waiting]
  exact (List.map_congr_left fun g m => Group.follow_other (h g m)).trans (List.map_id _)

@[simp] theorem endAct_pwq (s : State) : (endAct s).path.pwq = s.path.pwq := by simp [endAct]

@[simp] theorem endAct_waiting (s : State) : (endAct s).path.waiting = s.path.waiting := by simp [endAct]

/-- The queue of `s` begins the queue of `t`. -/
def Grown (s t : State) : Prop := s.path.pwq <+: t.path.pwq

theorem Grown.refl (s : State) : Grown s s := List.prefix_refl _

theorem Grown.trans {s t u : State} (h : Grown s t) (k : Grown t u) : Grown s u := List.IsPrefix.trans h k

theorem Grown.exists {s t : State} (h : Grown s t) : ∃ es, t.path.pwq = s.path.pwq ++ es := by
  obtain ⟨es, h⟩ := h
  exact ⟨es, h.symm⟩

theorem enqueue_grown (es : List QEntry) (s : State) : Grown s (enqueue es s) := by simp [Grown]

theorem endAct_grown (s : State) : Grown s (endAct s) := by simp [Grown]

theorem beginWait_grown (o : GroupOwner) (ws : List (Nat × Word)) (b : Bool) (s : State) : Grown s (beginWait o ws b s) := by
  simp [Grown, beginWait]

theorem produce_grown (o : GroupOwner) (ws : List (Nat × Word)) (b : Bool) (s : State) : Grown s (produce o ws b s) := by
  unfold produce
  split
  · exact .refl s
  · split
    · simp [Grown, replaceWaiting]
    · split
      · exact enqueue_grown _ s
      · exact beginWait_grown o ws b s

/-- Growth from a state whose Store Path is the same. -/
theorem Grown.from {s u t : State} (h : Grown u t) (e : u.path = s.path) : Grown s t := by
  unfold Grown at *
  rw [← e]
  exact h

theorem stampEvent_grown (k d : Nat) (s : State) : Grown s (stampEvent k d s) := by
  unfold stampEvent
  exact (produce_grown ..).from rfl

theorem raise_grown (e : Event) (d : Nat) (s : State) : Grown s (raise e d s) := by
  have h : ∀ k, Grown s (stampEvent k d (s.setEvents (s.events.latch e))) := fun k => (stampEvent_grown ..).from rfl
  unfold raise
  cases e.record with
  | none => exact .refl s
  | some k => exact h k

theorem raiseAll_grown (es : List Event) (s : State) : Grown s (raiseAll es s) := by
  unfold raiseAll
  induction es generalizing s with
  | nil => exact .refl s
  | cons e es ih => exact (raise_grown e 0 s).trans (ih _)

theorem reportVisit_grown (b s : State) : Grown s (reportVisit b s) := by
  unfold reportVisit
  split
  · exact .refl s
  · exact produce_grown ..

theorem reportUpload_grown (b s : State) : Grown s (reportUpload b s) := by
  unfold reportUpload
  split
  · exact .refl s
  · exact produce_grown ..

theorem reportProfile_grown (b s : State) : Grown s (reportProfile b s) := by
  unfold reportProfile
  split
  · exact .refl s
  · exact produce_grown ..

theorem writeClockMirror_grown (s : State) : Grown s (writeClockMirror s) := by
  unfold writeClockMirror
  split
  · exact produce_grown ..
  · exact .refl s

theorem writePatronStatus_grown (o : GroupOwner) (a b : Word) (s : State) : Grown s (writePatronStatus o a b s) := by
  unfold writePatronStatus
  exact (produce_grown ..).from rfl

theorem sweepEnd_grown (s : State) : Grown s (sweepEnd s) := by
  unfold sweepEnd
  exact ((produce_grown ..).trans (raise_grown ..)).from rfl

theorem endIfDone_grown (s : State) : Grown s (endIfDone s) := by
  unfold endIfDone
  split
  · exact sweepEnd_grown s
  · exact .refl s

theorem sendNotice_grown (i : Instant) (s : State) : Grown s (sendNotice i s) := by
  unfold sendNotice rolloverNotice sweepBegin sweepRestart
  split
  · split <;> exact (endIfDone_grown _).from rfl
  · exact .refl s

theorem systemEntry_grown (e : JEntry) (s : State) : Grown s (systemEntry e s) := by
  unfold systemEntry
  split
  · exact (beginWait_grown ..).from rfl
  · exact ((produce_grown ..).trans (raise_grown ..)).from rfl

theorem judgeLow_grown (s : State) : Grown s (judgeLow s) := by
  unfold judgeLow
  split
  · split
    · exact (raise_grown ..).from rfl
    · exact .refl s
  · exact .refl s

theorem setClock_grown (d m k : Nat) (src : SetSource) (s : State) : Grown s (setClock d m k src s) := by
  have h1 : Grown s (writeClockMirror (placeClock d m k s)) := (writeClockMirror_grown _).from rfl
  have h2 := fun e => (h1.trans (systemEntry_grown e _)).trans (raise_grown .clockSet 0 _)
  unfold setClock
  simp only []
  split
  · exact (h2 _).trans (sendNotice_grown ..)
  · exact h2 _

end Sys2Proof.Machine
end

