-- ==== Sys2Proof/Laws/Visits.lean ====
section
/-! SUPPORT. What the close of a visit does: the Visit Unit and the Event Unit it leaves, the words it writes, and what it
keeps. -/

namespace Sys2Proof.Machine

/-- A candidate that the engine's work holds back, or that is not there, is not judged. -/
theorem judgeCandidate_none {u : State} (h : NoAdoption u) : judgeCandidate u = u := by
  unfold judgeCandidate
  split
  · rfl
  · next ws hws =>
    have : candidateReady u ws = false := by
      rcases h with h | h | h
      · simp [h] at hws
      · simp [candidateReady]; intros; simp_all
      · have : u.engine.op.isNone = false := by cases hh : u.engine.op <;> simp_all
        simp [candidateReady, this]
    simp [this]

/-- An event without a stamp is only latched. -/
theorem raise_plain {e : Event} {d : Nat} {s : State} (h : e.record = none) :
    raise e d s = s.setEvents (s.events.latch e) := by
  simp [raise, h]

theorem closeVisit_some {b : Bool} {s : State} {v : Visit} (hv : s.visit.visit = some v) :
    closeVisit b s = judgeCandidate (closeAct b v s) := by
  simp [closeVisit, hv]

/-- The slip of a close: dropped, or in the queue as `slipsAfterClose` says. -/
theorem askSlip_close (v : Visit) (s : State) : (if v.list.isEmpty then s else askSlipIfEnabled v false s) =
    (if v.list ≠ [] ∧ s.active.slipEnable = true ∧ 4 ≤ s.visit.slips.length then s.setEvents (s.events.latch .slipDropped)
    else s.setVisit { s.visit with slips := slipsAfterClose s v }) := by
  by_cases h1 : v.list = []
  · simp [h1, slipsAfterClose, slipsAsked]; rfl
  · have : v.list.isEmpty = false := by simpa using h1
    simp only [this, askSlipIfEnabled, slipsAfterClose, slipsAsked, h1]
    cases h2 : s.active.slipEnable
    · simp; rfl
    · by_cases h3 : 4 ≤ s.visit.slips.length
      · simp [h3, askSlip, h1]; rfl
      · simp [h3, askSlip]; rfl

/-- The Visit Unit after the close. -/
theorem closeAct_visit {b : Bool} {s : State} {v : Visit} (hv : s.visit.visit = some v) : (closeAct b v s).visit =
    { visitAfterClose s with patronCopy := if b then 65535#32 else s.visit.patronCopy } := by
  simp only [closeAct, askSlip_close]
  split <;> cases b <;>
    simp [closeWord, writePatronStatus, clearVisit, visitAfterClose, hv, slipsAfterClose, slipsAsked,
      raise_plain (e := .visitClosed) rfl] <;>
    simp_all <;> rfl

/-- The Event Unit after the close. -/
theorem closeAct_events {b : Bool} {s : State} {v : Visit} (hv : s.visit.visit = some v) :
    (closeAct b v s).events = eventsAfterClose s := by
  simp only [closeAct, askSlip_close]
  split <;> cases b <;>
    simp [closeWord, writePatronStatus, clearVisit, eventsAfterClose, hv, raise_plain (e := .visitClosed) rfl,
      EventUnit.latch, Event.place] <;> simp_all
  all_goals
    rw [if_neg (by
      rintro ⟨h1, h2, h3⟩
      have := ‹¬v.list = [] → s.active.slipEnable = true → _› h1 h2
      omega)]
    simp

/-- The queue at most grows. -/
theorem closeAct_grown (b : Bool) (v : Visit) (s : State) : Grown s (closeAct b v s) := by
  simp only [closeAct, askSlip_close]
  refine Grown.trans ?_ (reportVisit_grown _ _)
  refine Grown.trans ?_ (raise_grown _ _ _)
  have : ∀ u : State, u.path = s.path →
      Grown s (closeWord b (writePatronStatus .visitClose closedVerdict 0#32 (clearVisit u))) := by
    intro u hu
    have h1 : Grown s (writePatronStatus .visitClose closedVerdict 0#32 (clearVisit u)) :=
      (writePatronStatus_grown ..).from (by simp [hu])
    cases b
    · exact h1
    · exact h1.trans ((produce_grown ..).from rfl)
  split <;> exact this _ rfl

/-- What the close keeps. -/
@[simp] theorem closeAct_keeps (b : Bool) (v : Visit) (s : State) :
    (closeAct b v s).store = s.store ∧ (closeAct b v s).pins = s.pins ∧ (closeAct b v s).engine = s.engine ∧
      (closeAct b v s).calendar = s.calendar ∧ (closeAct b v s).wand = s.wand ∧ (closeAct b v s).journal = s.journal ∧
      (closeAct b v s).upload = s.upload ∧ (closeAct b v s).profile = s.profile ∧ (closeAct b v s).pending = s.pending ∧
      (closeAct b v s).path.state = s.path.state ∧ (closeAct b v s).path.stage = s.path.stage ∧
      (closeAct b v s).path.startKind = s.path.startKind ∧ (closeAct b v s).path.resetSeen = s.path.resetSeen ∧
      (closeAct b v s).path.repairedConsumer = s.path.repairedConsumer ∧
      (closeAct b v s).path.repairedTail = s.path.repairedTail ∧
      (closeAct b v s).path.startReads = s.path.startReads ∧ (closeAct b v s).path.upstream = s.path.upstream ∧
      (closeAct b v s).path.completion = s.path.completion := by
  simp only [closeAct]
  split <;> simp

theorem NoAdoption.close {b : Bool} {s : State} {v : Visit} (h : NoAdoption s) : NoAdoption (closeAct b v s) := by
  simpa [NoAdoption] using h

/-- The words the close writes enter the queue when there is room for them. -/
theorem closeAct_open {b : Bool} {s : State} {v : Visit} (hv : s.visit.visit = some v) (ho : Open s (if b then 4 else 3)) :
    (closeAct b v s).path.pwq =
        s.path.pwq ++ statusEntries s (wordsAfterClose s (if b then [(0, 65535#32)] else [])) ∧
      (closeAct b v s).path.waiting = [] := by
  obtain ⟨he, hs, hw, hl⟩ := ho
  have key : ∀ u : State, u.path = s.path → u.profile = s.profile →
      (closeWord b (writePatronStatus .visitClose closedVerdict 0#32 (clearVisit u))).path.pwq = s.path.pwq ++
          statusEntries s ([(10, 65535#32), (14, 0#32)] ++ (if b then [(0, 65535#32)] else [])) ∧
        (closeWord b (writePatronStatus .visitClose closedVerdict 0#32 (clearVisit u))).path.waiting = [] := by
    intro u hu hp
    have hcv : closedVerdict = 65535#32 := by decide
    have h1 : writePatronStatus .visitClose closedVerdict 0#32 (clearVisit u) =
        enqueue (statusEntries s [(10, closedVerdict), (14, 0#32)]) ((clearVisit u).setVisit
          { (clearVisit u).visit with verdictWord := closedVerdict, finesWord := 0#32 }) := by
      unfold writePatronStatus
      rw [produce_open]
      · simp [statusEntries, State.active, hp]
      · refine ⟨by simpa [State.active, hp] using he, by simpa [hu] using hs, by simpa [hu] using hw, ?_⟩
        simp [hu]
        cases b <;> simp at hl <;> omega
    rw [h1]
    cases b
    · simp [closeWord, hu, hw, hcv]
    · simp only [closeWord, if_true]
      rw [produce_open]
      · simp [hu, hw, hcv, statusEntries, State.active, hp]
      · refine ⟨by simpa [State.active, hp] using he, by simpa [hu] using hs, by simpa [hu] using hw, ?_⟩
        simp [hu]
        simp at hl
        simp [statusEntries]
        omega
  have hvis := closeAct_visit (b := b) hv
  simp only [closeAct, askSlip_close] at hvis ⊢
  generalize hu : (if v.list ≠ [] ∧ s.active.slipEnable = true ∧ 4 ≤ s.visit.slips.length then
    s.setEvents (s.events.latch .slipDropped) else s.setVisit { s.visit with slips := slipsAfterClose s v }) = u at hvis ⊢
  have hup : u.path = s.path ∧ u.profile = s.profile := by subst hu; split <;> simp
  have hk := key u hup.1 hup.2
  rw [(reportVisit_keeps _ _).2.2.2.2.2.1] at hvis
  have hne : visitWord (raise .visitClosed 0
      (closeWord b (writePatronStatus .visitClose closedVerdict 0#32 (clearVisit u)))).visit ≠ visitWord s.visit := by
    apply visitWord_ne
    rw [hvis]
    simp [visitAfterClose, hv]
    cases v.standing <;> simp [Standing.code]
  have hw2 : visitWord (raise .visitClosed 0
      (closeWord b (writePatronStatus .visitClose closedVerdict 0#32 (clearVisit u)))).visit =
        visitWord (visitAfterClose s) := by
    rw [hvis]
    rfl
  rw [reportVisit, if_neg hne, produce_open]
  · rw [raise_plain rfl]
    simp only [enqueue_pwq, enqueue_waiting, State.setEvents_path, hk.1, hk.2]
    rw [raise_plain rfl] at hw2
    simp [wordsAfterClose, hv, statusEntries, State.active, hup.2]
    simpa using hw2
  · refine ⟨by simpa [State.active, hup.2] using he, by simpa [hup.1] using hs,
      by simp [raise_plain (e := .visitClosed) rfl, hk.2], ?_⟩
    simp only [raise_plain (e := .visitClosed) rfl, State.setEvents_path, hk.1]
    cases b <;> simp [statusEntries] at hl ⊢ <;> omega

/-- With the STATUS window disabled the close writes nothing. -/
theorem closeAct_disabled {b : Bool} {s : State} {v : Visit} (hd : s.active.statusWin.enable = false) :
    (closeAct b v s).path = s.path := by
  have hp : ∀ (o : GroupOwner) (ws : List (Nat × Word)) (b : Bool) (u : State), u.profile = s.profile →
      produce o ws b u = u := by
    intro o ws b u hu
    exact produce_disabled (by simpa [State.active, hu] using hd)
  simp only [closeAct, askSlip_close]
  have key : ∀ u : State, u.path = s.path → u.profile = s.profile → (reportVisit s (raise .visitClosed 0
      (closeWord b (writePatronStatus .visitClose closedVerdict 0#32 (clearVisit u))))).path = s.path := by
    intro u h1 h2
    rw [raise_plain rfl]
    unfold reportVisit writePatronStatus closeWord
    rw [hp _ _ _ ((clearVisit u).setVisit _) (by simp [h2])]
    cases b
    · simp
      split
      · simp [h1]
      · rw [hp _ _ _ _ (by simp [h2])]
        simp [h1]
    · simp
      split
      · rw [hp _ _ _ _ (by simp [h2])]
        simp [h1]
      · rw [hp _ _ _ _ (by simp [h2]), hp _ _ _ _ (by simp [h2])]
        simp [h1]
  split <;> exact key _ (by simp) (by simp)

end Sys2Proof.Machine
end

