-- ==== Sys2Proof/WellFormed.lean ====
section
/-! DEFINITION. What a command's operands may be: the conditions under which a command is the one its row of the
table names. A command whose operands fail them is still given the meaning of the access or event it spells. -/

namespace Sys2Proof

/-- The operands are those of the command's row. The widths of the operands' types settle everything else. -/
def Instr.wellFormed : Instr → Bool
  | .reqLoan _ _ => true
  | .reqReturn _ _ => true
  | .reqRenew _ _ => true
  | .loanSlotClear _ _ => true
  | .slotStatusReadDone => true
  | .payment _ amount _ => amount ≠ 0#32
  | .currentPatronOpen _ _ _ => true
  | .currentPatronRefresh _ _ _ => true
  | .currentPatronClose _ _ => true
  | .currentPatronRefused _ _ _ => true
  | .scanConsumerWrite _ _ _ => true
  | .uploadNow _ _ => true
  | .reprint _ _ => true
  | .silence _ _ => true
  | .clearStamps _ _ => true
  | .setClock _ _ => true
  | .commandCodeInvalid _ code _ => 5 < code.toNat
  | .clockSetWordWrite _ _ _ => true
  | .eventWordRead _ => true
  | .profileWordWrite addr _ _ => addr.toNat < 127
  | .adoptionRequest _ _ => true
  | .calendarWrite _ _ _ => true
  | .loanDescriptiveWrite _ _ _ => true
  | .guardedWrite _ _ _ => true
  | .heldAccessResume => true
  | .engineTakeEntry => true
  | .fetchReadDone => true
  | .commitAdmit => true
  | .sweepStepStart => true
  | .clockAdvance => true
  | .listLoadReadDone => true
  | .pwqGroupAdmit pick => pick < Config.pwqDepth
  | .pwqDrain => true
  | .wandEdge _ => true
  | .quietTimeReached => true
  | .barTooLong => true
  | .passDecode => true
  | .scanRecordWrite => true
  | .repeatGuardExpire => true
  | .idleTimerExpire => true
  | .slipComposed => true
  | .printerByteSent _ => true
  | .prnBusyRelease => true
  | .prnPaperOut _ => true
  | .paperRestored => true
  | .slipPrinted => true
  | .systemEntryAppend => true
  | .uplReady _ => true
  | .lineWaitTimeout => true
  | .frameSent => true
  | .ackTimeout => true
  | .batchReadDone => true
  | .welcome _ _ _ _ => true
  | .ack _ => true
  | .nakResend _ => true
  | .nakAbort _ => true
  | .bye => true
  | .frameDiscarded _ => true
  | .receiverTimeout => true
  | .pfail => true
  | .reset => true
  | .stopParked => true
  | .pfailRelease => true
  | .resetRelease => true
  | .start => true
  | .powerOn => true
  | .mainPowerLoss => true
  | .vbackupLoss => true
  | .startProfileReadDone => true
  | .startStatusReadDone => true
  | .sounderSegmentEnd => true
  | .forwardedUpstreamAccess => true

end Sys2Proof
end

