-- ==== Sys2Proof/Tests/Slice0.lean ====
section
/-! SUPPORT. The model's own tests: ill-formed commands that WellFormed refuses, worked cases of the spec, and, for each statement
that has hypotheses, a state and operands that meet them. Expected results come from the spec's text, not from the model. -/

namespace Sys2Proof.Machine

set_option Elab.async false

/-! ### WellFormed -/

theorem test_payment_of_zero_is_ill_formed : (Instr.payment 5#22 0#32 fullWord).wellFormed = false := by decide

theorem test_code_five_is_a_command : (Instr.commandCodeInvalid 5#22 5#32 fullWord).wellFormed = false := by decide

theorem test_word_127_is_a_request : (Instr.profileWordWrite 127#22 0#32 fullWord).wellFormed = false := by decide

theorem test_pick_beyond_the_line : (Instr.pwqGroupAdmit 24).wellFormed = false := by decide

theorem test_payment_of_one_is_well_formed : (Instr.payment 5#22 1#32 fullWord).wellFormed = true := by decide

theorem test_no_row_gives_bits : decodeTableWord 32 1 = none := by decide

/-! ### Worked cases of the spec -/

/-- R140: the check value of the nine bytes 0x31 to 0x39 is 0x29B1. -/
theorem test_crc_check_value :
    crc16 [0x31#8, 0x32#8, 0x33#8, 0x34#8, 0x35#8, 0x36#8, 0x37#8, 0x38#8, 0x39#8] = 0x29B1#16 := by decide +kernel

/-- Table 4-5: day 11,416 is Friday 2031-04-04. -/
theorem test_date_of_day_11416 : dateOf 11416 = ⟨2031, 4, 4⟩ ∧ weekday 11416 = 4 := ⟨rfl, rfl⟩

/-- R44: day 36,524 is 2099-12-31. -/
theorem test_last_day : dateOf 36524 = ⟨2099, 12, 31⟩ ∧ dayNumber 2099 12 31 = 36524 := ⟨rfl, rfl⟩

/-- The snapshot of the worked cases of Chapters 4 and 5: the default weekly hours, and day 11,416 closed. -/
def workedCal : OpenCal := ⟨defaultProfile.weeklyHours, [11416]⟩

/-- Case 1 of the fines: due (11,417, 960), returned (11,426, 630), grace 1, rate 25, cap 500. -/
theorem test_fine_case_1 : workedCal.fine false ⟨11417, 960⟩ ⟨11426, 630⟩ 1 25 500 = 150 := by decide

/-- R171: no value of the default profile is clamped. -/
theorem test_default_profile_is_in_range : defaultProfile.clamp = defaultProfile := by decide

/-- Seven elements of a character with two wide positions. -/
def character (p q : Nat) : List Nat := (List.range 7).map fun i => if i + 1 = p ∨ i + 1 = q then 750 else 250

/-- START, PATRON, the digits 4 and 8, the check digit 2 (R106: 10 − (3 · 8 + 4) mod 10) and STOP, with gaps between. -/
def cardWidths : List Nat :=
  character 1 3 ++ [250] ++ character 3 7 ++ [250] ++ character 1 7 ++ [250] ++ character 2 7 ++ [250] ++ character 1 5 ++
    [250] ++ character 3 6

theorem test_card_read_forward : decodePass cardWidths = .content ⟨true, false, [4, 8]⟩ := by decide

theorem test_card_read_backward : decodePass cardWidths.reverse = .content ⟨true, true, [4, 8]⟩ := by decide

theorem test_length_38_is_no_symbol : decodePass (cardWidths.take 38) = .error 1 := by decide

/-! ### A small desk -/

/-- 32 borrowers, 16 loan slots, the scan ring, a journal of 32 entries, the STATUS block and the CALENDAR window. -/
def deskProfile : Profile :=
  { defaultProfile with
    borrowerWin := ⟨true, 8, 0x1000#22⟩
    loanWin := ⟨true, 8, 0x2000#22⟩
    scanWin := ⟨true, 7, 0x3000#22⟩
    journalWin := ⟨true, 8, 0x4000#22⟩
    statusWin := ⟨true, 6, 0x5000#22⟩
    calendarWin := ⟨true, 6, 0x6000#22⟩
    idleTimeout := 60
    slipEnable := true }

/-- The desk at work with nothing in hand. -/
def desk : State :=
  { State.reset with
    path := { State.reset.path with state := .running, stage := .none }
    profile := { State.reset.profile with active := deskProfile } }

/-- STATUS word `n`. -/
def statusA (n : Nat) : Addr := BitVec.ofNat 22 (0x5000 + n)

/-- Word `n` of loan slot 3. -/
def slotA (n : Nat) : Addr := BitVec.ofNat 22 (0x2030 + n)

/-- Word `n` of borrower 5. -/
def borrowerA (n : Nat) : Addr := BitVec.ofNat 22 (0x1028 + n)

/-- The desk with the state of slot 3 known and `n` entries in the CRQ. -/
def deskCrq (st : LoanState) (n : Nat) : State :=
  { desk with engine := { desk.engine with stateMap := [(3, st)], crq := List.replicate n (.patronOpen 0) } }

/-- The desk with a visit of borrower 5 open. -/
def deskVisit (list : List SlipEntry) (crq : Nat) : State :=
  { desk with
    engine := { desk.engine with crq := List.replicate crq (.patronOpen 0) }
    visit := { desk.visit with
      visit := some ⟨5, .clear, desk.reading, list, false⟩, idleTimer := some 1, patronCopy := 5#32 } }

/-- A slip list entry. -/
def anEntry : SlipEntry := ⟨3, ⟨100, 1080⟩, false, false, false, [1, 2]⟩

/-- The desk with an access before the store. -/
def deskHeld (a : Access) (why : Hold) : State := { desk with path := { desk.path with upstream := .held a why } }

/-- The desk with an operation in the engine. -/
def deskOp (st : EngineState) (op : Op) (waiting : List Group) : State :=
  { desk with
    engine := { desk.engine with state := st, op := some op }
    path := { desk.path with waiting := waiting } }

/-- An operation with nothing fetched. -/
def anOp (k : OpKind) (todo : List FetchWord) (b : Option Nat) : Op := ⟨k, todo, [], [], b, none, none⟩

/-- The engine's commit group alone in the line. -/
def commitLine : List Group := [⟨.engineCommit, [], false⟩]

/-- The desk at the profile `p`. -/
def deskAt (p : Profile) : State := { desk with profile := { desk.profile with active := p } }

/-- The desk with another Wand Front End. -/
def deskWand (w : Wand) (bar : Bool) : State := { desk with wand := w, pins := { desk.pins with wandBar := bar } }

/-- The desk with another Upload Engine. -/
def deskUpload (u : Upload) : State := { desk with upload := u }

/-- The outstanding batch of one entry. -/
def aBatch : Batch := ⟨1#16, 1, []⟩

/-- The Upload Engine in SENDING with a batch out. -/
def sending (reading timer : Bool) (short long : Nat) : Upload :=
  { Upload.freshWith deskProfile.upload with
    state := .sending, outstanding := some aBatch, reading := reading, ackTimer := timer, shortRetries := short
    longRetries := long }

/-! ### States that meet the hypotheses of the statements -/

theorem wit_StepTakesFrontCommand :
    (desk.setPending [.pwqDrain]).pending = .pwqDrain :: [] ∧ desk.pending = [] := by decide +kernel

theorem wit_EveryCommandAnswers : ∃ t, exec .pwqDrain desk = .next t ∧ t.pending = desk.pending := ⟨_, rfl, rfl⟩

/-- A drain that changes the store, and a judged write that does. -/
theorem wit_OnlyStoreAccessesWriteStore :
    (∃ t, exec .pwqDrain { desk with path := { desk.path with pwq := [⟨5#22, 1#32⟩] } } = .next t ∧ t.store = [(20, 1#8)]) ∧
      ∃ t, exec .forwardedUpstreamAccess { desk with path := { desk.path with
        upstream := .forwarded ⟨true, 5#22, 1#32, fullWord⟩ } } = .next t ∧ t.store = [(20, 1#8)] :=
  ⟨⟨_, rfl, by decide +kernel⟩, _, rfl, by decide +kernel⟩

theorem wit_StepKeepsStoreForm : StoreLaw desk ∧ step desk = .next desk := ⟨rfl, rfl⟩

theorem wit_StepKeepsClockLaw :
    ClockLaw { desk with calendar := { desk.calendar with day := 36524, minute := 1439, second := 59 } } := by
  unfold ClockLaw
  decide +kernel

theorem wit_StepKeepsScanRingLaw : ScanRingLaw { desk with wand := { desk.wand with producer := 32#16 } } := by
  unfold ScanRingLaw
  decide +kernel

theorem wit_StepKeepsJournalLaw : JournalLaw { desk with journal := { desk.journal with head := 32#32 } } := by
  unfold JournalLaw
  refine ⟨by decide +kernel, by decide +kernel, ?_, ?_, ?_⟩
  · intro b h
    cases h
  · intro h
    exact absurd rfl h
  · intro h
    cases h

/-- A state that an ACK of its outstanding batch of one entry moves the tail of. -/
theorem wit_StepKeepsJournalLaw_tail :
    let s : State := { deskUpload (sending false false 0 0) with
      journal := { desk.journal with head := 1#32 }, pending := [.ack 1#16] }
    JournalLaw s ∧ Delivers (.ack 1#16) ∧ s.upload.outstanding = some aBatch ∧ aBatch.count = 1 := by
  refine ⟨⟨by decide +kernel, by decide +kernel, ?_, ?_, ?_⟩, trivial, rfl, rfl⟩
  · intro b h
    cases h
    decide +kernel
  · intro h
    exact absurd rfl h
  · intro h
    cases h

theorem wit_StepKeepsQueueLaw : QueueLaw (deskCrq .lent 16) := by
  unfold QueueLaw
  refine ⟨by decide +kernel, by decide +kernel, by decide +kernel, by decide +kernel, ?_, ?_⟩
  · intro v h
    cases h
  · intro op p h
    cases h

theorem wit_TakenRequestJoinsCrq : ∀ st ∈ [LoanState.empty, .refused, .returned, .lent, .overdue],
    LoanWriteJudged (deskCrq st 15) (slotA 0) 3 st ∧ (deskCrq st 15).engine.crq.length < 16 := by
  unfold LoanWriteJudged WriteJudged Presented
  decide +kernel

theorem wit_RefusedWritesOnlyReport_loan :
    ∀ st ∈ [LoanState.empty, .refused, .returned, .lent, .overdue, .inProgress],
      LoanWriteJudged (deskCrq st 0) (slotA 0) 3 st := by
  unfold LoanWriteJudged WriteJudged Presented
  decide +kernel

/-- The write of the first value above the four requests, by the row of any other write. -/
theorem wit_RefusedWritesOnlyReport_value :
    accessOf (.guardedWrite (slotA 0) 4#32 fullWord) = some ⟨true, slotA 0, 4#32, fullWord⟩ ∧ 3 < (4#32 : Word).toNat := by
  decide

theorem wit_RefusedWritesOnlyReport_payment : PaymentJudged desk (borrowerA 5) 5 ∧ (7#4 : Strobes) ≠ fullWord := by
  unfold PaymentJudged WriteJudged Presented
  decide +kernel

theorem wit_RefusedWritesOnlyReport_command :
    StatusWriteJudged (deskUpload (sending false false 0 0)) (statusA 2) 2 ∧
      (deskUpload (sending false false 0 0)).upload.state ≠ .idle ∧ desk.visit.lastSlip = none ∧
      desk.calendar.mark3 = false ∧ 5 < (6#32 : Word).toNat := by
  unfold StatusWriteJudged WriteJudged Presented
  decide +kernel

theorem wit_SlotClearPasses : ∀ st ∈ [LoanState.empty, .refused, .returned],
    LoanWriteJudged (deskCrq st 0) (slotA 0) 3 st := by
  unfold LoanWriteJudged WriteJudged Presented
  decide +kernel

/-- Word 4 of the slot, whose status read finds the slot EMPTY, or with the store's word LENT. -/
theorem wit_StatusReadJudgesHeldWrite :
    let a : Access := ⟨true, slotA 4, 1#32, fullWord⟩
    ∀ s ∈ [deskHeld a .statusRead, (deskHeld a .statusRead).setStore [(4 * 0x2030, 5#8)]],
      s.path.upstream = .held a .statusRead ∧ s.service = true ∧ s.path.state = .running ∧
        s.active.loanWin.hits a.addr = true ∧ s.active.loanWin.offset a.addr = 52 ∧ granted s = some .upstream ∧
        busyAt s a.addr = false ∧ queueHolds s a.addr = false ∧ regionOf s.active a.addr = .window .loan 52 ∧ 52 % 16 = 4 ∧
        (∀ k ∈ [WindowKind.borrower, .scan, .journal, .status, .calendar], s.active.hits k a.addr = false) := by
  decide +kernel

theorem wit_PaymentWriteTaken : PaymentJudged (deskCrq .lent 15) (borrowerA 5) 5 ∧
    (deskCrq .lent 15).engine.crq.length < 16 := by
  unfold PaymentJudged WriteJudged Presented
  decide +kernel

theorem wit_FullCrqHoldsRequests :
    (∀ st ∈ [LoanState.empty, .refused, .returned, .lent, .overdue], LoanWriteJudged (deskCrq st 16) (slotA 0) 3 st) ∧
      PaymentJudged (deskCrq .lent 16) (borrowerA 5) 5 ∧ StatusWriteJudged (deskCrq .lent 16) (statusA 0) 0 ∧
      (mergeLanes (deskCrq .lent 16).visit.patronCopy 31#32 fullWord).toNat < (deskCrq .lent 16).active.borrowerCount := by
  unfold LoanWriteJudged PaymentJudged StatusWriteJudged WriteJudged Presented
  decide +kernel

theorem wit_IdleEngineTakesWork :
    (deskCrq .lent 1).engine.state = .idle ∧ (deskCrq .lent 1).engine.crq = .patronOpen 0 :: [] ∧
      (let s : State := { desk with engine := { desk.engine with sweep := { desk.engine.sweep with state := .running } } };
      s.engine.state = .idle ∧ s.engine.crq = [] ∧ s.path.state = .running ∧ s.engine.sweep.state = .running) := by
  decide +kernel

/-- The fetch of slot 3's w0, and of its w1, which names no borrower or borrower 31, the last of the desk. -/
theorem wit_FetchReadKept :
    (let op := anOp (.entry (.loan 3)) [.slot 0, .slot 1] none;
      (deskOp .fetch op []).engine.op = some op ∧ readServed (deskOp .fetch op []) .engine (slotA 0) = true ∧
        fetchAddr (deskOp .fetch op []) op (.slot 0) = slotA 0) ∧
    (let op := anOp (.entry (.loan 3)) [.slot 1, .slot 2] none;
      (∀ v ∈ [31#8, 32#8], readServed ((deskOp .fetch op []).setStore [(4 * 0x2031, v)]) .engine (slotA 1) = true) ∧
      field (internalRead ((deskOp .fetch op []).setStore [(4 * 0x2031, 31#8)]) (slotA 1)) 0 16 < deskProfile.borrowerCount ∧
      deskProfile.borrowerCount ≤ field (internalRead ((deskOp .fetch op []).setStore [(4 * 0x2031, 32#8)]) (slotA 1)) 0 16) := by
  decide +kernel

/-- The last read of a PAYMENT, a RETURN and a PATRON_OPEN, the clock valid or not, with a list load and without. -/
theorem wit_LastFetchReadDecides :
    ∀ k ∈ [OpKind.entry (.payment 5 100), .entry (.ret 3 .lent), .entry (.patronOpen 5)], ∀ valid ∈ [true, false],
      ∀ load ∈ [none, some 0],
        let op := anOp k [.borrower 4] (some 5)
        let s : State := { deskOp .fetch op [] with calendar := { desk.calendar with valid := valid, load := load } }
        s.engine.op = some op ∧ op.todo = [.borrower 4] ∧ readServed s .engine (fetchAddr s op (.borrower 4)) = true := by
  decide +kernel

/-- A step on slot 3 whose status word is `code`, at its read of a w6 that falls due on day 100, against day `day`. -/
def sweepRead (code day : Nat) (recovery : Bool) (slotWords : List (Nat × Word)) : State × Op :=
  let op : Op := { anOp (.sweepStep 3 (some ⟨day, 0⟩)) [.slot 6] none with slotWords := (0, word code) :: slotWords }
  let s := deskOp .fetch op []
  ({ s with
    store := [(4 * 0x2036 + 2, 100#8)]
    engine := { s.engine with sweep := { s.engine.sweep with state := .running, recovery := recovery, cursor := 14 } } }, op)

/-- Past due by a day with w1 unread and read, due on the target's day, and interrupted. -/
theorem wit_LastFetchReadDecides_sweep :
    ∀ x ∈ [(sweepRead 5 101 false [], LoanState.lent, true), (sweepRead 5 101 false [(1, 0#32)], .lent, true),
      (sweepRead 5 100 true [], .lent, false), (sweepRead 0x14 101 true [], .inProgress, true)],
      let op1 := x.1.2.keep (.slot 6) (internalRead x.1.1 (slotA 6))
      readServed x.1.1 .engine (fetchAddr x.1.1 x.1.2 (.slot 6)) = true ∧ op1.status.state = x.2.1 ∧
        op1.status.hourLoan = false ∧ decide (op1.due.day < (if x.2.2 then 101 else 100)) = x.2.2 ∧
        x.1.1.engine.sweep.cursor + 1 < x.1.1.active.loanCount := by
  decide +kernel

/-- A step that finds nothing past due, at the last slot. -/
theorem wit_LastFetchReadDecides_end :
    let s0 := (sweepRead 5 100 false []).1
    let s : State := { s0 with engine := { s0.engine with sweep := { s0.engine.sweep with cursor := 15 } } }
    s.engine.sweep.state = .running ∧ s.path.state = .running ∧ FinishAdoptsNothing s ∧
      s.active.loanCount ≤ (sweepAfterStep s s.engine.sweep.marks).1.cursor ∧
      readServed s .engine (fetchAddr s (sweepRead 5 100 false []).2 (.slot 6)) = true := by
  unfold FinishAdoptsNothing
  decide +kernel

/-- A candidate whose JOURNAL descriptor is `w5`. -/
def aCandidate (w5 : Word) : List Word := [1#32, 0#32, 0#32, 0#32, 0#32, w5] ++ List.replicate 122 0#32

/-- A state with that candidate waiting. -/
def withCandidate (w5 : Word) (s : State) : State :=
  { s with profile := { s.profile with candidate := some (aCandidate w5) } }

/-- Candidates that keep and that move the journal, an upload that runs and one that does not, and a ring that is empty and one
that is not. -/
theorem wit_JudgedAfter :
    (readProfile (aCandidate 0x88004000#32)).clamp.journalWin = desk.active.journalWin ∧
      (readProfile (aCandidate 0#32)).clamp.journalWin ≠ desk.active.journalWin ∧
      desk.upload.state = .idle ∧ (deskUpload (sending false false 0 0)).upload.state ≠ .idle ∧
      desk.journal.head = desk.journal.tail ∧ (1#32 : Word) ≠ desk.journal.tail ∧ ¬ AdoptsNothing (withCandidate 0#32 desk) ∧
      AdoptsNothing desk ∧ AdoptsNothing (withCandidate 0#32 (deskVisit [] 0)) := by
  unfold AdoptsNothing
  decide +kernel

/-- A step that finds nothing past due, with a candidate waiting. -/
theorem wit_LastFetchReadDecides_candidate :
    let s := withCandidate 0#32 (sweepRead 5 100 false []).1
    readServed s .engine (fetchAddr s (sweepRead 5 100 false []).2 (.slot 6)) = true ∧ s.visit.visit = none ∧
      s.engine.crq = [] ∧ s.path.state = .running :=
  ⟨by decide +kernel, rfl, rfl, rfl⟩

/-- A PAYMENT, a RETURN with a borrower and without, and a PATRON_OPEN in COMMIT at a queue of 8. -/
theorem wit_EntriesCommit :
    let r : Reading := ⟨100, 600, 0, true⟩
    let pay := anOp (.entry (.payment 5 100)) [] (some 5)
    let ret (b : Option Nat) := anOp (.entry (.ret 3 .overdue)) [] b
    ∀ x ∈ [(pay, Decided.plan (paid deskProfile pay 5 100 r)),
      (ret none, .plan (returned deskProfile (ret none) 3 .overdue r 0)),
      (ret (some 5), .plan (returned deskProfile (ret (some 5)) 3 .overdue r 25)),
      (anOp (.entry (.patronOpen 5)) [] (some 5), .patron 0#32 ⟨true, false, false, false, false⟩ 0 [])],
      let op : Op := { x.1 with decided := some x.2 }
      let s := deskOp .commit op commitLine
      CommitReady { s with path := { s.path with pwq := List.replicate 8 ⟨0#22, 0#32⟩ } } op x.2 := by
  unfold CommitReady CommitAdmitted FinishAdoptsNothing
  decide +kernel

/-- One free journal entry, and none; a visit that stands, and one of another borrower. -/
theorem wit_EntriesCommit_journal :
    State.freeEntries { desk with journal := { desk.journal with head := 31#32 } } = 1 ∧
      State.freeEntries { desk with journal := { desk.journal with head := 32#32 } } = 0 ∧
      (deskVisit [] 0).visiting 5 = true ∧ (deskVisit [] 0).visiting 6 = false := by
  decide +kernel

/-- A PAYMENT in COMMIT with a candidate waiting and no visit, and with a visit that keeps it waiting; one without a STATUS
window. -/
theorem wit_EntriesCommit_candidate :
    let pay := anOp (.entry (.payment 5 100)) [] (some 5)
    let op : Op := { pay with decided := some (.plan (paid deskProfile pay 5 100 ⟨100, 600, 0, true⟩)) }
    let s : State := { deskOp .commit op commitLine with
      profile := { desk.profile with candidate := some (List.replicate 128 0#32) } }
    let bare : State := { deskOp .commit op commitLine with
      profile := { desk.profile with active := { deskProfile with statusWin := ⟨false, 6, 0#22⟩ } } }
    (∀ d ∈ op.decided, CommitAdmitted s op d) ∧ s.visit.visit = none ∧ s.engine.crq = [] ∧ s.path.state = .running ∧
      FinishAdoptsNothing { s with visit := (deskVisit [] 0).visit } ∧ (∀ d ∈ op.decided, CommitReady bare op d) := by
  unfold CommitReady CommitAdmitted FinishAdoptsNothing
  decide +kernel

/-- The last read of a LOAN of borrower 5, with the clock valid and the visit open. -/
def lastRead (b : Nat) (p : Profile) (w : Word) (head : Word) : State :=
  { deskVisit [] 0 with
    profile := { desk.profile with active := p }
    calendar := { desk.calendar with valid := true, day := 100 }
    journal := { desk.journal with head := head }
    engine := { desk.engine with
      state := .fetch
      op := some ⟨.entry (.loan 3), [.borrower 6], [(1, word b)], [(0, 0#32), (3, w), (4, 0#32)], some b, none, none⟩ } }

/-- A borrower that names none, one without the visit, and one with it; each limit of Table 1-8 reached and not reached. -/
theorem wit_LoanAndRenewDecided :
    readServed (lastRead 5 deskProfile 0#32 0#32) .engine (borrowerA 6) = true ∧
      (lastRead 5 deskProfile 0#32 0#32).calendar.valid = true ∧
      (lastRead 5 deskProfile 0#32 0#32).visiting 5 = true ∧ (lastRead 6 deskProfile 0#32 0#32).visiting 6 = false ∧
      (deskProfile.itemClass 0).loanable = true ∧ (deskProfile.itemClass 0).hours = false ∧
      (lastRead 5 deskProfile 0#32 24#32).freeEntries ≤ deskProfile.reserve ∧
      deskProfile.reserve < (lastRead 5 deskProfile 0#32 23#32).freeEntries ∧
      (deskProfile.borrowerClass 0).loanLimit ≤ (readBorrower 0#32 10#32 0#32).loansOut ∧
      (readBorrower 0#32 9#32 0#32).loansOut < (deskProfile.borrowerClass 0).loanLimit ∧
      (deskProfile.borrowerClass 0).overdueLimit < (readBorrower 0#32 0x100#32 0#32).overdueCount ∧
      (readBorrower 8#32 0#32 0#32).manualBlock = true ∧
      (readBorrower (word (99 * 65536)) 0#32 0#32).expiry + (deskProfile.borrowerClass 0).cardGrace < 100 ∧
      100 ≤ (readBorrower (word (100 * 65536)) 0#32 0#32).expiry + (deskProfile.borrowerClass 0).cardGrace := by
  decide +kernel

/-- Each answer to a due request, and a due instant later and earlier than the one a RENEW had. -/
theorem wit_LoanAndRenewDecided_due :
    let cal : OpenCal := ⟨deskProfile.weeklyHours, []⟩
    cal.due false ⟨36524, 600⟩ 21 0 36524 false = .dateLimit ∧ cal.due false ⟨100, 600⟩ 21 0 100 true = .expiryNear ∧
      (match cal.due false ⟨100, 600⟩ 21 0 36524 true with
        | .due d _ _ => Instant.before ⟨100, 0⟩ d && !Instant.before ⟨200, 0⟩ d
        | _ => false) = true ∧
      (readStatus 5#32).renewals < (deskProfile.itemClass 0).renewalLimit ∧
      (deskProfile.itemClass 0).renewalLimit ≤ (readStatus 0x90005#32).renewals := by
  decide +kernel

/-- A granted LOAN of borrower 5 in COMMIT. -/
def grantOp : Op :=
  let op0 : Op := ⟨.entry (.loan 3), [], [(1, 5#32)], [], some 5, some ⟨100, 600, 0, true⟩, none⟩
  { op0 with decided := some (.grant (loanGranted deskProfile op0 3 ⟨100, 600, 0, true⟩ ⟨121, 1080⟩ false false)) }

/-- The commit of a grant: with 9 entries free above a reserve of 8; with the visit closed; with 8 free. -/
def grantState (list : List SlipEntry) (head : Word) : State :=
  { deskVisit list 0 with
    engine := { desk.engine with state := .commit, op := some grantOp }
    path := { desk.path with waiting := commitLine }
    journal := { desk.journal with head := head } }

theorem wit_GrantsCommit :
    let p := loanGranted deskProfile { grantOp with decided := none } 3 ⟨100, 600, 0, true⟩ ⟨121, 1080⟩ false false
    let s (n : Nat) := grantState (List.replicate n anEntry) 23#32
    CommitReady (s 15) grantOp (.grant p) ∧ grantOp.index = 5 ∧ p.entry.isSome = true ∧ p.status.isSome = true ∧
      p.slip.isSome = true ∧ (p.mapState, p.link, p.resolved, p.reason, p.tone) = (some .lent, true, none, none, some .lent) ∧
      p.borrowerWords.length ≤ 2 ∧ p.slotWords.length ≤ 3 ∧ (∀ ev ∈ p.events, ev.record = none ∧ ev.place < 15) ∧
      (s 15).active.reserve < (s 15).freeEntries ∧
      ((s 15).visit.visit.map fun v => (v.patron, v.list.length)) = some (5, 15) ∧
      ((s 16).visit.visit.map fun v => (v.patron, v.list.length)) = some (5, 16) ∧ (s 16).path.state = .running ∧
      (s 16).path.waiting.length = 1 ∧ (s 16).path.pwq.length ≤ 7 ∧ (s 16).active.slipEnable = true ∧
      (s 16).visit.slips.length = 0 ∧
      State.visiting { s 16 with visit := { (s 16).visit with slips := List.replicate 4 (.ready [0x0C#8]) } } 5 = true := by
  unfold CommitReady CommitAdmitted FinishAdoptsNothing
  decide +kernel

/-- A granted RENEW of borrower 5 in COMMIT. -/
def renewOp : Op :=
  let op0 : Op := { grantOp with kind := .entry (.renew 3 .lent), decided := none }
  { op0 with decided := some (.grant (renewGranted op0 3 ⟨100, 600, 0, true⟩ ⟨121, 1080⟩ false false)) }

theorem wit_GrantsCommit_renew :
    let p := renewGranted { renewOp with decided := none } 3 ⟨100, 600, 0, true⟩ ⟨121, 1080⟩ false false
    let s : State := { grantState [] 23#32 with engine := { desk.engine with state := .commit, op := some renewOp } }
    CommitReady s renewOp (.grant p) ∧ p.entry.isSome = true ∧ p.status.isSome = true ∧ p.slip.isSome = true ∧
      (p.mapState, p.link, p.resolved, p.reason, p.tone) = (some .lent, true, none, none, some .lent) ∧
      p.borrowerWords.length ≤ 2 ∧ p.slotWords.length ≤ 3 ∧ (∀ ev ∈ p.events, ev.record = none ∧ ev.place < 15) := by
  unfold CommitReady CommitAdmitted FinishAdoptsNothing
  decide +kernel

/-- 8 free entries at a reserve of 8, and none free; the visit open and closed; refusals journalled and not. -/
theorem wit_GrantRejudgedAtCommit :
    (grantState [] 24#32).visiting grantOp.index = true ∧
      (grantState [] 24#32).freeEntries ≤ (grantState [] 24#32).active.reserve ∧ 0 < (grantState [] 24#32).freeEntries ∧
      (grantState [] 32#32).freeEntries = 0 ∧
      State.visiting { grantState [] 0#32 with visit := desk.visit } grantOp.index = false ∧
      deskProfile.journalRefusals = false ∧
      (∀ d ∈ [grantOp.decided], ∀ x ∈ d, CommitReady (grantState [] 24#32) grantOp x) ∧
      (∀ x ∈ renewOp.decided, CommitReady
        { grantState [] 24#32 with engine := { desk.engine with state := .commit, op := some renewOp } } renewOp x) := by
  unfold CommitReady CommitAdmitted FinishAdoptsNothing
  decide +kernel

/-- A mark before a journal of one free entry and a full one, with and without a borrower, and a resolution; the last slot
of the sweep, and the one before. -/
theorem wit_SweepStepCommitsOrPauses :
    let op0 (b : Option Nat) := anOp (.sweepStep 3 (some ⟨100, 0⟩)) [] b
    let op (b : Option Nat) (d : Decided) : Op := { op0 b with decided := some d }
    let mark := marked deskProfile (op0 (some 5)) 3 ⟨100, 0, 0, true⟩
    let s (o : Op) (n : Word) (cursor : Nat) : State :=
      let s0 := deskOp .commit o commitLine
      { s0 with
        journal := { s0.journal with head := n }
        engine := { s0.engine with sweep := { s0.engine.sweep with state := .running, cursor := cursor } } }
    CommitReady (s (op (some 5) (.plan mark)) 31#32 14) (op (some 5) (.plan mark)) (.plan mark) ∧
      CommitReady (s (op none (.plan (resolution (op0 none)))) 32#32 15) (op none (.plan (resolution (op0 none))))
        (.plan (resolution (op0 none))) ∧
      mark.entry.isSome = true ∧ (s (op0 none) 31#32 14).freeEntries = 1 ∧ (s (op0 none) 32#32 15).freeEntries = 0 ∧
      (sweepAfterStep (s (op0 none) 31#32 14) 0).1.state = .running ∧
      (sweepAfterStep (s (op0 none) 32#32 15) 0).1.state = .idle := by
  unfold CommitReady CommitAdmitted FinishAdoptsNothing
  decide +kernel

/-- An opening write that closes a visit and one that closes none. -/
theorem wit_PatronOpens :
    StatusWriteJudged (deskVisit [anEntry] 15) (statusA 0) 0 ∧
      (mergeLanes (deskVisit [anEntry] 15).visit.patronCopy 31#32 fullWord).toNat < deskProfile.borrowerCount ∧
      (deskVisit [anEntry] 15).visiting 31 = false ∧ NoAdoption (deskVisit [anEntry] 15) ∧
      StatusWriteJudged desk (statusA 0) 0 ∧ desk.visit.visit = none := by
  unfold StatusWriteJudged WriteJudged Presented NoAdoption
  decide +kernel

/-- The shadow of 128 words that the request of word 127 makes good: format 1 and a sum of 0. -/
def goodShadow (w5 : Word) : List Word :=
  [1#32, 0#32, 0#32, 0#32, 0#32, w5] ++ List.replicate 120 0#32 ++ [0#32 - 1#32 - w5, 0#32]

/-- Word 5 of a profile that keeps the desk's JOURNAL window. -/
def keepsJournal : Word := 0x88004000#32

/-- The shadow a request of word 127 with the value 0 leaves. -/
def mergedShadow (ws : List Word) : List Word := ws.set 127 (mergeLanes (nth ws 127) 0#32 fullWord)

/-- An opening write whose close lets a candidate that disables the STATUS window be adopted. -/
theorem wit_PatronOpens_adoption :
    let s : State := { deskVisit [anEntry] 0 with
      profile := { desk.profile with candidate := some (mergedShadow (goodShadow keepsJournal)) } }
    let new := (readProfile (mergedShadow (goodShadow keepsJournal))).clamp
    StatusWriteJudged s (statusA 0) 0 ∧ s.visiting 31 = false ∧ s.visit.visit ≠ none ∧ s.engine.crq = [] ∧
      s.engine.op = none ∧ new.journalWin = s.active.journalWin ∧ new.statusWin.enable = false ∧
      regionOf new (statusA 0) = .outside := by
  unfold StatusWriteJudged WriteJudged Presented
  decide +kernel

theorem wit_PatronRefreshed :
    StatusWriteJudged (deskVisit [] 15) (statusA 0) 0 ∧
      mergeLanes (deskVisit [] 15).visit.patronCopy 0#32 2#4 = 5#32 ∧ (deskVisit [] 15).visiting 5 = true := by
  unfold StatusWriteJudged WriteJudged Presented
  decide +kernel

/-- 65,535 closes, and 32, one past the last borrower, is refused; the high lanes alone make 65,536 + 5. -/
theorem wit_PatronClosedOrRefused :
    StatusWriteJudged (deskVisit [anEntry] 0) (statusA 0) 0 ∧ NoAdoption (deskVisit [anEntry] 0) ∧
      mergeLanes (deskVisit [anEntry] 0).visit.patronCopy 65535#32 fullWord = 65535#32 ∧
      deskProfile.borrowerCount ≤ (mergeLanes (deskVisit [anEntry] 0).visit.patronCopy 32#32 fullWord).toNat ∧
      mergeLanes (deskVisit [anEntry] 0).visit.patronCopy 0x10000#32 4#4 = 65541#32 := by
  unfold StatusWriteJudged WriteJudged Presented NoAdoption
  decide +kernel

theorem wit_IdleTimerClosesVisit :
    (deskVisit [] 0).path.state = .running ∧ (deskVisit [] 0).visit.idleTimer = some 1 ∧ NoAdoption (deskVisit [] 0) := by
  unfold NoAdoption
  decide +kernel

/-- A close with a candidate waiting, by 65,535, by a value refused and by the idle timer. -/
theorem wit_PatronClosedOrRefused_candidate :
    let s := withCandidate 0#32 (deskVisit [anEntry] 0)
    StatusWriteJudged s (statusA 0) 0 ∧ s.visit.visit ≠ none ∧ s.visit.idleTimer = some 1 ∧ s.engine.crq = [] ∧
      s.engine.op = none ∧ mergeLanes s.visit.patronCopy 65535#32 fullWord = 65535#32 ∧
      (mergeLanes s.visit.patronCopy 32#32 fullWord).toNat = s.active.borrowerCount := by
  unfold StatusWriteJudged WriteJudged Presented
  decide +kernel

/-- The last segments of the patterns: the alarm's, at its twentieth, and the one before it. -/
theorem wit_SounderPlaysAndFallsSilent : StatusWriteJudged desk (statusA 2) 2 ∧ ∀ k ∈ [18, 19],
    (State.mk desk.store desk.pins desk.path desk.engine desk.calendar desk.wand desk.visit desk.journal desk.upload
      desk.profile { desk.events with sounder := some ⟨.alarm, k, 0⟩ } []).events.sounder = some ⟨.alarm, k, 0⟩ := by
  unfold StatusWriteJudged WriteJudged Presented
  decide +kernel

theorem wit_UploadNowStarts : StatusWriteJudged desk (statusA 2) 2 ∧ desk.upload.state = .idle := by
  unfold StatusWriteJudged WriteJudged Presented
  decide +kernel

theorem wit_ReprintQueuesLastSlip :
    let s : State := { desk with visit := { desk.visit with
      lastSlip := some [0x0C#8], slips := List.replicate 3 (.ready [0x0C#8]) } }
    StatusWriteJudged s (statusA 2) 2 ∧ s.visit.lastSlip = some [0x0C#8] ∧ s.visit.slips.length < 4 := by
  unfold StatusWriteJudged WriteJudged Presented
  decide +kernel

theorem wit_ClearStampsClears : StatusWriteJudged desk (statusA 2) 2 := by
  unfold StatusWriteJudged WriteJudged Presented
  decide +kernel

/-- The last second of the calendar, with the system queue open and full. -/
theorem wit_SetClockSets : ∀ n ∈ [3, 4],
    let s : State := { desk with
      calendar := { desk.calendar with
        copy3 := 36524#32, copy4 := word (1439 + 59 * 65536), mark3 := true, mark4 := true }
      journal := { desk.journal with systemQueue := List.replicate n (plainEntry .startUp desk.reading 0 0#32 0#32 0#32) } }
    StatusWriteJudged s (statusA 2) 2 ∧ s.calendar.copy3.toNat ≤ 36524 ∧ field s.calendar.copy4 0 16 ≤ 1439 ∧
      field s.calendar.copy4 16 8 ≤ 59 ∧ s.service = true ∧ s.engine.sweep.lastSwept < 36524 ∧ 0 < s.active.loanCount := by
  unfold StatusWriteJudged WriteJudged Presented
  decide +kernel

/-- The consumer at the producer, 32 behind it, and one past it. -/
theorem wit_ConsumerJudged :
    let s : State := { desk with wand := { desk.wand with producer := 40#16 } }
    StatusWriteJudged s (statusA 1) 1 ∧ (s.wand.producer - 40#16).toNat ≤ 32 ∧ (s.wand.producer - 8#16).toNat ≤ 32 ∧
      32 < (s.wand.producer - 41#16).toNat ∧ 32 < (s.wand.producer - 7#16).toNat := by
  unfold StatusWriteJudged WriteJudged Presented
  decide +kernel

/-- Words 3 and 4, CALENDAR words 60 and 61, profile word 126, and profile word 0 under a JOURNAL window laid over it. -/
theorem wit_SnoopedWritesMerge :
    StatusWriteJudged desk (statusA 3) 3 ∧ StatusWriteJudged desk (statusA 4) 4 ∧
      (∀ n ∈ [60, 61], WriteJudged desk (BitVec.ofNat 22 (0x6000 + n)) ∧
        regionOf desk.active (BitVec.ofNat 22 (0x6000 + n)) = .window .calendar n) ∧
      WriteJudged desk 126#22 ∧
      (let s := deskAt { deskProfile with journalWin := ⟨true, 8, 0#22⟩ }
      Presented s 0#22 ∧ queueHolds s 0#22 = false ∧ guardAt s 0#22 = .guarded) := by
  unfold StatusWriteJudged WriteJudged Presented
  decide +kernel

/-- Words 7 to 10 and a queued word; one event latched and enabled, and one latched that its mask leaves out. -/
theorem wit_EventWordAnswered :
    (let s : State := { deskAt { deskProfile with maskA := 1#15 } with events := { desk.events with latchA := 3#15 } }
    (s.events.latchA.getLsbD 0, s.active.maskA.getLsbD 0, s.events.latchA.getLsbD 1, s.active.maskA.getLsbD 1) =
      (true, true, true, false)) ∧
    (∀ n ∈ [7, 8, 9, 10], Presented desk (statusA n) ∧ regionOf desk.active (statusA n) = .window .status n) ∧
      (let s : State := { desk with path := { desk.path with pwq := [⟨5#22, 1#32⟩] } }
      Presented s 5#22 ∧ queued s.path.pwq 5#22 = some 1#32 ∧ queued s.path.pwq 6#22 = none) := by
  unfold Presented
  decide +kernel

/-- Every guarded word of a slot and of a borrower, the first and last words of the rings and of STATUS, and words that
pass. -/
theorem wit_GuardedWritesSuppressed :
    (∀ n ∈ [1, 2, 3, 4, 5, 6, 7, 13, 8, 15], Presented desk (slotA n) ∧ queueHolds desk (slotA n) = false ∧
      regionOf desk.active (slotA n) = .window .loan (48 + n) ∧
      (∀ k ∈ [WindowKind.borrower, .scan, .journal, .status, .calendar], desk.active.hits k (slotA n) = false)) ∧
    (∀ n ∈ [3, 4, 6, 5, 0, 7], Presented desk (borrowerA n) ∧ regionOf desk.active (borrowerA n) = .window .borrower (40 + n)) ∧
    (∀ n ∈ [0, 127], regionOf desk.active (BitVec.ofNat 22 (0x3000 + n)) = .window .scan n) ∧
    (∀ n ∈ [0, 255], regionOf desk.active (BitVec.ofNat 22 (0x4000 + n)) = .window .journal n) ∧
    (∀ n ∈ [5, 7, 8, 9, 10, 63], regionOf desk.active (statusA n) = .window .status n) ∧
    guardAt desk (statusA 8) = .free ∧ guardAt desk (slotA 8) = .free ∧ guardAt desk 0x7000#22 = .free ∧
    regionOf desk.active 0x7000#22 = .outside := by
  unfold Presented
  decide +kernel

/-- The first and the last word of no borrower, under a loan table laid over them. -/
theorem wit_GuardedWritesSuppressed_none :
    let s := deskAt { deskProfile with borrowerWin := ⟨true, 19, 0#22⟩, loanWin := ⟨true, 8, 0x7FFF8#22⟩ }
    ∀ n ∈ [0, 7], Presented s (s.active.borrowerAddr 65535 n) ∧ queueHolds s (s.active.borrowerAddr 65535 n) = false ∧
      s.active.loanWin.hits (s.active.borrowerAddr 65535 n) = true := by
  unfold Presented
  decide +kernel

/-- A word of loan slot 3 that the loan table leaves free and a STATUS block laid over it guards, and the first word of the
journal under a BORROWER table that leaves it free. -/
theorem wit_GuardedWritesSuppressed_overlap :
    (let s := deskAt { deskProfile with statusWin := ⟨true, 6, 0x2000#22⟩ };
      Presented s (slotA 8) ∧ queueHolds s (slotA 8) = false ∧ 128 ≤ (slotA 8).toNat ∧
        regionOf s.active (slotA 8) = .window .loan 56 ∧ s.active.hits .status (slotA 8) = true ∧
        WindowGuards s .status (s.active.wordIn .status (slotA 8))) ∧
    (let s := deskAt { deskProfile with borrowerWin := ⟨true, 8, 0x4000#22⟩ };
      Presented s 0x4000#22 ∧ regionOf s.active 0x4000#22 = .window .borrower 0 ∧ s.active.hits .journal 0x4000#22 = true ∧
        WindowGuards s .journal (s.active.wordIn .journal 0x4000#22)) := by
  unfold Presented
  simp only [WindowGuards]
  decide +kernel

/-- Arrivals: at a part that starts, at the first and the last word of a busy slot, at a queued word, and at the w0 of a slot
whose state is not known. -/
theorem wit_HeldAccessResumes_arrival :
    desk.pins.mainPower = true ∧ desk.path.upstream = .idle ∧ State.reset.pins.mainPower = true ∧
      State.reset.path.upstream = .idle ∧ State.reset.path.state ≠ .running ∧
      (∀ n ∈ [0, 15], desk.active.hits .loan (slotA n) = true ∧ desk.active.wordIn .loan (slotA n) / 16 = 3) ∧
      (∀ n ∈ [0, 7], desk.active.hits .borrower (borrowerA n) = true ∧ desk.active.wordIn .borrower (borrowerA n) / 8 = 5) ∧
      desk.service = true ∧ busyAt desk (slotA 0) = false ∧ queueHolds desk (slotA 0) = false ∧
      guardAt desk (slotA 0) = .free ∧ regionOf desk.active (slotA 0) = .window .loan (16 * 3) ∧
      mapGet desk.engine.stateMap 3 = none ∧ accessOf (.reqLoan (slotA 0) fullWord) = some ⟨true, slotA 0, 1#32, fullWord⟩ ∧
      accessOf (.eventWordRead (slotA 15)) = some ⟨false, slotA 15, 0#32, 0#4⟩ := by
  decide +kernel

/-- Each reason a hold has, ended and not ended, and the words the judgement meets then. -/
theorem wit_HeldAccessResumes :
    let a : Access := ⟨true, 0x7000#22, 1#32, fullWord⟩
    let r : Access := ⟨true, slotA 0, 2#32, fullWord⟩
    (∀ why ∈ [Hold.startStop, .busy, .ordering, .requestRoom],
      (deskHeld a why).path.upstream = .held a why ∧ busyAt (deskHeld a why) a.addr = false ∧
        queueHolds (deskHeld a why) a.addr = false ∧ guardAt (deskHeld a why) a.addr = .free ∧
        regionOf (deskHeld a why).active a.addr = .outside) ∧
    (let s : State := { deskCrq .lent 15 with path := (deskHeld r .requestRoom).path };
      busyAt s r.addr = false ∧ regionOf s.active r.addr = .window .loan (16 * 3) ∧
        mapGet s.engine.stateMap 3 = some .lent ∧ guardAt s r.addr = .free ∧ s.engine.crq.length < 16) ∧
    busyAt { deskHeld r .busy with engine := { desk.engine with busy := [.loan 3] } } r.addr = true ∧
    queueHolds { deskHeld r .ordering with path := { desk.path with pwq := [⟨slotA 0, 0#32⟩] } } r.addr = true ∧
    16 ≤ (deskCrq .lent 16).engine.crq.length := by
  decide +kernel

/-- A queue of 15 entries, none of the word. -/
theorem wit_StoreAccessMade : ∀ w ∈ [true, false],
    let a : Access := ⟨w, 5#22, 1#32, 8#4⟩
    let s : State := { desk with path := { desk.path with
      upstream := .forwarded a, pwq := List.replicate 15 ⟨6#22, 0#32⟩ } }
    s.path.upstream = .forwarded a ∧ s.path.pwq.length < 16 ∧ Memory.wf s.store = true := by
  decide +kernel

/-- The sum and the format of a merged shadow. -/
def sumAndFormat (ws : List Word) : Word × Nat := (sumWords (mergedShadow ws), field (nth (mergedShadow ws) 0) 0 8)

theorem wit_AdoptionRequestJudged_request : WriteJudged desk 127#22 ∧ (deskVisit [] 0).visit.visit ≠ none ∧
    desk.journal.head = desk.journal.tail ∧ desk.upload.state = .idle ∧
      (sending false false 0 0).state ≠ .idle := by
  unfold WriteJudged Presented
  decide +kernel

/-- A shadow whose check fails, one that is good and moves the journal, and one that is good and keeps it. -/
theorem wit_AdoptionRequestJudged_shadow :
    sumAndFormat (List.replicate 128 0#32) = (0#32, 0) ∧ sumAndFormat (goodShadow 0#32) = (0#32, 1) ∧
      sumAndFormat (goodShadow keepsJournal) = (0#32, 1) := by
  decide +kernel

theorem wit_AdoptionRequestJudged_journal :
    (readProfile (mergedShadow (goodShadow keepsJournal))).clamp.journalWin = desk.active.journalWin ∧
      (readProfile (mergedShadow (goodShadow 0#32))).clamp.journalWin ≠ desk.active.journalWin := by
  decide +kernel

/-- From MAINTENANCE to SERVICE over no loan slot and at a new STATUS block; from SERVICE to MAINTENANCE; and a moved loan
window under a running sweep. -/
theorem wit_AdoptionRequestJudged_effects :
    let serves := (readProfile (mergedShadow (goodShadow keepsJournal))).clamp
    let status := (readProfile ([1#32, 0#32, 0#32, 0#32, 0#32, keepsJournal, 0x86007000#32] ++ List.replicate 121 0#32)).clamp
    let stops := (readProfile (0x101#32 :: List.replicate 127 0#32)).clamp
    (serves.mode = .service ∧ (deskAt { deskProfile with mode := .maintenance }).active.mode = .maintenance ∧
      serves.loanCount = 0) ∧ stops.mode = .maintenance ∧ desk.active.mode = .service ∧
      serves.loanWin ≠ desk.active.loanWin ∧ status.statusWin.enable = true ∧
      desk.active.statusWin.aligned ≠ status.statusWin.aligned ∧ desk.journal.systemQueue.length < 4 := by
  decide +kernel

theorem wit_ClockAdvances :
    let at_ (d m k : Nat) (valid : Bool) : State := { desk with
      calendar := { desk.calendar with day := d, minute := m, second := k, valid := valid } }
    ClockLaw (at_ 0 0 58 true) ∧ ClockLaw (at_ 36524 1439 59 true) ∧ ClockLaw (at_ 0 1438 59 true) ∧
      ClockLaw (at_ 36523 1439 59 true) ∧ (at_ 36523 1439 59 true).service = true ∧
      (at_ 36523 1439 59 true).engine.sweep.lastSwept < 36524 ∧ 0 < (at_ 36523 1439 59 true).active.loanCount := by
  unfold ClockLaw
  decide +kernel

/-- The desk in a start's last stage, with the upstream access `u` held. -/
def deskStart (stage : StartStage) (u : Upstream) : State :=
  { desk with path := { desk.path with state := .starting, stage := stage, upstream := u } }

/-- A read of a word outside every window. -/
def heldRead : Upstream := .held ⟨false, 0x7000#22, 0#32, 0#4⟩ .startStop

/-- A start with no access held, and one with a held read of a word outside every window. -/
theorem wit_plainHeld (stage : StartStage) : ∀ u ∈ [Upstream.idle, heldRead], PlainHeld (deskStart stage u) deskProfile := by
  intro u hu
  rcases List.mem_pair.mp hu with rfl | rfl
  · exact .inl rfl
  · exact .inr ⟨_, rfl, by decide +kernel, fun _ h => (List.not_mem_nil h).elim, by decide +kernel⟩

/-- Word 59, and word 60 at a start, with the engine idle, and with a LOAN, a RENEW or a RETURN that waits. -/
theorem wit_ListLoadPlacesWords : ∀ n ∈ [59, 60], ∀ e ∈ [CrqEntry.loan 3, .ret 3 .lent, .renew 3 .lent],
    let load (s : State) : State := { s with calendar := { desk.calendar with load := some n } }
    let op : Op := ⟨.entry e, [], [], [], none, some ⟨100, 0, 0, true⟩, none⟩
    let waits : State := { desk with engine := { desk.engine with state := .decide, op := some op } }
    let a := deskProfile.calendarWin.at n
    readServed (load desk) .listLoad a = true ∧ readServed (load waits) .listLoad a = true ∧
      (∀ u ∈ [Upstream.idle, heldRead], let s := load (deskStart .listLoad u);
        readServed s .listLoad a = true ∧ s.path.state = .starting ∧ s.active.statusWin.enable = true ∧
          s.path.waiting = [] ∧ s.path.pwq.length ≤ 1 ∧ s.journal.systemQueue.length < 4 ∧ s.service = true ∧
          0 < s.active.loanCount) ∧
      (deskAt { deskProfile with loanWin := ⟨false, 8, 0#22⟩ }).active.loanCount = 0 := by
  decide +kernel

/-- Two groups of one act, the second picked, into a queue of 22; a drain of one entry and of sixteen; and a clock mirror, an
upload word and a visit word that wait, each in a state in which a newer one replaces it. -/
theorem wit_QueueAdmitsAndDrains :
    let g1 : Group := ⟨.tailMirror, [(13, 0#32)], false⟩
    let g2 : Group := ⟨.visitWord, [(23, 0#32), (24, 0#32)], true⟩
    let s : State := { desk with path := { desk.path with waiting := [g1, g2], pwq := List.replicate 22 ⟨0#22, 0#32⟩ } }
    s.path.waiting = [g1] ++ g2 :: [] ∧ (∀ h ∈ ([g1] ++ [g2]).tail, h.tied = true) ∧ (∀ h ∈ [g1], h.owner ≠ g2.owner) ∧
      s.path.pwq.length + g2.words.length ≤ 24 ∧ 16 ≤ s.path.pwq.length ∧ upstreamWaits desk = false ∧
      Memory.wf s.store = true ∧
      (∀ o ∈ [GroupOwner.clockMirror, .uploadWord, .visitWord],
        let w : State := { desk with
          path := { desk.path with waiting := [g1, ⟨o, [(15, 0#32)], false⟩] }
          upload := { desk.upload with state := .waitLine }
          visit := { desk.visit with printer := .paperWait } };
        w.path.state = .running ∧ w.active.statusWin.enable = true ∧ w.path.waiting.any (fun g => g.owner = o) = true ∧
          w.calendar.second < 59 ∧ w.upload.state = .waitLine ∧ w.visit.printer = .paperWait ∧
          w.pins.prnPaperOut = false) := by
  decide +kernel

/-- R176: an adoption's first group waits behind the PROFILE_ADOPT entry, whose append moves the head mirror to 1. -/
theorem test_adoption_follows_head :
    let s : State := { desk with
      journal := { desk.journal with systemQueue := [plainEntry .profileAdopt desk.reading 0 0#32 0#32 0#32] }
      path := { desk.path with waiting := [⟨.systemEntry, [], false⟩, ⟨.adoption, [(2, 0#32), (12, 0#32)], false⟩] } }
    (match exec .systemEntryAppend s with
      | .next t => t.path.waiting
      | _ => []) = [⟨.adoption, [(2, 0#32), (12, 1#32)], false⟩] := by
  decide +kernel

/-- Each capture state and each case of an element, at the glitch limit, at the 192nd element and at one more; a bar of
QUIET_WAIT below the glitch limit and at it. -/
theorem wit_WandEdgeEndsElement :
    let w (c : CaptureState) (count : Nat) : Wand := { Wand.fresh with
      capture := c, count := count, passGlitch := 3, passQuiet := 25, buffer := List.replicate (min count 192) 10 }
    (∀ c ∈ [CaptureState.armed, .capture, .quietWait], (deskWand (w c 0) false).path.state = .running) ∧
      0 + min 65535 (0 + 2) < (w .capture 0).passGlitch ∧ (w .capture 0).passGlitch ≤ 0 + min 65535 (0 + 3) ∧
      (w .capture 0).base + (w .capture 0).counter + 3 < 250 * (w .capture 0).passQuiet ∧
      (w .capture 192).count ≤ 192 ∧ (w .capture 191).count < 192 ∧ 192 < (w .capture 193).count ∧
      ((deskWand (w .quietWait 0) true).pins.wandBar = true ∧ min 65535 (0 + (deskProfile.glitchLimit - 1)) <
        deskProfile.glitchLimit ∧ ¬ min 65535 (0 + deskProfile.glitchLimit) < deskProfile.glitchLimit) ∧
      State.reset.path.state ≠ .running := by
  decide +kernel

/-- The quiet time in QUIET_WAIT and at the end of a pass of 192 and of 193 elements, with the decoder free and busy; a bar in
CAPTURE; and a guard memory. -/
theorem wit_WandTimesReached :
    let w (c : CaptureState) (count : Nat) (d : Decoder) : Wand := { Wand.fresh with
      capture := c, count := count, passGlitch := 3, passQuiet := 25, decoder := d, guard := some ⟨true, [1], 0#32⟩ }
    (∀ x ∈ [w .quietWait 0 .free, w .capture 192 .free, w .capture 192 .busy, w .capture 193 .free],
      (deskWand x false).pins.wandBar = false ∧ (deskWand x false).path.state = .running) ∧
      (deskWand (w .capture 1 .free) true).pins.wandBar = true ∧ (w .armed 0 .free).guard.isSome = true := by
  decide +kernel

/-- A pass that fails, one that repeats the memory at 749 ms of a 750 ms guard, and one that does not at 750 ms. -/
theorem wit_PassDecoded :
    let w (ws : List Nat) (start : BitVec 32) : Wand := { Wand.fresh with
      decoder := .busy, decodeBuffer := ⟨ws, ws.length, start, start + 90#32⟩, guard := some ⟨true, [4, 8], 0#32⟩ }
    (deskWand (w [] 0#32) false).wand.decoder = .busy ∧ decodePass [] = .error 1 ∧
      decodePass (w cardWidths 749#32).decodeBuffer.widths = .content ⟨true, false, [4, 8]⟩ ∧
      ((w cardWidths 749#32).decodeBuffer.startStamp - 0#32).toNat < deskProfile.repeatGuard ∧
      ¬ ((w cardWidths 750#32).decodeBuffer.startStamp - 0#32).toNat < deskProfile.repeatGuard := by
  decide +kernel

/-- A scan offered at the front of the line, the producer at `p`, with a queue of 19. -/
def deskScan (p : BitVec 16) : State :=
  { deskWand { Wand.fresh with decoder := .offering ⟨true, false, [4, 8]⟩, producer := p } false with
    path := { desk.path with waiting := [⟨.scanRecord, [], false⟩], pwq := List.replicate 19 ⟨0#22, 0#32⟩ } }

/-- The unread records of `deskScan`. -/
def unreadScans (p : BitVec 16) : Nat :=
  ((deskScan p).wand.producer - (deskScan p).wand.consumerCopy.setWidth 16).toNat

/-- The ring with 31 and with 32 records unread. -/
theorem wit_ScanRecordWritten : unreadScans 31#16 = 31 ∧ unreadScans 32#16 = 32 ∧
    ∀ p : BitVec 16, (deskScan p).path.state = .running ∧
      (deskScan p).wand.decoder = .offering ⟨true, false, [4, 8]⟩ ∧ (deskScan p).active.scanWin.enable = true ∧
      (deskScan p).active.statusWin.enable = true ∧
      (frontGroups (deskScan p).path.waiting).any (fun g => g.owner = .scanRecord) = true ∧
      (deskScan p).path.pwq.length ≤ 19 ∧ (deskScan p).path.waiting.length = 1 ∧ (deskScan p).wand.overruns < 65535 :=
  ⟨by decide +kernel, by decide +kernel, fun _ => ⟨rfl, rfl, rfl, rfl, rfl, Nat.le_refl 19, rfl, Nat.zero_lt_succ _⟩⟩

/-- A full ring with the overrun count at 65,535, where the overrun does not change it. -/
theorem wit_ScanRecordWritten_saturated :
    let s : State := { deskScan 32#16 with wand := { (deskScan 32#16).wand with overruns := 65535 } }
    s.path.state = .running ∧ s.wand.decoder = .offering ⟨true, false, [4, 8]⟩ ∧
      (frontGroups s.path.waiting).any (fun g => g.owner = .scanRecord) = true ∧ s.path.pwq.length ≤ 19 ∧
      s.path.waiting.length = 1 ∧ s.wand.overruns = 65535 := by
  decide +kernel

/-- A slip behind a READY one, at its seventh and its last read of eight, and a form feed. -/
theorem wit_SlipsComposedAndPrinted : ∀ n ∈ [6, 7],
    let j : SlipJob := ⟨[anEntry], 5, desk.reading, false, deskProfile.header, borrowerA 0, [slotA 0], List.replicate n 0#32,
      some desk.reading⟩
    let s : State := { desk with visit := { desk.visit with slips := [.ready [0x0C#8], .composing j] } }
    let f : State := { desk with visit := { desk.visit with
      slips := [.ready [0x0C#8]], printer := .sending 0, byteInProgress := true } }
    s.visit.slips = [[0x0C#8]].map .ready ++ .composing j :: [] ∧ readServed s .slip (slotA (n + 5)) = true ∧
      nextJobAddr j = slotA (n + 5) ∧ (jobAddrs j).length = 8 ∧
      f.visit.printer = .sending 0 ∧ f.visit.byteInProgress = true ∧ [0x0C#8].length ≤ 0 + 1 := by
  decide +kernel

/-- The entries of the slip of Table 7-5. -/
def slipOf75 : SlipJob :=
  ⟨[⟨7, ⟨11417, 960⟩, false, false, false, [5, 0, 0, 0, 4, 1, 7, 7, 3, 6]⟩,
    ⟨12, ⟨11396, 960⟩, true, false, false, [0, 0, 0, 0, 1, 2, 0, 3, 9, 4]⟩,
    ⟨21, ⟨11421, 1080⟩, false, false, true, [4, 1, 1, 0, 0, 9, 2, 3]⟩], 212, ⟨11395, 612, 0, true⟩, false,
    ascii "RIVERSIDE BRANCH LIBRARY        ".toList, 0#22, [], [], none⟩

/-- The titles of Table 7-5. -/
def titlesOf75 : List (List Byte) :=
  ["THE TIDE TABLES     ", "LAPTOP CHARGER      ", "GARDEN BIRDS        "].map fun x => ascii x.toList

/-- The dates of Table 7-5. -/
def dateOf75 (n : Nat) : Nat × Nat × Nat :=
  if n = 11395 then (2031, 3, 14) else if n = 11396 then (2031, 3, 15) else if n = 11417 then (2031, 4, 5)
  else if n = 11421 then (2031, 4, 9) else (2000, 1, 1)

/-- Table 7-5: the due line of the hour loan, the lengths of the lines, and the 204 bytes. -/
theorem test_slip_of_table_7_5 :
    let lines := slipLines dateOf75 slipOf75 slipOf75.openedAt 0#32 0x72540000#32 titlesOf75
    lines[7]? = some (ascii "  0000120394 DUE 16:00 15-MAR".toList) ∧
      lines.map (fun l => l.length + 1) = [25, 23, 14, 1, 16, 29, 15, 30, 15, 27, 8] ∧
      (slipText slipOf75 slipOf75.openedAt 0#32 0x72540000#32 titlesOf75).length = 204 := by
  decide +kernel

/-- The dates that the slip of Table 7-5 prints, and the day 0 of a patron without an expiry. -/
theorem wit_SlipsComposedAndPrinted_text :
    (∀ d ∈ slipOf75.openedAt.day :: min ((0#32 : Word).toNat / 65536) 36524 :: slipOf75.entries.map (fun e => e.due.day),
      DateIs d (dateOf75 d)) ∧ DateIs 36524 (2099, 12, 31) ∧ slipOf75.openedAt.minute ≤ 1439 ∧
      (∀ e ∈ slipOf75.entries, e.due.minute ≤ 1439 ∧ e.tail.length ≤ 10) ∧ slipOf75.entries.length ≤ 16 ∧
      titlesOf75.length = slipOf75.entries.length ∧ slipOf75.header.length ≤ 32 ∧ (∀ b ∈ titlesOf75, b.length ≤ 20) := by
  unfold DateIs
  decide +kernel

theorem wit_PrinterLineKeepsPace :
    let v (p : Printer) (b : Bool) : State := { desk with visit := { desk.visit with
      slips := [.ready [0x20#8, 0x0C#8]], printer := p, byteInProgress := b } }
    (v (.sending 0) true).visit.printer = .sending 0 ∧ 0 + 1 < [0x20#8, 0x0C#8].length ∧
      (v .paperWait true).visit.byteInProgress = true ∧ (v .idle false).visit.byteInProgress = false ∧
      [0x20#8, 0x0C#8].length ≤ 1 + 1 ∧ (v (.sending 1) true).visit.printer = .sending 1 ∧
      (v (.sending 0) false).visit.byteInProgress = false ∧ (v .paperWait false).pins.prnPaperOut = false ∧
      (v .paperWait false).path.state = .running := by
  decide +kernel

/-- One free entry, and none, at a queue of 15. -/
theorem wit_SystemEntryAppended : ∀ p ∈ [(31#32, 1), (32#32, 0)],
    let s : State := { desk with
      journal := { desk.journal with head := p.1, systemQueue := [plainEntry .startUp desk.reading 0 0#32 0#32 0#32] }
      path := { desk.path with waiting := [⟨.systemEntry, [], false⟩], pwq := List.replicate 15 ⟨0#22, 0#32⟩ } }
    (frontGroups s.path.waiting).any (fun g => g.owner = .systemEntry) = true ∧ s.active.statusWin.enable = true ∧
      s.path.pwq.length ≤ 15 ∧ s.freeEntries = p.2 := by
  decide +kernel

theorem wit_UploadLineServed :
    let u := deskUpload { desk.upload with state := .waitLine, tx := [⟨.done, []⟩] }
    u.upload.state = .waitLine ∧ u.profile.candidate = none ∧ u.upload.tx = ⟨.done, []⟩ :: [] ∧
      (sending false false 0 0).outstanding = some aBatch ∧
      (let cut := deskUpload { desk.upload with cutByte := true }; cut.upload.tx = [] ∧ cut.upload.cutByte = true) := by
  decide +kernel

/-- The last read but one of a batch of one entry, and the last; the last short retry and none left; the last long retry and
none left; and the same of an acknowledgement awaited in HELLO_SENT and in DONE_SENT. -/
theorem wit_BatchSentAndRetried :
    (∀ n ∈ [6, 7], let s := deskUpload { sending true false 0 0 with outstanding := some ⟨1#16, 1, List.replicate n 0#32⟩ };
      s.upload.reading = true ∧ readServed s .batch (deskProfile.journalAddr (s.journal.tail + word (n / 8)) (n % 8)) = true) ∧
      (deskUpload (sending false true 2 0)).upload.ackTimer = true ∧ 2 < deskProfile.upload.shortLimit ∧
      ¬ 3 < deskProfile.upload.shortLimit ∧ 6 < deskProfile.upload.longLimit ∧ ¬ 7 < deskProfile.upload.longLimit ∧
      (sending false true 2 0).rxState = .hunt ∧ (sending false true 2 0).rxBytes = [] ∧
      (∀ st ∈ [UploadState.helloSent, .doneSent], ∀ long ∈ [6, 7],
        let s := deskUpload { sending false true 0 long with state := st, outstanding := none };
        (s.upload.state = .helloSent ∨ s.upload.state = .doneSent) ∧ s.upload.ackTimer = true ∧
          s.profile.candidate = none) := by
  decide +kernel

/-- An ACK that leaves an entry and one that leaves none; a WELCOME in HELLO_SENT, of a time refused, near and far, with
entries present and with none; a BYE in DONE_SENT. -/
theorem wit_RepliesHeard :
    let s (head : Word) : State := { deskUpload (sending false false 0 0) with journal := { desk.journal with head := head } }
    (s 2#32).upload.rxState = .hunt ∧ (s 2#32).upload.state = .sending ∧ (s 2#32).upload.reading = false ∧
      ((s 2#32).journal.head - ((s 2#32).journal.tail + word 1)).toNat = 1 ∧
      ((s 1#32).journal.head - ((s 1#32).journal.tail + word 1)).toNat = 0 ∧
      36524 < (36525#16 : BitVec 16).toNat ∧ apart (86400 * 0 + 60 * 1 + 0) 0 ≤ deskProfile.upload.tolerance ∧
      ¬ apart (86400 * 0 + 60 * 1 + 1) 0 ≤ deskProfile.upload.tolerance ∧
      (let u : Upload := { Upload.freshWith { deskProfile.upload with acceptCentral := true } with state := .helloSent };
      (deskUpload u).upload.rxState = .hunt ∧ (deskUpload u).upload.rxBytes = [] ∧ (deskUpload u).upload.state = .helloSent ∧
        u.params.acceptCentral = true ∧ u.batchSize = 1 ∧ (deskUpload u).present = 0 ∧ (s 1#32).present = 1) ∧
      (let d := deskUpload { Upload.freshWith deskProfile.upload with state := .doneSent };
      d.upload.rxState = .hunt ∧ d.upload.rxBytes = [] ∧ d.upload.state = .doneSent ∧ d.profile.candidate = none) := by
  decide +kernel

/-- Upload Engines whose next command ends the upload, each with a candidate that the end judges: in WAIT_LINE, in
HELLO_SENT and in SENDING past the last retry, and in DONE_SENT. -/
theorem wit_RepliesHeard_candidate :
    ∀ u ∈ [{ desk.upload with state := .waitLine }, { sending false true 0 7 with state := .helloSent }, sending false true 3 7,
        { Upload.freshWith deskProfile.upload with state := .doneSent }],
      ¬ AdoptsNothing (withCandidate 0#32 (deskUpload u)) ∧ (withCandidate 0#32 (deskUpload u)).upload.state = u.state ∧
        (withCandidate 0#32 (deskUpload u)).upload.rxState = .hunt ∧
        ¬ 7 < (withCandidate 0#32 (deskUpload u)).upload.params.longLimit ∧
        ¬ 3 < (withCandidate 0#32 (deskUpload u)).upload.params.shortLimit := by
  unfold AdoptsNothing
  decide +kernel

/-- The empty payload with a wrong check; a header that names 1,025 bytes; a receiver inside a frame; a DONE, a BYE with a byte
and a NAK of cause 3. -/
theorem wit_FramesDiscarded :
    desk.upload.state = .idle ∧ desk.upload.rxState = .hunt ∧ desk.upload.rxBytes = [] ∧
      [0#8, 0#8] ≠ bytes16 (crc16 (frameBody 0x84#8 [])).toNat ∧
      (∀ st ∈ [RxState.header, .payload, .check],
        (deskUpload { sending false false 0 0 with rxState := st, rxBytes := [0x84#8] }).upload.rxState ≠ .hunt) ∧
      1024 < 256 * (4#8 : Byte).toNat + (1#8 : Byte).toNat ∧
      (∀ x ∈ [((0x03#8 : Byte), ([] : List Byte)), (0x84#8, [0#8]), (0x83#8, [0#8, 0#8, 3#8])],
        ¬ ((x.1 = 0x81#8 ∧ x.2.length = 6) ∨ (x.1 = 0x82#8 ∧ x.2.length = 2) ∨
          (x.1 = 0x83#8 ∧ x.2.length = 3 ∧ (x.2.getLast? = some 1#8 ∨ x.2.getLast? = some 2#8)) ∨
          (x.1 = 0x84#8 ∧ x.2 = []))) := by
  decide +kernel

theorem wit_StopsAndParks :
    desk.path.state = .running ∧ desk.pins.pfail = false ∧ desk.pins.reset = false ∧ State.reset.path.state = .starting ∧
      (deskOp .commit grantOp commitLine).engine.op ≠ none ∧ desk.engine.state ≠ .commit ∧
      (let s : State := { desk with path := { desk.path with state := .stopping } }
      s.path.pwq = [] ∧ s.path.waiting = [] ∧ s.engine.op = none ∧ s.path.upstream = .idle ∧
        s.visit.byteInProgress = false ∧ s.upload.cutByte = false) := by
  decide +kernel

theorem wit_StartsBegin :
    let s : State := { desk with path := { desk.path with state := .parked, stage := .awaitLines }
                                 pins := { desk.pins with pfail := true, reset := true, mainPower := false } }
    s.pins.pfail = true ∧ s.pins.reset = true ∧ s.pins.mainPower = false ∧ s.path.stage = .awaitLines ∧
      desk.pins.mainPower = true ∧ desk.path.stage ≠ .awaitLines := by
  decide +kernel

theorem wit_PowerIsLost : desk.pins.mainPower = true ∧
    State.setPins desk { desk.pins with mainPower := false } ≠ desk := by decide +kernel

/-- The first read of the profile region, and the last one, over a store that holds no profile. -/
theorem wit_StartRestores :
    State.reset.path.state = .starting ∧ State.reset.path.stage = .profileReads ∧
      readServed State.reset .startUp 0#22 = true ∧ State.reset.path.upstream = .idle ∧
      (let s : State := { State.reset with path := { State.reset.path with startReads := List.replicate 127 0#32 } }
      readServed s .startUp 127#22 = true ∧ nth (s.profile.shadow.set 127 (internalRead s 127#22)) 0 = 0#32) ∧
      (∀ n ∈ [4, 5],
        let s : State := { desk with path := { desk.path with
          state := .starting, stage := .statusReads, startReads := List.replicate n 0#32 } }
        readServed s .startUp (statusA (if n = 4 then 17 else 20)) = true ∧ s.active.calendarWin.enable = true) := by
  decide +kernel

/-- The last read of the mirrors with no CALENDAR window and a held read. -/
def startRead (tail : Word) : State :=
  { deskStart .statusReads heldRead with
    path := { (deskStart .statusReads heldRead).path with startReads := [0#32, 0#32, 0#32, tail, 0#32] }
    profile := { desk.profile with active := { deskProfile with calendarWin := ⟨false, 6, 0#22⟩ } } }

/-- The start completes, with the tail 32 entries behind the head, as many as the ring holds, and with 33. -/
theorem wit_StartRestores_completes :
    (startRead 0#32).path.state = .starting ∧ (startRead 0#32).path.stage = .statusReads ∧
      readServed (startRead 0#32) .startUp (statusA 20) = true ∧ (startRead 0#32).active.calendarWin.enable = false ∧
      regionOf (startRead 0#32).active 0x7000#22 = .outside ∧
      (∀ n < 32, (startRead 0#32).active.statusAddr n ≠ 0x7000#22) ∧ (startRead 0#32).path.pwq = [] ∧
      (startRead 0#32).active.capacity = 32 ∧ (0#32 - 0xFFFFFFE0#32 : Word).toNat = 32 ∧
      (0#32 - 0xFFFFFFDF#32 : Word).toNat = 33 := by
  decide +kernel

/-- A shadow whose last read makes it good, with the STATUS and CALENDAR windows `w6` and `w7`. -/
def startShadow (w6 w7 : Word) : List Word :=
  [1#32, 0#32, 0#32, 0#32, 0#32, 0#32, w6, w7] ++ List.replicate 118 0#32 ++ [0#32 - 1#32 - w6 - w7, 0#32]

theorem wit_StartRestores_windows :
    let ws := startShadow 0x86005000#32 0#32
    let cal := startShadow 0#32 0x86006000#32
    let none_ := startShadow 0#32 0#32
    (sumWords ws = 0#32 ∧ field (nth ws 0) 0 8 = 1 ∧ (readProfile ws).clamp.statusWin.enable = true) ∧
      (sumWords cal = 0#32 ∧ (readProfile cal).clamp.statusWin.enable = false ∧
        (readProfile cal).clamp.calendarWin.enable = true) ∧
      sumWords none_ = 0#32 ∧ (readProfile none_).clamp.calendarWin.enable = false ∧
      (∀ p ∈ [(readProfile none_).clamp, defaultProfile], regionOf p 0x7000#22 = .outside ∧
        ∀ n < 32, p.statusAddr n ≠ 0x7000#22) := by
  decide +kernel

/-- 39 and 191 elements pass the length check. -/
theorem wit_LengthCheck : cardWidths.length = 8 * 6 - 1 ∧ 39 = 8 * 5 - 1 ∧ 191 = 8 * 24 - 1 := by decide +kernel

/-- The wide positions of the card. -/
def cardPairs : List (Nat × Nat) := [(1, 3), (3, 7), (1, 7), (2, 7), (1, 5), (3, 6)]

/-- Each character of the card with its ranks and its wide positions; a ratio of exactly 3 to 2 and one below it; a gap of
exactly the wide sum; and a total of exactly double. -/
theorem wit_LengthCheck_characters :
    (∀ j < 6, Ranks ((cardWidths.drop (8 * j)).take 7) 750 750 250 ∧
      WideAt ((cardWidths.drop (8 * j)).take 7) 250 (cardPairs.getD j (0, 0)).1 (cardPairs.getD j (0, 0)).2 ∧
      ((cardWidths.drop (8 * j)).take 7).sum = 2750 ∧ cardWidths.getD (8 * j + 7) 0 ≤ 750 + 750) ∧
    Ranks [375, 400, 250, 250, 1, 250, 250] 400 375 250 ∧ Ranks [374, 400, 250, 250, 1, 250, 250] 400 374 250 ∧
      Ranks [250, 400, 250, 250, 1, 250, 250] 400 250 250 := by
  refine ⟨fun j h => ⟨⟨List.replicate 4 250, ?_⟩, ?_⟩, ⟨[250, 250, 250, 1], ?_⟩, ⟨[250, 250, 250, 1], ?_⟩,
    ⟨[250, 250, 250, 1], ?_⟩⟩
  · interval_cases j <;> decide +kernel
  · unfold WideAt
    interval_cases j <;> decide +kernel
  all_goals decide +kernel

/-- What a list of pairs reads as, in both directions: whether each character has a meaning. -/
def readsAs (ps : List (Nat × Nat)) : Bool × Bool :=
  ((ps.map saysForward).all (fun m => m.isSome), (ps.reverse.map saysBackward).all (fun m => m.isSome))

/-- The card in both directions; pairs that read in neither; that begin with neither START nor STOP's mirror; and that lack
STOP, a mark and a digit. The check digits of Table 6-6's card. -/
theorem wit_LengthCheck_readings :
    readsAs cardPairs = (true, false) ∧ readsAs (cardPairs.reverse.map fun p => (8 - p.2, 8 - p.1)) = (false, true) ∧
      readsAs [(1, 3), (6, 7), (1, 7), (1, 5), (3, 6)] = (false, false) ∧
      readsAs [(1, 2), (3, 7), (1, 7), (1, 5), (3, 6)] = (true, false) ∧
      readsAs [(1, 3), (3, 7), (1, 7), (1, 5), (1, 2)] = (true, false) ∧
      readsAs [(1, 3), (1, 2), (1, 7), (1, 5), (3, 6)] = (true, false) ∧
      readsAs [(1, 3), (3, 5), (3, 5), (1, 5), (3, 6)] = (true, false) ∧
      cardPairs.map saysForward =
        [some .start, some .patron, some (.digit 4), some (.digit 8), some (.digit 2), some .stop] ∧
      checkOf [4, 8] = 2 ∧ checkOf [4, 8] ≠ 3 := by
  decide +kernel

/-- A lateness at the grace of 5 minutes, one minute past it, and one minute past the first hour. -/
theorem wit_HourLateness : chargeableHours ⟨100, 600⟩ ⟨100, 605⟩ 5 = 0 ∧ chargeableHours ⟨100, 600⟩ ⟨100, 606⟩ 5 = 1 ∧
    chargeableHours ⟨100, 600⟩ ⟨100, 665⟩ 5 = 1 ∧ chargeableHours ⟨100, 600⟩ ⟨100, 666⟩ 5 = 2 := by decide

/-- A day loan of the worked cases that falls due. -/
theorem wit_DueInstantLaw :
    (match workedCal.due false ⟨11395, 615⟩ 21 0 36524 false with
      | .due d _ _ => decide (11395 < d.day)
      | _ => false) = true := by decide +kernel

end Sys2Proof.Machine
end

/-! PROOFS. The clear of a loan slot that holds no loan (R6). -/

namespace Sys2Proof.Machine

/-- LOAN_SLOT_CLEAR presents a write of EMPTY. -/
theorem exec_loanSlotClear (addr : Addr) (st : Strobes) (s : State) :
    exec (.loanSlotClear addr st) s = arriveWrite addr 0#32 st s := rfl

/-- The desk processor may clear a slot in the three states that hold no loan (Table 1-3). -/
theorem LoanState.free_iff (v : LoanState) : v.free = true ↔ v = .empty ∨ v = .refused ∨ v = .returned := by
  cases v <;> decide

/-- Table 1-3, the row of EMPTY for a slot that holds no loan. -/
theorem acceptance_empty_of_free {v : LoanState} (h : v.free = true) : acceptance 0#32 v = .clear := by
  simp [acceptance, h]

/-- An accepted clear is forwarded as written, with the map recording EMPTY and no entry for the CRQ. -/
theorem judgeRequest_clear {a : Access} {i : Nat} {v : LoanState} {s : State} (hst : a.strobes = fullWord)
    (ha : acceptance a.data v = .clear) : judgeRequest a i v s = forward a (recordState i .empty s) := by
  simp [judgeRequest, hst, ha]

/-- An act that ends by forwarding its access changes the Store Path alone. -/
theorem endAct_forward (a : Access) (s : State) : endAct (forward a s) = { s with path := pathForwarding s a } := rfl

/-- Settles O12: the write is judged as a request (R3), Table 1-3 gives a clear, and a clear is forwarded and recorded. -/
theorem slotClearPasses : Obligations.SlotClearPasses := by
  intro s addr i st hw hst
  have hclear : acceptance 0#32 st = .clear := acceptance_empty_of_free (st.free_iff.mpr hst)
  rw [exec_loanSlotClear, arriveWrite_loan hw, judgeRequest_clear rfl hclear, endAct_forward]
  rfl

end Sys2Proof.Machine

/-! PROOFS. The chargeable hours of an hour loan (R78). -/

namespace Sys2Proof.Machine

/-- The signed lateness of R78, by days and minutes of day, is the difference of the two minute counts of the calendar. -/
theorem Instant.minutes_sub_minutes (due ret : Instant) :
    1440 * ((ret.day : Int) - due.day) + ((ret.minute : Int) - due.minute) = (ret.minutes : Int) - due.minutes := by
  simp only [Instant.minutes]
  omega

section ChargeableHours

variable {due ret : Instant} {grace : Nat}

/-- A return before the due instant or within the grace is charged nothing. -/
theorem chargeableHours_of_within_grace (h : ret.minutes ≤ due.minutes + grace) : chargeableHours due ret grace = 0 :=
  if_pos (Nat.sub_le_iff_le_add'.mpr h)

/-- Past the grace, the grace is subtracted once and the rest is rounded up to whole hours. -/
theorem chargeableHours_of_past_grace (h : due.minutes + grace < ret.minutes) :
    chargeableHours due ret grace = (ret.minutes - due.minutes - grace + 59) / 60 :=
  if_neg (Nat.not_le.mpr (Nat.lt_sub_iff_add_lt'.mpr h))

/-- A return after `k` whole hours past the grace and within the next one is charged the started hour too. -/
theorem chargeableHours_of_started_hour {k : Nat} (started : due.minutes + grace + 60 * k < ret.minutes)
    (within : ret.minutes ≤ due.minutes + grace + 60 * (k + 1)) : chargeableHours due ret grace = k + 1 := by
  have past : due.minutes + grace < ret.minutes := Nat.lt_of_le_of_lt (Nat.le_add_right _ _) started
  rw [chargeableHours_of_past_grace past]
  omega

end ChargeableHours

/-- Settles O59: the signed lateness is a difference of minute counts, and each clause is one range of that difference. -/
theorem hourLateness : Obligations.HourLateness := by
  intro due ret grace late
  have hlate : late = (ret.minutes : Int) - due.minutes := Instant.minutes_sub_minutes due ret
  refine ⟨fun within => ?_, fun past => ?_, fun k started within => ?_⟩
  · exact chargeableHours_of_within_grace (by omega)
  · have hpast : due.minutes + grace < ret.minutes := by omega
    rw [chargeableHours_of_past_grace hpast]
    omega
  · exact chargeableHours_of_started_hour (by omega) (by omega)

end Sys2Proof.Machine

/-! PROOFS. The decode of a pass (R97, R99 to R106): ranks and wide positions, the readings of Table 6-3, each check as a
property of the characters, and the steps in their order. -/

namespace Sys2Proof.Machine

/-! ### Ranks (R97) -/

theorem insertDown_eq_orderedInsert (w : Nat) (l : List Nat) : insertDown w l = l.orderedInsert (· ≥ ·) w := by
  induction l with
  | nil => rfl
  | cons x rest ih => simp [insertDown, ih]

theorem ranked_eq_insertionSort (c : List Nat) : ranked c = c.insertionSort (· ≥ ·) := by
  induction c with
  | nil => rfl
  | cons x rest ih => rw [ranked, ih, insertDown_eq_orderedInsert, List.insertionSort_cons]

/-- Any list of the widths in falling order is their ranking. -/
theorem ranked_eq_of_perm {c l : List Nat} (hperm : c.Perm l) (hfalling : l.Pairwise (· ≥ ·)) : ranked c = l := by
  rw [ranked_eq_insertionSort]
  exact ((List.perm_insertionSort _ c).trans hperm).eq_of_pairwise' (List.pairwise_insertionSort _ c) hfalling

section Ranks

variable {c : List Nat} {a b t : Nat}

theorem Ranks.ranked_eq (h : Ranks c a b t) : ∃ rest, ranked c = a :: b :: t :: rest := by
  obtain ⟨rest, hperm, hba, htb, hrest⟩ := h
  refine ⟨ranked rest, ranked_eq_of_perm (hperm.trans ?_) ?_⟩
  · rw [ranked_eq_insertionSort]
    exact (((List.perm_insertionSort _ rest).symm.cons t).cons b).cons a
  · have hfalling : (ranked rest).Pairwise (· ≥ ·) := by
      rw [ranked_eq_insertionSort]
      exact List.pairwise_insertionSort _ rest
    have hbelow : ∀ x ∈ ranked rest, x ≤ t := by
      intro x hx
      rw [ranked_eq_insertionSort, List.mem_insertionSort] at hx
      exact hrest x hx
    simp only [List.pairwise_cons, List.mem_cons]
    grind

theorem Ranks.secondWidest_eq (h : Ranks c a b t) : secondWidest c = b := by
  obtain ⟨rest, hr⟩ := h.ranked_eq
  simp [secondWidest, hr]

theorem Ranks.thirdWidest_eq (h : Ranks c a b t) : thirdWidest c = t := by
  obtain ⟨rest, hr⟩ := h.ranked_eq
  simp [thirdWidest, hr]

theorem Ranks.wideSum_eq (h : Ranks c a b t) : wideSum c = a + b := by
  obtain ⟨rest, hr⟩ := h.ranked_eq
  simp [wideSum, secondWidest, hr]

/-- Two elements at least are as wide as the second widest. -/
theorem Ranks.two_le_countP (h : Ranks c a b t) : 2 ≤ c.countP (b ≤ ·) := by
  obtain ⟨rest, hperm, hba, -⟩ := h
  rw [hperm.countP_eq]
  simp [List.countP_cons, hba]

/-! ### Wide positions (R97) -/

theorem length_positionsFrom (w n : Nat) (l : List Nat) : (positionsFrom w n l).length = l.countP (w ≤ ·) := by
  induction l generalizing n with
  | nil => rfl
  | cons x rest ih => by_cases hx : w ≤ x <;> simp [positionsFrom, hx, ih]

theorem mem_positionsFrom {w n m : Nat} {l : List Nat} (h : m ∈ positionsFrom w n l) :
    ∃ i < l.length, m = n + i ∧ w ≤ l.getD i 0 := by
  induction l generalizing n with
  | nil => simp [positionsFrom] at h
  | cons x rest ih =>
    have later (hm : m ∈ positionsFrom w (n + 1) rest) : ∃ i < (x :: rest).length, m = n + i ∧ w ≤ (x :: rest).getD i 0 := by
      obtain ⟨i, hi, hmi, hw⟩ := ih hm
      exact ⟨i + 1, by simpa using hi, by omega, by simpa using hw⟩
    rw [positionsFrom] at h
    split at h
    next hx =>
      obtain rfl | hm := List.mem_cons.mp h
      · exact ⟨0, by simp, by simp, by simpa using hx⟩
      · exact later hm
    next => exact later h

theorem pairwise_positionsFrom (w n : Nat) (l : List Nat) : (positionsFrom w n l).Pairwise (· < ·) := by
  induction l generalizing n with
  | nil => simp [positionsFrom]
  | cons x rest ih =>
    rw [positionsFrom]
    split
    next =>
      refine List.pairwise_cons.mpr ⟨fun m hm => ?_, ih _⟩
      obtain ⟨i, -, rfl, -⟩ := mem_positionsFrom hm
      omega
    next => exact ih _

/-- The elements at least as wide as the second widest stand at the two wide positions: there are two of them at least, and
no element of another position is wider than the third. -/
theorem positionsFrom_of_wideAt {p q : Nat} (hlen : c.length = 7) (hr : Ranks c a b t) (hbt : t < b)
    (hw : WideAt c t p q) : positionsFrom b 1 c = [p, q] := by
  have hsub : positionsFrom b 1 c ⊆ [p, q] := by
    intro m hm
    obtain ⟨i, hi, rfl, hbi⟩ := mem_positionsFrom hm
    have hpq := (hw.2 i (hlen ▸ hi)).mp (Nat.lt_of_lt_of_le hbt hbi)
    simpa [Nat.add_comm 1 i] using hpq
  have hsorted := pairwise_positionsFrom b 1 c
  have hcount : [p, q].length ≤ (positionsFrom b 1 c).length := by
    rw [length_positionsFrom]
    exact hr.two_le_countP
  have hperm := (List.Nodup.subperm (hsorted.imp Nat.ne_of_lt) hsub).perm_of_length_le hcount
  exact hperm.eq_of_pairwise' hsorted (List.pairwise_pair.mpr hw.1)

theorem widePair_of_wideAt {p q : Nat} (hlen : c.length = 7) (hr : Ranks c a b t) (hbt : t < b) (hw : WideAt c t p q) :
    widePair c = (p, q) := by
  simp [widePair, hr.secondWidest_eq, positionsFrom_of_wideAt hlen hr hbt hw]

end Ranks

/-! ### Readings (R103, R104, Table 6-3) -/

/-- Two positions within a character, in rising order. -/
def PairInCharacter (p : Nat × Nat) : Prop := 1 ≤ p.1 ∧ p.1 < p.2 ∧ p.2 ≤ 7

theorem pairInCharacter_of_wideAt {c : List Nat} {a b t p q : Nat} (hlen : c.length = 7) (hr : Ranks c a b t) (hbt : t < b)
    (hw : WideAt c t p q) : PairInCharacter (p, q) := by
  have hpos := positionsFrom_of_wideAt hlen hr hbt hw
  have hp : p ∈ positionsFrom b 1 c := by simp [hpos]
  have hq : q ∈ positionsFrom b 1 c := by simp [hpos]
  obtain ⟨i, -, hpi, -⟩ := mem_positionsFrom hp
  obtain ⟨j, hj, hqj, -⟩ := mem_positionsFrom hq
  exact ⟨by omega, hw.1, by omega⟩

theorem meanings_eq_says {p : Nat × Nat} (h : PairInCharacter p) :
    forwardMeaning p.1 p.2 = saysForward p ∧ backwardMeaning p.1 p.2 = saysBackward p := by
  obtain ⟨p, q⟩ := p
  have table : ∀ q < 8, ∀ p < q, 1 ≤ p →
      forwardMeaning p q = saysForward (p, q) ∧ backwardMeaning p q = saysBackward (p, q) := by decide
  obtain ⟨hp, hpq, hq⟩ := h
  exact table q (Nat.lt_succ_of_le hq) p hpq hp

section Readings

variable {ps : List (Nat × Nat)} (h : ∀ p ∈ ps, PairInCharacter p)
include h

theorem readForward_eq_says : readForward ps = ps.map saysForward :=
  List.map_congr_left fun p hp => (meanings_eq_says (h p hp)).1

theorem readBackward_eq_says : readBackward ps = ps.reverse.map saysBackward :=
  List.map_congr_left fun p hp => (meanings_eq_says (h p (List.mem_reverse.mp hp))).2

theorem patternGood_iff : patternGood ps = true ↔
    (∀ m ∈ ps.map saysForward, m ≠ none) ∨ (∀ m ∈ ps.reverse.map saysBackward, m ≠ none) := by
  simp only [patternGood, readForward_eq_says h, readBackward_eq_says h, Bool.or_eq_true, List.all_eq_true,
    Option.isSome_iff_ne_none]

end Readings

/-- The first pair is neither START nor STOP seen from the far end: no direction. -/
theorem chosenReading_eq_none {ps : List (Nat × Nat)} (hstart : ps.head? ≠ some (1, 3)) (hstop : ps.head? ≠ some (2, 5)) :
    chosenReading ps = none := by
  unfold chosenReading
  split
  next => exact absurd rfl hstart
  next => exact absurd rfl hstop
  next => rfl

theorem chosenReading_of_start {ps : List (Nat × Nat)} (h : ps.head? = some (1, 3)) :
    chosenReading ps = some (readForward ps, false) := by
  obtain ⟨rest, rfl⟩ := List.head?_eq_some_iff.mp h
  rfl

theorem chosenReading_of_stop {ps : List (Nat × Nat)} (h : ps.head? = some (2, 5)) :
    chosenReading ps = some (readBackward ps, true) := by
  obtain ⟨rest, rfl⟩ := List.head?_eq_some_iff.mp h
  rfl

/-! ### Digits and the check digit (R105, R106) -/

theorem digitsOf_eq_some_iff {ms : List (Option Meaning)} {ds : List Nat} :
    digitsOf ms = some ds ↔ ms = ds.map fun d => some (.digit d) := by
  induction ms generalizing ds with
  | nil => cases ds <;> simp [digitsOf]
  | cons m rest ih =>
    match m with
    | some (.digit n) => cases ds <;> simp [digitsOf, ih, and_comm]
    | none | some .start | some .stop | some .item | some .patron => cases ds <;> simp [digitsOf]

theorem digitsOf_eq_none {ms : List (Option Meaning)} (h : ∃ m ∈ ms, ∀ d, m ≠ some (.digit d)) : digitsOf ms = none := by
  obtain ⟨m, hm, hno⟩ := h
  refine Option.eq_none_iff_forall_ne_some.mpr fun ds hds => ?_
  rw [digitsOf_eq_some_iff.mp hds] at hm
  obtain ⟨d, -, hd⟩ := List.mem_map.mp hm
  exact hno d hd.symm

/-- Weights that alternate from the one of place `n` are the weights by the parity of the place. -/
theorem weighted_eq_sum (ds : List Nat) (n : Nat) : weighted ds (if n % 2 = 0 then 3 else 1) =
    ((ds.zipIdx n).map fun p => (if p.2 % 2 = 0 then 3 else 1) * p.1).sum := by
  induction ds generalizing n with
  | nil => rfl
  | cons d rest ih =>
    have hnext : 4 - (if n % 2 = 0 then 3 else 1) = if (n + 1) % 2 = 0 then 3 else 1 := by grind
    rw [weighted, hnext, ih, List.zipIdx_cons, List.map_cons, List.sum_cons]

theorem checkDigit_eq_checkOf (data : List Nat) : checkDigit data = checkOf data := by
  have hsum := weighted_eq_sum data.reverse 0
  rw [if_pos rfl] at hsum
  rw [checkDigit, checkOf, hsum]

/-! ### The checks of the characters (R100 to R102) -/

/-- The character fails the ratio check: its boundary is not defined or its ratio is below 3 to 2. -/
def RatioFails (c : List Nat) : Prop := secondWidest c = thirdWidest c ∨ 2 * secondWidest c < 3 * thirdWidest c

theorem ratioError_eq_none {cs : List (List Nat)} (h : ∀ c ∈ cs, ¬ RatioFails c) : ratioError cs = none := by
  induction cs with
  | nil => rfl
  | cons c rest ih =>
    obtain ⟨hc, hrest⟩ := List.forall_mem_cons.mp h
    obtain ⟨hne, hge⟩ := not_or.mp hc
    rw [ratioError, if_neg hne, if_neg hge, ih hrest]

/-- The first character that fails gives the error of the ratio check. -/
theorem ratioError_of_first {cs : List (List Nat)} {n : Nat} (hn : n < cs.length) (hbad : RatioFails cs[n])
    (hfirst : ∀ i, (hi : i < n) → ¬ RatioFails cs[i]) :
    ratioError cs = some (if secondWidest cs[n] = thirdWidest cs[n] then errAmbiguous else errRatio) := by
  induction cs generalizing n with
  | nil => simp at hn
  | cons c rest ih =>
    cases n with
    | zero =>
      by_cases heq : secondWidest c = thirdWidest c
      · simp [ratioError, heq]
      · simp [ratioError, heq, show 2 * secondWidest c < 3 * thirdWidest c from hbad.resolve_left heq]
    | succ n =>
      obtain ⟨hne, hge⟩ := not_or.mp (hfirst 0 n.succ_pos)
      rw [List.getElem_cons_zero] at hne hge
      rw [ratioError, if_neg hne, if_neg hge, ih (Nat.lt_of_succ_lt_succ hn) hbad]
      · rfl
      · exact fun i hi => hfirst (i + 1) (Nat.succ_lt_succ hi)

theorem gapsGood_iff {cs : List (List Nat)} {gaps : List Nat} (hlen : gaps.length ≤ cs.length) :
    gapsGood cs gaps = true ↔ ∀ i, (hi : i < gaps.length) → gaps[i] ≤ wideSum (cs[i]'(by omega)) := by
  simp only [gapsGood, List.all_eq_true, List.forall_mem_iff_getElem, List.getElem_zip, decide_eq_true_eq, List.length_zip,
    Nat.min_eq_right hlen]

theorem speedGood_iff {ts : List Nat} :
    speedGood ts = true ↔ ∀ i, (hi : i + 1 < ts.length) → ts[i] ≤ 2 * ts[i + 1] ∧ ts[i + 1] ≤ 2 * ts[i] := by
  rw [← List.isChain_iff_getElem (R := fun a b => a ≤ 2 * b ∧ b ≤ 2 * a)]
  induction ts with
  | nil => simp [speedGood]
  | cons x rest ih =>
    cases rest with
    | nil => simp [speedGood]
    | cons y rest => simp [speedGood, ih]

/-! ### The steps in their order -/

/-- What a pass of `k` characters may come to after its length check: another error, or `k − 4` data digits (R99). -/
def FitsSymbol (k : Nat) : Decoded → Prop
  | .error code => code ≠ errLength
  | .content c => c.digits.length = k - 4

theorem checkTest_fits {k : Nat} {ds : List Nat} (patron backward : Bool) (h : ds.length = k - 3) :
    FitsSymbol k (checkTest patron backward ds) := by
  unfold checkTest
  split
  next =>
    rw [FitsSymbol, List.length_dropLast, h]
    omega
  next => simp [FitsSymbol]

theorem structureTest_fits (ms : List (Option Meaning)) (backward : Bool) :
    FitsSymbol ms.length (structureTest ms backward) := by
  unfold structureTest
  split_ifs
  · simp [FitsSymbol]
  · simp [FitsSymbol]
  · split
    next => simp [FitsSymbol]
    next ds hds =>
      have hlen := congrArg List.length (digitsOf_eq_some_iff.mp hds)
      rw [List.length_dropLast, List.length_drop, List.length_map] at hlen
      exact checkTest_fits _ _ (by omega)

theorem directionTest_of_no_start {ps : List (Nat × Nat)} (hstart : ps.head? ≠ some (1, 3))
    (hstop : ps.head? ≠ some (2, 5)) : directionTest ps = .error errNoStart := by
  rw [directionTest, chosenReading_eq_none hstart hstop]

theorem directionTest_of_start {ps : List (Nat × Nat)} (h : ps.head? = some (1, 3)) :
    directionTest ps = structureTest (readForward ps) false := by
  rw [directionTest, chosenReading_of_start h]

theorem directionTest_of_stop {ps : List (Nat × Nat)} (h : ps.head? = some (2, 5)) :
    directionTest ps = structureTest (readBackward ps) true := by
  rw [directionTest, chosenReading_of_stop h]

theorem directionTest_fits (ps : List (Nat × Nat)) : FitsSymbol ps.length (directionTest ps) := by
  by_cases hstart : ps.head? = some (1, 3)
  · rw [directionTest_of_start hstart]
    simpa [readForward] using structureTest_fits (readForward ps) false
  by_cases hstop : ps.head? = some (2, 5)
  · rw [directionTest_of_stop hstop]
    simpa [readBackward] using structureTest_fits (readBackward ps) true
  · rw [directionTest_of_no_start hstart hstop]
    simp [FitsSymbol]

theorem ratioError_ne_length {cs : List (List Nat)} {e : Nat} (h : ratioError cs = some e) : e ≠ errLength := by
  induction cs with
  | nil => simp [ratioError] at h
  | cons c rest ih =>
    rw [ratioError] at h
    split_ifs at h
    · cases h; decide
    · cases h; decide
    · exact ih h

theorem decodeCharacters_fits (cs : List (List Nat)) (gaps : List Nat) :
    FitsSymbol cs.length (decodeCharacters cs gaps) := by
  unfold decodeCharacters
  split
  next e he => exact ratioError_ne_length he
  next =>
    split_ifs
    · simp [FitsSymbol]
    · simp [FitsSymbol]
    · unfold patternTest
      split
      next => simpa using directionTest_fits (cs.map widePair)
      next => simp [FitsSymbol]

theorem decodeCharacters_of_ratioError {cs : List (List Nat)} {gaps : List Nat} {e : Nat} (h : ratioError cs = some e) :
    decodeCharacters cs gaps = .error e := by
  simp [decodeCharacters, h]

section ChecksPassed

variable {cs : List (List Nat)} {gaps : List Nat} (hratio : ratioError cs = none)
include hratio

theorem decodeCharacters_of_gap (hgap : ¬ gapsGood cs gaps = true) : decodeCharacters cs gaps = .error errGap := by
  simp [decodeCharacters, hratio, hgap]

theorem decodeCharacters_of_speed (hgap : gapsGood cs gaps = true) (hspeed : ¬ speedGood (cs.map List.sum) = true) :
    decodeCharacters cs gaps = .error errSpeed := by
  simp [decodeCharacters, hratio, hgap, hspeed]

theorem decodeCharacters_of_steady (hgap : gapsGood cs gaps = true) (hspeed : speedGood (cs.map List.sum) = true) :
    decodeCharacters cs gaps = patternTest (cs.map widePair) := by
  simp [decodeCharacters, hratio, hgap, hspeed]

end ChecksPassed

/-- The length check passes for 8k − 1 elements (R99). -/
theorem decodePass_of_length {ws : List Nat} {k : Nat} (hk5 : 5 ≤ k) (hk24 : k ≤ 24) (hlen : ws.length = 8 * k - 1) :
    decodePass ws = decodeCharacters (charactersOf ws k) (gapsOf ws k) := by
  have hmod : (ws.length + 1) % 8 = 0 := by omega
  have hdiv : (ws.length + 1) / 8 = k := by omega
  simp [decodePass, hmod, hdiv, hk5, hk24]

theorem decodePass_of_other_length {ws : List Nat} (h : ∀ k, 5 ≤ k → k ≤ 24 → ws.length ≠ 8 * k - 1) :
    decodePass ws = .error errLength := by
  refine if_neg fun ⟨hmod, hk5, hk24⟩ => h _ hk5 hk24 ?_
  omega

/-! ### The structure of the chosen reading (R105, R106) -/

section Structure

variable {ms : List (Option Meaning)} {patron backward : Bool} (hstop : ms.getLast? = some (some .stop))
include hstop

theorem structureTest_of_no_mark (hitem : ms[1]? ≠ some (some .item)) (hpatron : ms[1]? ≠ some (some .patron)) :
    structureTest ms backward = .error errNoMark := by
  simp [structureTest, hstop, hitem, hpatron]

variable (hmark : ms[1]? = some (some (if patron then .patron else .item)))
include hmark

theorem structureTest_of_not_digit (h : digitsOf (ms.drop 2).dropLast = none) :
    structureTest ms backward = .error errNotDigit := by
  cases patron <;> simp_all [structureTest]

theorem structureTest_of_digits {ds : List Nat} (h : digitsOf (ms.drop 2).dropLast = some ds) :
    structureTest ms backward = checkTest patron backward ds := by
  cases patron <;> simp_all [structureTest]

end Structure

theorem structureTest_of_no_stop {ms : List (Option Meaning)} {backward : Bool} (h : ms.getLast? ≠ some (some .stop)) :
    structureTest ms backward = .error errNoStop := if_pos h

theorem checkTest_append (patron backward : Bool) (data : List Nat) (check : Nat) :
    checkTest patron backward (data ++ [check]) =
      if check = checkOf data then .content ⟨patron, backward, data⟩ else .error errCheck := by
  simp [checkTest, checkDigit_eq_checkOf]

/-! ### The characters and gaps of a pass, counted from 1 (R97) -/

/-- Character `j` of a pass. -/
def characterAt (ws : List Nat) (j : Nat) : List Nat := (ws.drop (8 * (j - 1))).take 7

/-- Gap `j` of a pass. -/
def gapAt (ws : List Nat) (j : Nat) : Nat := ws.getD (8 * j - 1) 0

@[simp] theorem length_charactersOf (ws : List Nat) (k : Nat) : (charactersOf ws k).length = k := by simp [charactersOf]

@[simp] theorem length_gapsOf (ws : List Nat) (k : Nat) : (gapsOf ws k).length = k - 1 := by simp [gapsOf]

@[simp] theorem getElem_charactersOf {ws : List Nat} {k i : Nat} (h : i < (charactersOf ws k).length) :
    (charactersOf ws k)[i] = characterAt ws (i + 1) := by
  simp [charactersOf, characterAt]

@[simp] theorem getElem_gapsOf {ws : List Nat} {k i : Nat} (h : i < (gapsOf ws k).length) :
    (gapsOf ws k)[i] = gapAt ws (i + 1) := by
  simp [gapsOf, gapAt, Nat.mul_add]

theorem speedGood_charactersOf_iff {ws : List Nat} {k : Nat} : speedGood ((charactersOf ws k).map List.sum) = true ↔
    ∀ j, 2 ≤ j → j ≤ k → (characterAt ws (j - 1)).sum ≤ 2 * (characterAt ws j).sum ∧
      (characterAt ws j).sum ≤ 2 * (characterAt ws (j - 1)).sum := by
  simp only [speedGood_iff, List.length_map, length_charactersOf, List.getElem_map, getElem_charactersOf]
  constructor
  · intro h j hj hjk
    obtain ⟨i, rfl⟩ := Nat.exists_eq_add_of_le' hj
    exact h i hjk
  · exact fun h i hi => h (i + 2) (Nat.le_add_left 2 i) hi

/-- A pass of `k` characters that passes the length check, with the three widest widths of each character. -/
structure RankedPass (ws : List Nat) (k : Nat) (a b t : Nat → Nat) : Prop where
  five_le : 5 ≤ k
  le_max : k ≤ 24
  length_eq : ws.length = 8 * k - 1
  ranks : ∀ j, 1 ≤ j → j ≤ k → Ranks (characterAt ws j) (a j) (b j) (t j)

namespace RankedPass

variable {ws : List Nat} {k : Nat} {a b t : Nat → Nat}

theorem decodePass_eq (h : RankedPass ws k a b t) :
    decodePass ws = decodeCharacters (charactersOf ws k) (gapsOf ws k) :=
  decodePass_of_length h.five_le h.le_max h.length_eq

theorem length_characterAt (h : RankedPass ws k a b t) {j : Nat} (hj : 1 ≤ j) (hjk : j ≤ k) :
    (characterAt ws j).length = 7 := by
  have := h.length_eq
  rw [characterAt, List.length_take, List.length_drop]
  omega

theorem ratioFails_iff (h : RankedPass ws k a b t) {j : Nat} (hj : 1 ≤ j) (hjk : j ≤ k) :
    RatioFails (characterAt ws j) ↔ b j = t j ∨ 2 * b j < 3 * t j := by
  rw [RatioFails, (h.ranks j hj hjk).secondWidest_eq, (h.ranks j hj hjk).thirdWidest_eq]

/-- R100: the pass fails with the error of the first character that fails. -/
theorem decodePass_of_first_ratio (h : RankedPass ws k a b t) {j : Nat} (hj : 1 ≤ j) (hjk : j ≤ k)
    (hfirst : ∀ i, 1 ≤ i → i < j → ¬ (b i = t i ∨ 2 * b i < 3 * t i)) (hbad : b j = t j ∨ 2 * b j < 3 * t j) :
    decodePass ws = .error (if b j = t j then errAmbiguous else errRatio) := by
  have hranks := h.ranks j hj hjk
  have hfails := (h.ratioFails_iff hj hjk).mpr hbad
  obtain ⟨n, rfl⟩ := Nat.exists_eq_add_of_le' hj
  have hn : n < (charactersOf ws k).length := by simpa using hjk
  have herr := ratioError_of_first hn (by simpa using hfails) fun i hi => by
    rw [getElem_charactersOf, h.ratioFails_iff (Nat.le_add_left 1 i) (by omega)]
    exact hfirst (i + 1) (Nat.le_add_left 1 i) (Nat.succ_lt_succ hi)
  rw [getElem_charactersOf, hranks.secondWidest_eq, hranks.thirdWidest_eq] at herr
  rw [h.decodePass_eq, decodeCharacters_of_ratioError herr]

/-- R101: each gap against the wide sum of the character before it. -/
theorem gapsGood_iff (h : RankedPass ws k a b t) :
    gapsGood (charactersOf ws k) (gapsOf ws k) = true ↔ ∀ j, 1 ≤ j → j < k → gapAt ws j ≤ a j + b j := by
  rw [Machine.gapsGood_iff (by simp)]
  simp only [length_gapsOf, getElem_gapsOf, getElem_charactersOf]
  constructor
  · intro hgaps j hj hjk
    rw [← (h.ranks j hj hjk.le).wideSum_eq]
    obtain ⟨i, rfl⟩ := Nat.exists_eq_add_of_le' hj
    exact hgaps i (Nat.lt_sub_of_add_lt hjk)
  · intro hgaps i hi
    rw [(h.ranks (i + 1) (Nat.le_add_left 1 i) (by omega)).wideSum_eq]
    exact hgaps (i + 1) (Nat.le_add_left 1 i) (Nat.add_lt_of_lt_sub hi)

section RatioPassed

variable (h : RankedPass ws k a b t) (hratio : ∀ j, 1 ≤ j → j ≤ k → ¬ (b j = t j ∨ 2 * b j < 3 * t j))
include h hratio

theorem ratioError_eq_none : ratioError (charactersOf ws k) = none := by
  refine Machine.ratioError_eq_none (List.forall_mem_iff_getElem.mpr fun i hi => ?_)
  rw [length_charactersOf] at hi
  rw [getElem_charactersOf, h.ratioFails_iff (Nat.le_add_left 1 i) hi]
  exact hratio (i + 1) (Nat.le_add_left 1 i) hi

theorem third_lt_second {j : Nat} (hj : 1 ≤ j) (hjk : j ≤ k) : t j < b j := by
  obtain ⟨-, -, -, htb, -⟩ := h.ranks j hj hjk
  have := hratio j hj hjk
  omega

variable {ps : List (Nat × Nat)} (hps : ps.length = k)
  (hwide : ∀ j, 1 ≤ j → j ≤ k →
    WideAt (characterAt ws j) (t j) (ps.getD (j - 1) (0, 0)).1 (ps.getD (j - 1) (0, 0)).2)
include hps hwide

theorem widePair_characterAt {i : Nat} (hi : i < ps.length) :
    widePair (characterAt ws (i + 1)) = ps[i] ∧ PairInCharacter ps[i] := by
  have hj : 1 ≤ i + 1 := Nat.le_add_left 1 i
  have hjk : i + 1 ≤ k := hps ▸ hi
  have hlen := h.length_characterAt hj hjk
  have hbt := h.third_lt_second hratio hj hjk
  have hw := hwide (i + 1) hj hjk
  rw [Nat.add_sub_cancel, List.getD_eq_getElem _ _ hi] at hw
  exact ⟨widePair_of_wideAt hlen (h.ranks _ hj hjk) hbt hw, pairInCharacter_of_wideAt hlen (h.ranks _ hj hjk) hbt hw⟩

theorem map_widePair_eq : (charactersOf ws k).map widePair = ps := by
  refine List.ext_getElem (by simp [hps]) fun i _ hi => ?_
  rw [List.getElem_map, getElem_charactersOf, (h.widePair_characterAt hratio hps hwide hi).1]

theorem pairInCharacter : ∀ p ∈ ps, PairInCharacter p :=
  List.forall_mem_iff_getElem.mpr fun _ hi => (h.widePair_characterAt hratio hps hwide hi).2

/-- R103: with the checks of the characters passed, the wide positions decide. -/
theorem decodePass_eq_patternTest (hgaps : ∀ j, 1 ≤ j → j < k → gapAt ws j ≤ a j + b j)
    (hsteady : ∀ j, 2 ≤ j → j ≤ k → (characterAt ws (j - 1)).sum ≤ 2 * (characterAt ws j).sum ∧
      (characterAt ws j).sum ≤ 2 * (characterAt ws (j - 1)).sum) :
    decodePass ws = patternTest ps := by
  rw [h.decodePass_eq, decodeCharacters_of_steady (h.ratioError_eq_none hratio) (h.gapsGood_iff.mpr hgaps)
    (speedGood_charactersOf_iff.mpr hsteady), h.map_widePair_eq hratio hps hwide]

end RatioPassed

end RankedPass

/-- The reading that the first pair chooses, with its direction (R104). -/
theorem directionTest_of_chosen {ps : List (Nat × Nat)} (hps : ∀ p ∈ ps, PairInCharacter p) {turned : Bool}
    {ms : List (Option Meaning)}
    (hchosen : (ps.head? = some (1, 3) ∧ turned = false ∧ ms = ps.map saysForward) ∨
      (ps.head? = some (2, 5) ∧ turned = true ∧ ms = ps.reverse.map saysBackward)) :
    directionTest ps = structureTest ms turned := by
  obtain ⟨hstart, rfl, rfl⟩ | ⟨hstop, rfl, rfl⟩ := hchosen
  · rw [directionTest_of_start hstart, readForward_eq_says hps]
  · rw [directionTest_of_stop hstop, readBackward_eq_says hps]

/-- Settles O58: the length check decides whether the pass has characters; each later step is made when the checks before it
have passed, and its check of the model is the clause's on the ranks, the gaps, the totals and the wide positions. -/
theorem lengthCheck : Obligations.LengthCheck := by
  intro ws
  refine ⟨fun k hk5 hk24 hlen => ?_, decodePass_of_other_length, ?_⟩
  · have hfits := decodeCharacters_fits (charactersOf ws k) (gapsOf ws k)
    rw [length_charactersOf, ← decodePass_of_length hk5 hk24 hlen] at hfits
    exact ⟨fun herr => by rw [herr] at hfits; exact hfits rfl, fun c hc => by rwa [hc] at hfits⟩
  intro k a b t hk5 hk24 hlen char gap total bad steady fails hranks
  have h : RankedPass ws k a b t := ⟨hk5, hk24, hlen, hranks⟩
  refine ⟨fun j hj hjk hfirst => ⟨fun heq => ?_, fun hne hlt => ?_⟩, fun hratio => ?_⟩
  · have herr := h.decodePass_of_first_ratio hj hjk hfirst (.inl heq)
    rwa [if_pos heq] at herr
  · have herr := h.decodePass_of_first_ratio hj hjk hfirst (.inr hlt)
    rwa [if_neg hne] at herr
  have hnone := h.ratioError_eq_none hratio
  refine ⟨fun ⟨j, hj, hjk, hwider⟩ => ?_, fun hgaps => ⟨fun ⟨j, hj, hjk, hjump⟩ => ?_, fun hsteady => ?_⟩⟩
  · have hgap : ¬ gapsGood (charactersOf ws k) (gapsOf ws k) = true := fun hgood =>
      absurd (h.gapsGood_iff.mp hgood j hj hjk) (Nat.not_le.mpr hwider)
    exact h.decodePass_eq.trans (decodeCharacters_of_gap hnone hgap)
  · have hspeed : ¬ speedGood ((charactersOf ws k).map List.sum) = true := fun hgood =>
      hjump (speedGood_charactersOf_iff.mp hgood j hj hjk)
    exact h.decodePass_eq.trans (decodeCharacters_of_speed hnone (h.gapsGood_iff.mpr hgaps) hspeed)
  intro ps hps hwide forward backward reads
  have hpattern := h.decodePass_eq_patternTest hratio hps hwide hgaps hsteady
  have hpairs := h.pairInCharacter hratio hps hwide
  refine ⟨fun hforward hbackward => ?_, fun hreads => ?_⟩
  · exact hpattern.trans (if_neg fun hgood => ((patternGood_iff hpairs).mp hgood).elim hforward hbackward)
  have hdirection : decodePass ws = directionTest ps := hpattern.trans (if_pos ((patternGood_iff hpairs).mpr hreads))
  refine ⟨fun hstart hstop => hdirection.trans (directionTest_of_no_start hstart hstop), fun turned ms hchosen => ?_⟩
  have hstructure : decodePass ws = structureTest ms turned := hdirection.trans (directionTest_of_chosen hpairs hchosen)
  refine ⟨fun hlast => hstructure.trans (structureTest_of_no_stop hlast), fun hlast => ⟨fun hitem hpatron => ?_, ?_⟩⟩
  · exact hstructure.trans (structureTest_of_no_mark hlast hitem hpatron)
  refine fun patron hmark => ⟨fun hother => ?_, fun data check hdigits => ?_⟩
  · exact hstructure.trans (structureTest_of_not_digit hlast hmark (digitsOf_eq_none hother))
  have hds : digitsOf (ms.drop 2).dropLast = some (data ++ [check]) :=
    digitsOf_eq_some_iff.mpr (by simpa using hdigits)
  have hcheck := hstructure.trans
    ((structureTest_of_digits hlast hmark hds).trans (checkTest_append patron turned data check))
  exact ⟨fun hwrong => hcheck.trans (if_neg hwrong), fun hright => hcheck.trans (if_pos hright)⟩

end Sys2Proof.Machine

/-! PROOFS. What the operations of the part keep of its laws: the relation `Lawful` from the state before an operation to the
state after it, one lemma for each operation in the order of the model. -/

namespace Sys2Proof.Machine

/-! ### The relation -/

/-- The law of the journal but for what it says of a start that reads its profile. -/
def JournalCore (s : State) : Prop :=
  s.present ≤ s.active.capacity ∧ s.active.capacity ≤ 16384 ∧ (∀ b, s.upload.outstanding = some b → b.count ≤ s.present) ∧
    (s.path.stage ≠ .none → s.path.state = .starting ∧ s.upload.state = .idle ∧ s.upload.outstanding = none)

/-- Until a profile is in force there is no journal. -/
def JournalBlank (s : State) : Prop := s.path.stage = .profileReads → s.journal.head = s.journal.tail ∧ s.active.capacity = 0

theorem journalLaw_iff (s : State) : JournalLaw s ↔ JournalCore s ∧ JournalBlank s := by
  simp only [JournalLaw, JournalCore, JournalBlank, and_assoc]

/-- What every operation but a start's restoring keeps: the store, the commands that wait, the clock's law and the bounds of the
queues. -/
structure Tame (s t : State) : Prop where
  store : t.store = s.store
  pending : t.pending = s.pending
  clock : ClockLaw s → ClockLaw t
  queue : QueueLaw s → QueueLaw t

/-- What every operation of a running part keeps: the laws, and the tail of the journal. -/
structure Lawful (s t : State) : Prop extends Tame s t where
  ring : ScanRingLaw s → ScanRingLaw t
  core : JournalCore s → JournalCore t
  blank : JournalCore s → JournalBlank s → JournalBlank t
  tail : t.journal.tail = s.journal.tail

/-- What every command but the two that write the store keeps. -/
structure LawsKept (s t : State) : Prop where
  store : t.store = s.store
  pending : t.pending = s.pending
  clock : ClockLaw s → ClockLaw t
  queue : QueueLaw s → QueueLaw t
  ring : ScanRingLaw s → ScanRingLaw t
  journal : JournalLaw s → JournalLaw t

theorem Tame.refl (s : State) : Tame s s := ⟨rfl, rfl, id, id⟩

theorem Tame.trans {s t u : State} (h : Tame s t) (k : Tame t u) : Tame s u where
  store := k.store.trans h.store
  pending := k.pending.trans h.pending
  clock := k.clock ∘ h.clock
  queue := k.queue ∘ h.queue

theorem Lawful.refl (s : State) : Lawful s s := ⟨.refl s, id, id, fun _ h => h, rfl⟩

theorem Lawful.trans {s t u : State} (h : Lawful s t) (k : Lawful t u) : Lawful s u where
  toTame := h.toTame.trans k.toTame
  ring := k.ring ∘ h.ring
  core := k.core ∘ h.core
  blank := fun hc hb => k.blank (h.core hc) (h.blank hc hb)
  tail := k.tail.trans h.tail

theorem Lawful.lawsKept {s t : State} (h : Lawful s t) : LawsKept s t where
  store := h.store
  pending := h.pending
  clock := h.clock
  queue := h.queue
  ring := h.ring
  journal := fun hj => by
    obtain ⟨hc, hb⟩ := (journalLaw_iff s).mp hj
    exact (journalLaw_iff t).mpr ⟨h.core hc, h.blank hc hb⟩

theorem LawsKept.refl (s : State) : LawsKept s s := (Lawful.refl s).lawsKept

theorem LawsKept.trans {s t u : State} (h : LawsKept s t) (k : LawsKept t u) : LawsKept s u where
  store := k.store.trans h.store
  pending := k.pending.trans h.pending
  clock := k.clock ∘ h.clock
  queue := k.queue ∘ h.queue
  ring := k.ring ∘ h.ring
  journal := k.journal ∘ h.journal

/-- The quantities that the laws speak of, apart from the Posted Write Queue. -/
def State.watched (s : State) :=
  ((s.store, s.pending, s.path.stage, s.path.state), (s.calendar.day, s.calendar.minute, s.calendar.second),
    (s.wand.producer, s.wand.consumerCopy), (s.journal.head, s.journal.tail, s.active.capacity),
    (s.upload.state, s.upload.outstanding), (s.engine.crq, s.engine.op, s.visit.slips.length, s.journal.systemQueue.length),
    s.visit.visit.map fun v => v.list.length)

/-- The Posted Write Queue keeps within its 24 entries. -/
def Bounded (s t : State) : Prop := s.path.pwq.length ≤ 24 → t.path.pwq.length ≤ 24

theorem visit_list_bound_iff (v : Option Visit) :
    (∀ r, v = some r → r.list.length ≤ 16) ↔ ∀ n, v.map (fun r => r.list.length) = some n → n ≤ 16 := by
  cases v <;> simp

/-- An operation that changes none of the watched quantities keeps the laws. -/
theorem Lawful.of_watched {s t : State} (h : t.watched = s.watched) (hq : Bounded s t) : Lawful s t := by
  simp only [State.watched, Prod.mk.injEq] at h
  obtain ⟨⟨h1, h2, h3, h4⟩, ⟨h5, h6, h7⟩, ⟨h8, h9⟩, ⟨h10, h11, h12⟩, ⟨h13, h14⟩, ⟨h15, h16, h17, h18⟩, h19⟩ := h
  constructor
  · constructor
    · exact h1
    · exact h2
    · simp only [ClockLaw, h5, h6, h7]; exact id
    · simp only [QueueLaw, h15, h16, h17, h18, visit_list_bound_iff, h19]
      exact And.imp_left hq
  · simp only [ScanRingLaw, Wand.consumer, h8, h9]; exact id
  · simp only [JournalCore, State.present, h3, h4, h10, h11, h12, h13, h14]; exact id
  · simp only [JournalBlank, h3, h10, h11, h12]; exact fun _ => id
  · exact h11

/-- The same over a Store Path that is as it was. -/
theorem Lawful.of_rfl {s t : State} (h : t.watched = s.watched) (hp : t.path.pwq = s.path.pwq) : Lawful s t :=
  .of_watched h fun hq => by rwa [hp]

/-- An operation made on a state with the watched quantities of `s`. -/
theorem Lawful.from {s u t : State} (k : Lawful u t) (h : u.watched = s.watched) (hp : u.path.pwq = s.path.pwq) :
    Lawful s t := (Lawful.of_rfl h hp).trans k

/-! ### The queue, the busy set and the upstream access -/

/-- Free entries are room in the queue of 24. -/
theorem length_add_le_of_le_pwqFree {n : Nat} {s : State} (h : n ≤ pwqFree s) (hq : s.path.pwq.length ≤ 24) :
    s.path.pwq.length + n ≤ 24 := by
  simp only [pwqFree, Config.pwqDepth] at h
  omega

/-- A queue with free entries holds at most 24. -/
theorem length_add_le_of_pos_le_pwqFree {n : Nat} {s : State} (h : n ≤ pwqFree s) (hn : 0 < n) :
    s.path.pwq.length + n ≤ 24 := by
  simp only [pwqFree, Config.pwqDepth] at h
  omega

theorem endAct_lawful (s : State) : Lawful s (endAct s) := .of_rfl rfl rfl

theorem enqueue_lawful {es : List QEntry} {s : State} (h : QueueLaw s → s.path.pwq.length + es.length ≤ 24) :
    Lawful s (enqueue es s) :=
  ⟨⟨rfl, rfl, id, fun hq => ⟨by simpa using h hq, hq.2⟩⟩, id, id, fun _ => id, rfl⟩

theorem beginWait_lawful (o : GroupOwner) (ws : List (Nat × Word)) (b : Bool) (s : State) : Lawful s (beginWait o ws b s) :=
  .of_rfl rfl rfl

theorem leaveWait_lawful (o : GroupOwner) (s : State) : Lawful s (leaveWait o s) := .of_rfl rfl rfl

theorem follow_lawful (ws : List (Nat × Word)) (s : State) : Lawful s (follow ws s) := .of_rfl rfl rfl

theorem produce_lawful (o : GroupOwner) (ws : List (Nat × Word)) (b : Bool) (s : State) : Lawful s (produce o ws b s) := by
  unfold produce
  split
  · exact .refl s
  · split
    · exact .of_rfl rfl rfl
    · split
      · next h =>
        simp only [Bool.and_eq_true, decide_eq_true_eq] at h
        exact enqueue_lawful fun hq => by simpa [statusEntries] using length_add_le_of_le_pwqFree h.2 hq.1
      · exact beginWait_lawful ..

theorem admitAt_lawful {pick : Nat} {g : Group} {s : State} (h : g.words.length ≤ pwqFree s) : Lawful s (admitAt pick g s) := by
  refine (enqueue_lawful (es := statusEntries s g.words) fun hq => ?_).trans (.of_rfl rfl rfl)
  simpa [statusEntries] using length_add_le_of_le_pwqFree h hq.1

theorem claim_lawful (c : Claim) (s : State) : Lawful s (claim c s) := .of_rfl rfl rfl

theorem release_lawful (c : Claim) (s : State) : Lawful s (release c s) := .of_rfl rfl rfl

theorem recordState_lawful (i : Nat) (v : LoanState) (s : State) : Lawful s (recordState i v s) := .of_rfl rfl rfl

theorem completeWrite_lawful (s : State) : Lawful s (completeWrite s) := .of_rfl rfl rfl

theorem completeRead_lawful (d : Word) (s : State) : Lawful s (completeRead d s) := .of_rfl rfl rfl

theorem hold_lawful (a : Access) (why : Hold) (s : State) : Lawful s (hold a why s) := .of_rfl rfl rfl

theorem forward_lawful (a : Access) (s : State) : Lawful s (forward a s) := .of_rfl rfl rfl

theorem rewrite_lawful (a : Access) (d : Word) (s : State) : Lawful s (rewrite a d s) := .of_rfl rfl rfl

/-! ### Events and the sounder -/

theorem setEvents_lawful (u : EventUnit) (s : State) : Lawful s (s.setEvents u) := .of_rfl rfl rfl

theorem stampEvent_lawful (k d : Nat) (s : State) : Lawful s (stampEvent k d s) :=
  (setEvents_lawful _ s).trans (produce_lawful ..)

theorem raise_lawful (e : Event) (d : Nat) (s : State) : Lawful s (raise e d s) := by
  unfold raise
  cases e.record with
  | none => exact setEvents_lawful ..
  | some k => exact (setEvents_lawful ..).trans (stampEvent_lawful ..)

theorem raiseAll_lawful (es : List Event) (s : State) : Lawful s (raiseAll es s) := by
  unfold raiseAll
  induction es generalizing s with
  | nil => exact .refl s
  | cons e es ih => exact (raise_lawful e 0 s).trans (ih _)

theorem badRequest_lawful (a : Addr) (s : State) : Lawful s (badRequest a s) := raise_lawful ..

theorem clearStamps_lawful (s : State) : Lawful s (clearStamps s) := (setEvents_lawful _ s).trans (produce_lawful ..)

theorem silenceSounder_lawful (s : State) : Lawful s (silenceSounder s) := setEvents_lawful ..

theorem requestTone_lawful (p : Pattern) (s : State) : Lawful s (requestTone p s) := by
  unfold requestTone
  split
  · exact setEvents_lawful ..
  · exact .refl s

theorem requestToneIf_lawful (p : Option Pattern) (s : State) : Lawful s (requestToneIf p s) := by
  cases p with
  | none => exact .refl s
  | some p => exact requestTone_lawful p s

theorem nextSegment_lawful (s : State) : Lawful s (nextSegment s) := by
  unfold nextSegment
  split
  · split
    · exact setEvents_lawful ..
    · exact silenceSounder_lawful s
  · exact .refl s

/-! ### Reports -/

theorem reportVisit_lawful (b s : State) : Lawful s (reportVisit b s) := by
  unfold reportVisit
  split
  · exact .refl s
  · exact produce_lawful ..

theorem reportUpload_lawful (b s : State) : Lawful s (reportUpload b s) := by
  unfold reportUpload
  split
  · exact .refl s
  · exact produce_lawful ..

theorem reportProfile_lawful (b s : State) : Lawful s (reportProfile b s) := by
  unfold reportProfile
  split
  · exact .refl s
  · exact produce_lawful ..

theorem reportWandCounts_lawful (s : State) : Lawful s (reportWandCounts s) := produce_lawful ..

theorem writeClockMirror_lawful (s : State) : Lawful s (writeClockMirror s) := by
  unfold writeClockMirror
  split
  · exact produce_lawful ..
  · exact .refl s

theorem writePatronStatus_lawful (o : GroupOwner) (a b : Word) (s : State) : Lawful s (writePatronStatus o a b s) :=
  (produce_lawful ..).from rfl rfl

/-! ### The journal -/

theorem judgeLow_lawful (s : State) : Lawful s (judgeLow s) := by
  unfold judgeLow
  split
  · split
    · exact (raise_lawful ..).from rfl rfl
    · exact .refl s
  · exact .of_rfl rfl rfl

theorem countLoss_lawful (s : State) : Lawful s (countLoss s) := .of_rfl rfl rfl

/-- The head advances over a free entry. -/
theorem advanceHead_lawful {s : State} (h : 0 < s.freeEntries) : Lawful s (advanceHead s) where
  store := rfl
  pending := rfl
  clock := id
  queue := id
  ring := id
  tail := rfl
  core := by
    intro ⟨hp, hc, ho, hs⟩
    have hn : (advanceHead s).present = s.present + 1 := by
      simp only [State.freeEntries, State.present] at h hp ⊢
      have hx : s.journal.head + 1#32 - s.journal.tail = (s.journal.head - s.journal.tail) + 1#32 := by
        ring
      simp only [advanceHead, State.setJournal_journal, hx]
      rw [BitVec.toNat_add]
      simp only [BitVec.toNat_ofNat]
      omega
    refine ⟨?_, hc, fun b hb => ?_, hs⟩
    · rw [hn]
      simp only [State.freeEntries] at h
      exact (show s.present + 1 ≤ s.active.capacity by omega)
    · have := ho b hb
      omega
  blank := by
    intro _ hb hst
    have hcap : s.active.capacity = 0 := (hb hst).2
    simp only [State.freeEntries] at h
    omega

theorem length_mirrorWrite (s : State) (n : Nat) (w : Word) :
    (mirrorWrite s n w).length = if s.active.statusWin.enable then 1 else 0 := by
  unfold mirrorWrite
  split <;> rfl

theorem length_entryWrites (s : State) (e : JEntry) : (entryWrites s e).length = 8 := by simp [entryWrites, JEntry.words]

theorem appendKept_lawful {e : JEntry} {ws : List QEntry} {s : State} (h : 0 < s.freeEntries)
    (hr : QueueLaw s → s.path.pwq.length + ws.length + systemRoom s ≤ 24) : Lawful s (appendKept e ws s) := by
  have h1 : Lawful s (enqueue (entryWrites s e ++ ws ++ mirrorWrite s 12 (s.journal.head + 1#32)) s) := by
    refine enqueue_lawful fun hq => ?_
    specialize hr hq
    simp only [List.length_append, length_entryWrites, length_mirrorWrite]
    unfold systemRoom at hr
    split at hr <;> simp_all <;> omega
  refine ((h1.trans (follow_lawful ..)).trans (advanceHead_lawful ?_)).trans (judgeLow_lawful _)
  simpa [State.freeEntries, State.present, State.active] using h

theorem appendLost_lawful {ws : List QEntry} {s : State} (hr : QueueLaw s → s.path.pwq.length + ws.length + 1 ≤ 24) :
    Lawful s (appendLost ws s) := by
  unfold appendLost
  refine (countLoss_lawful s).trans ((enqueue_lawful fun hq => ?_).trans ((follow_lawful ..).trans (raise_lawful ..)))
  have hl : (mirrorWrite (countLoss s) 20 (lossWord (countLoss s).journal)).length ≤ 1 := by
    rw [length_mirrorWrite]
    split <;> simp
  have := hr hq
  simp only [List.length_append, countLoss_keeps]
  omega

theorem systemEntry_lawful (e : JEntry) (s : State) : Lawful s (systemEntry e s) := by
  unfold systemEntry
  split
  · next h =>
    have h1 : Lawful s (s.setJournal { s.journal with systemQueue := s.journal.systemQueue ++ [e] }) := by
      refine ⟨⟨rfl, rfl, id, fun ⟨a, b, c, _, hv, ho⟩ => ⟨a, b, c, ?_, hv, ho⟩⟩, id, id, fun _ => id, rfl⟩
      simp [Config.systemDepth] at h ⊢
      omega
    exact h1.trans (beginWait_lawful ..)
  · exact (countLoss_lawful s).trans ((produce_lawful ..).trans (raise_lawful ..))

theorem appendSystem_lawful {s : State} (h : systemReady s = true) : Lawful s (appendSystem s) := by
  have hpos : 0 < systemRoom s := by unfold systemRoom; split <;> decide
  have hroom : s.path.pwq.length + systemRoom s ≤ 24 := by
    simp only [systemReady, Bool.and_eq_true, decide_eq_true_eq] at h
    exact length_add_le_of_pos_le_pwqFree h.2 hpos
  unfold appendSystem
  split
  · exact .refl s
  · next e rest hq =>
    have h0 : Lawful s (s.setJournal { s.journal with systemQueue := rest }) := by
      refine ⟨⟨rfl, rfl, id, fun ⟨a, b, c, d, hv, ho⟩ => ⟨a, b, c, ?_, hv, ho⟩⟩, id, id, fun _ => id, rfl⟩
      rw [hq] at d
      simp at d ⊢
      omega
    have h1 := h0.trans (leaveWait_lawful .systemEntry _)
    simp only []
    split
    · next hf => exact h1.trans (appendKept_lawful hf fun _ => hroom)
    · exact h1.trans (appendLost_lawful fun _ => by simp [leaveWait]; omega)

/-! ### The sweep -/

theorem setSweep_lawful (sw : Sweep) (s : State) : Lawful s (setSweep sw s) := .of_rfl rfl rfl

theorem sweepEnd_lawful (s : State) : Lawful s (sweepEnd s) := by
  unfold sweepEnd
  exact ((produce_lawful ..).trans (raise_lawful ..)).from rfl rfl

theorem endIfDone_lawful (s : State) : Lawful s (endIfDone s) := by
  unfold endIfDone
  split
  · exact sweepEnd_lawful s
  · exact .refl s

theorem sweepBegin_lawful (t : Option Instant) (r : Bool) (s : State) : Lawful s (sweepBegin t r s) :=
  (setSweep_lawful ..).trans (endIfDone_lawful _)

theorem sweepRestart_lawful (t : Option Instant) (s : State) : Lawful s (sweepRestart t s) :=
  (setSweep_lawful ..).trans (endIfDone_lawful _)

theorem sendNotice_lawful (i : Instant) (s : State) : Lawful s (sendNotice i s) := by
  unfold sendNotice rolloverNotice
  split
  · split
    · exact sweepBegin_lawful ..
    · exact sweepRestart_lawful ..
  · exact .refl s

theorem recoveryPass_lawful (s : State) : Lawful s (recoveryPass s) := sweepBegin_lawful ..

theorem sweepStop_lawful (s : State) : Lawful s (sweepStop s) := by
  unfold sweepStop
  split
  · exact .refl s
  · exact setSweep_lawful ..

theorem reportRoom_lawful (s : State) : Lawful s (reportRoom s) := by
  unfold reportRoom
  split
  · exact setSweep_lawful ..
  · exact .refl s

end Sys2Proof.Machine

/-! PROOFS. What an adoption keeps, and that it keeps the laws (10.2). -/

namespace Sys2Proof.Machine

/-! ### The sweep in the engine -/

/-- The engine but for its sweep, its map and the words it last wrote. -/
def Engine.work (e : Engine) := (e.crq, e.busy, e.state, e.op)

@[simp] theorem sweepEnd_work (s : State) : (sweepEnd s).engine.work = s.engine.work := by
  simp [sweepEnd, Engine.work, raise_plain (e := .sweepDone) rfl]

@[simp] theorem endIfDone_work (s : State) : (endIfDone s).engine.work = s.engine.work := by
  unfold endIfDone
  split <;> simp

@[simp] theorem setSweep_work (sw : Sweep) (s : State) : (setSweep sw s).engine.work = s.engine.work := rfl

@[simp] theorem sweepBegin_work (t : Option Instant) (r : Bool) (s : State) :
    (sweepBegin t r s).engine.work = s.engine.work := by simp [sweepBegin]

@[simp] theorem sweepRestart_work (t : Option Instant) (s : State) :
    (sweepRestart t s).engine.work = s.engine.work := by simp [sweepRestart]

@[simp] theorem recoveryPass_work (s : State) : (recoveryPass s).engine.work = s.engine.work := by simp [recoveryPass]

@[simp] theorem sendNotice_work (i : Instant) (s : State) : (sendNotice i s).engine.work = s.engine.work := by
  unfold sendNotice rolloverNotice
  split
  · split <;> simp
  · rfl

@[simp] theorem sweepStop_work (s : State) : (sweepStop s).engine.work = s.engine.work := by
  unfold sweepStop
  split <;> simp

@[simp] theorem reportRoom_work (s : State) : (reportRoom s).engine.work = s.engine.work := by
  unfold reportRoom
  split <;> simp

@[simp] theorem setClock_work (d m k : Nat) (src : SetSource) (s : State) :
    (setClock d m k src s).engine.work = s.engine.work := by
  simp only [setClock]
  split <;> simp

/-! ### The journal's pointers -/

@[simp] theorem judgeLow_pointers (s : State) :
    (judgeLow s).journal.head = s.journal.head ∧ (judgeLow s).journal.tail = s.journal.tail ∧
      (judgeLow s).journal.systemQueue = s.journal.systemQueue ∧ (judgeLow s).journal.lossCount = s.journal.lossCount := by
  unfold judgeLow
  split
  · split <;> simp
  · simp

@[simp] theorem countLoss_pointers (s : State) :
    (countLoss s).journal.head = s.journal.head ∧ (countLoss s).journal.tail = s.journal.tail ∧
      (countLoss s).journal.systemQueue = s.journal.systemQueue ∧ (countLoss s).journal.lowArmed = s.journal.lowArmed := by
  simp [countLoss]

@[simp] theorem systemEntry_pointers (e : JEntry) (s : State) :
    (systemEntry e s).journal.head = s.journal.head ∧ (systemEntry e s).journal.tail = s.journal.tail ∧
      (systemEntry e s).journal.lowArmed = s.journal.lowArmed := by
  unfold systemEntry
  split <;> simp

@[simp] theorem setClock_pointers (d m k : Nat) (src : SetSource) (s : State) :
    (setClock d m k src s).journal.head = s.journal.head ∧ (setClock d m k src s).journal.tail = s.journal.tail := by
  simp only [setClock]
  split <;> simp

/-! ### The parts of an adoption -/

/-- The fields of the Store Path that no queued word and no waiting group changes. -/
def StorePath.still (p : StorePath) :=
  (p.state, p.stage, p.startKind, p.resetSeen, p.repairedConsumer, p.repairedTail, p.startReads, p.upstream, p.completion)

/-- The blocks that no judgement of a candidate changes, with the engine's work, the journal's pointers and the fields of
the Store Path that it does not change. -/
def State.unadopted (s : State) :=
  ((s.store, s.pins, s.wand, s.visit, s.upload, s.pending), s.path.still, s.engine.work, (s.journal.head, s.journal.tail))

/-- The fields of the calendar that no list load changes. -/
def Calendar.clock (c : Calendar) := (c.day, c.minute, c.second, c.prescaler, c.valid, c.backupLoss)

theorem still_of_keeps {p q : StorePath} (h : p.state = q.state ∧ p.stage = q.stage ∧ p.startKind = q.startKind ∧
    p.resetSeen = q.resetSeen ∧ p.repairedConsumer = q.repairedConsumer ∧ p.repairedTail = q.repairedTail ∧
    p.startReads = q.startReads ∧ p.upstream = q.upstream ∧ p.completion = q.completion) : p.still = q.still := by
  obtain ⟨h1, h2, h3, h4, h5, h6, h7, h8, h9⟩ := h
  simp only [StorePath.still, h1, h2, h3, h4, h5, h6, h7, h8, h9]

@[simp] theorem raise_still (e : Event) (d : Nat) (s : State) : (raise e d s).path.still = s.path.still := by
  simp [StorePath.still]

@[simp] theorem raiseClamped_unadopted (b : Bool) (s : State) : (raiseClamped b s).unadopted = s.unadopted := by
  unfold raiseClamped
  split <;> simp [State.unadopted]

@[simp] theorem adoptWaiting_unadopted (w : Window) (s : State) : (adoptWaiting w s).unadopted = s.unadopted := by
  unfold adoptWaiting
  split <;> rfl

@[simp] theorem adoptMap_unadopted (old new : Profile) (s : State) : (adoptMap old new s).unadopted = s.unadopted := by
  unfold adoptMap
  split <;> rfl

@[simp] theorem adoptSweep_unadopted (old new : Profile) (s : State) : (adoptSweep old new s).unadopted = s.unadopted := by
  unfold adoptSweep
  split
  · simp [State.unadopted]
  · split
    · simp [State.unadopted, StorePath.still]
    · split <;> simp [State.unadopted, StorePath.still]

@[simp] theorem adoptCalendar_unadopted (old new : Window) (s : State) : (adoptCalendar old new s).unadopted = s.unadopted := by
  unfold adoptCalendar
  split
  · split <;> rfl
  · split <;> rfl

@[simp] theorem adoptJournal_unadopted (old new : Window) (s : State) : (adoptJournal old new s).unadopted = s.unadopted := by
  unfold adoptJournal
  split <;> simp [State.unadopted]

@[simp] theorem adoptEffects_unadopted (old new : Profile) (s : State) : (adoptEffects old new s).unadopted = s.unadopted := by
  simp [adoptEffects]

@[simp] theorem produce_unadopted (o : GroupOwner) (ws : List (Nat × Word)) (b : Bool) (s : State) :
    (produce o ws b s).unadopted = s.unadopted := by simp [State.unadopted, StorePath.still]

@[simp] theorem raise_unadopted (e : Event) (d : Nat) (s : State) : (raise e d s).unadopted = s.unadopted := by
  simp [State.unadopted]

@[simp] theorem reportProfile_unadopted (b s : State) : (reportProfile b s).unadopted = s.unadopted := by
  simp [State.unadopted, StorePath.still]

@[simp] theorem judgeLow_unadopted (s : State) : (judgeLow s).unadopted = s.unadopted := by
  simp [State.unadopted, StorePath.still]

@[simp] theorem systemEntry_unadopted (e : JEntry) (s : State) : (systemEntry e s).unadopted = s.unadopted := by
  simp [State.unadopted, StorePath.still]

@[simp] theorem adoptStatus_unadopted (old new : Window) (s : State) : (adoptStatus old new s).unadopted = s.unadopted := by
  unfold adoptStatus
  split <;> simp

@[simp] theorem adoptSounder_unadopted (p : Profile) (s : State) : (adoptSounder p s).unadopted = s.unadopted := by
  unfold adoptSounder
  split
  · rfl
  · simp [State.unadopted]

theorem setProfile_unadopted (p : ProfileUnit) (s : State) : (s.setProfile p).unadopted = s.unadopted := rfl

@[simp] theorem adopt_unadopted (ws : List Word) (s : State) : (adopt ws s).unadopted = s.unadopted := by
  simp [adopt, setProfile_unadopted]

@[simp] theorem rejectProfile_unadopted (o : AdoptionOutcome) (s : State) : (rejectProfile o s).unadopted = s.unadopted := by
  simp [rejectProfile, setProfile_unadopted]

@[simp] theorem judgeCandidate_unadopted (s : State) : (judgeCandidate s).unadopted = s.unadopted := by
  unfold judgeCandidate
  split
  · rfl
  · split
    · rfl
    · split <;> simp

/-- What no judgement of a candidate changes, field by field. -/
@[simp] theorem judgeCandidate_keeps (s : State) :
    (judgeCandidate s).store = s.store ∧ (judgeCandidate s).pins = s.pins ∧ (judgeCandidate s).wand = s.wand ∧
      (judgeCandidate s).visit = s.visit ∧ (judgeCandidate s).upload = s.upload ∧ (judgeCandidate s).pending = s.pending ∧
      (judgeCandidate s).path.state = s.path.state ∧ (judgeCandidate s).path.stage = s.path.stage ∧
      (judgeCandidate s).path.upstream = s.path.upstream ∧ (judgeCandidate s).path.completion = s.path.completion ∧
      (judgeCandidate s).engine.crq = s.engine.crq ∧ (judgeCandidate s).engine.busy = s.engine.busy ∧
      (judgeCandidate s).engine.state = s.engine.state ∧ (judgeCandidate s).engine.op = s.engine.op ∧
      (judgeCandidate s).journal.head = s.journal.head ∧ (judgeCandidate s).journal.tail = s.journal.tail := by
  have h := judgeCandidate_unadopted s
  simp only [State.unadopted, StorePath.still, Engine.work, Prod.mk.injEq] at h
  tauto

/-! ### The laws through an adoption -/

/-- A clamped profile has at most 16,384 journal entries (R131). -/
theorem capacity_clamp_le (p : Profile) : p.clamp.capacity ≤ 16384 := by
  have hs : p.clamp.journalWin.size ≤ 17 := by simp [Profile.clamp, Window.clamp, clampTo]
  unfold Profile.capacity
  split
  · calc 2 ^ (p.clamp.journalWin.size - 3) ≤ 2 ^ 14 := Nat.pow_le_pow_right (by decide) (by omega)
      _ = 16384 := by decide
  · exact Nat.zero_le _

/-- The capacity is the JOURNAL window's. -/
theorem capacity_eq_of_journalWin {p q : Profile} (h : p.journalWin = q.journalWin) : p.capacity = q.capacity := by
  simp only [Profile.capacity, h]

/-- A profile put in force over the same JOURNAL window, or over an empty ring, keeps the laws of a running part. -/
theorem setProfile_lawful {s : State} {p : ProfileUnit} (hr : s.path.state = .running)
    (hj : p.active.journalWin = s.active.journalWin ∨ s.journal.head = s.journal.tail) (hc : p.active.capacity ≤ 16384) :
    Lawful s (s.setProfile p) where
  store := rfl
  pending := rfl
  clock := id
  queue := id
  ring := id
  tail := rfl
  core := by
    intro ⟨hp, _, ho, hs⟩
    refine ⟨?_, hc, ho, hs⟩
    rcases hj with hj | hj
    · have hcap : (s.setProfile p).active.capacity = s.active.capacity := capacity_eq_of_journalWin hj
      rw [hcap]
      exact hp
    · have h0 : (s.setProfile p).present = 0 := by simp [State.present, hj]
      omega
  blank := by
    intro ⟨_, _, _, hs⟩ _ hst
    have hst' : s.path.stage = .profileReads := hst
    simp [hst', hr] at hs

theorem raiseClamped_lawful (b : Bool) (s : State) : Lawful s (raiseClamped b s) := by
  unfold raiseClamped
  split
  · exact raise_lawful ..
  · exact .refl s

theorem adoptWaiting_lawful (w : Window) (s : State) : Lawful s (adoptWaiting w s) := by
  unfold adoptWaiting
  split
  · exact .refl s
  · exact .of_rfl rfl rfl

theorem adoptMap_lawful (old new : Profile) (s : State) : Lawful s (adoptMap old new s) := by
  unfold adoptMap
  split
  · exact .of_rfl rfl rfl
  · exact .refl s

theorem adoptSweep_lawful (old new : Profile) (s : State) : Lawful s (adoptSweep old new s) := by
  unfold adoptSweep
  split
  · exact sweepStop_lawful s
  · split
    · exact recoveryPass_lawful s
    · split
      · exact sweepRestart_lawful ..
      · exact .refl s

theorem beginLoad_lawful (s : State) : Lawful s (beginLoad s) := .of_rfl rfl rfl

theorem adoptCalendar_lawful (old new : Window) (s : State) : Lawful s (adoptCalendar old new s) := by
  unfold adoptCalendar
  split
  · split
    · exact .of_rfl rfl rfl
    · exact .refl s
  · split
    · exact beginLoad_lawful s
    · exact .refl s

theorem adoptJournal_lawful (old new : Window) (s : State) : Lawful s (adoptJournal old new s) := by
  unfold adoptJournal
  split
  · exact reportRoom_lawful s
  · exact .refl s

theorem adoptEffects_lawful (old new : Profile) (s : State) : Lawful s (adoptEffects old new s) :=
  (adoptWaiting_lawful ..).trans ((adoptMap_lawful ..).trans ((adoptSweep_lawful ..).trans
    ((adoptCalendar_lawful ..).trans (adoptJournal_lawful ..))))

theorem adoptStatus_lawful (old new : Window) (s : State) : Lawful s (adoptStatus old new s) := by
  unfold adoptStatus
  split
  · exact (produce_lawful ..).trans (produce_lawful ..)
  · exact .refl s

theorem adoptSounder_lawful (p : Profile) (s : State) : Lawful s (adoptSounder p s) := by
  unfold adoptSounder
  split
  · exact .refl s
  · exact silenceSounder_lawful s

theorem adopt_lawful {ws : List Word} {s : State} (hr : s.path.state = .running)
    (hj : (readProfile ws).clamp.journalWin = s.active.journalWin ∨ s.journal.head = s.journal.tail) :
    Lawful s (adopt ws s) := by
  simp only [adopt]
  refine .trans ?_ (adoptStatus_lawful ..)
  refine .trans ?_ ((judgeLow_lawful _).trans (adoptSounder_lawful ..))
  refine .trans ?_ ((systemEntry_lawful ..).trans (raise_lawful ..))
  refine .trans ?_ (reportProfile_lawful ..)
  refine .trans ?_ (adoptEffects_lawful ..)
  refine .trans ?_ (raiseClamped_lawful ..)
  exact setProfile_lawful hr hj (capacity_clamp_le _)

theorem rejectProfile_lawful (o : AdoptionOutcome) (s : State) : Lawful s (rejectProfile o s) :=
  ((reportProfile_lawful ..).trans (raise_lawful ..)).from rfl rfl

theorem judgeCandidate_lawful (s : State) : Lawful s (judgeCandidate s) := by
  unfold judgeCandidate
  split
  · exact .refl s
  · next ws _ =>
    split
    · exact .refl s
    · next hready =>
      have hr : s.path.state = .running := by
        simp only [candidateReady, State.running] at hready
        simp_all
      split
      · exact rejectProfile_lawful ..
      · next hch =>
        refine adopt_lawful hr ?_
        simp only [changesJournal] at hch
        by_cases hw : (readProfile ws).clamp.journalWin = s.active.journalWin <;> simp_all

theorem requestAdoption_lawful (s : State) : Lawful s (requestAdoption s) := by
  unfold requestAdoption
  split
  · refine .trans ?_ (judgeCandidate_lawful _)
    exact (reportProfile_lawful ..).from rfl rfl
  · exact rejectProfile_lawful ..

end Sys2Proof.Machine

/-! PROOFS. The Visit Unit and the Circulation Engine keep the laws (Chapters 1, 2, 5, 7). -/

namespace Sys2Proof.Machine

/-! ### The Visit Unit -/

/-- A Visit Unit whose Slip Queue and slip list keep their bounds keeps the laws. -/
theorem setVisit_lawful {s : State} {v : VisitUnit} (hs : s.visit.slips.length ≤ 4 → v.slips.length ≤ 4)
    (hl : (∀ r, s.visit.visit = some r → r.list.length ≤ 16) → ∀ r, v.visit = some r → r.list.length ≤ 16) :
    Lawful s (s.setVisit v) :=
  ⟨⟨rfl, rfl, id, fun ⟨a, b, c, d, e, f⟩ => ⟨a, b, hs c, d, hl e, f⟩⟩, id, id, fun _ => id, rfl⟩

theorem loadTimer_lawful (s : State) : Lawful s (loadTimer s) := .of_rfl rfl rfl

theorem reloadTimer_lawful (s : State) : Lawful s (reloadTimer s) := by
  unfold reloadTimer
  split
  · exact loadTimer_lawful s
  · exact .refl s

theorem askSlip_lawful (v : Visit) (c : Bool) (s : State) : Lawful s (askSlip v c s) := by
  unfold askSlip
  split
  · exact raise_lawful ..
  · next h =>
    refine setVisit_lawful (fun _ => ?_) id
    simp [Config.slipDepth] at h ⊢
    omega

theorem askSlipIfEnabled_lawful (v : Visit) (c : Bool) (s : State) : Lawful s (askSlipIfEnabled v c s) := by
  unfold askSlipIfEnabled
  split
  · exact askSlip_lawful ..
  · exact .refl s

theorem startPrinter_lawful (s : State) : Lawful s (startPrinter s) := by
  unfold startPrinter
  split
  · split
    · exact .refl s
    · split
      · exact (raise_lawful ..).from rfl rfl
      · exact .of_rfl rfl rfl
  · exact .refl s

theorem length_beginNext (r : Reading) (l : List Slip) : (beginNext r l).length = l.length := by
  induction l with
  | nil => rfl
  | cons x l ih => cases x <;> simp [beginNext, ih]

theorem length_finishJob (t : List Byte) (r : Reading) (l : List Slip) : (finishJob t r l).length = l.length := by
  induction l with
  | nil => rfl
  | cons x l ih => cases x <;> simp [finishJob, ih, length_beginNext]

theorem length_setJob (j : SlipJob) (l : List Slip) : (setJob j l).length = l.length := by
  induction l with
  | nil => rfl
  | cons x l ih => cases x <;> simp [setJob, ih]

theorem slipRead_lawful (j : SlipJob) (w : Word) (s : State) : Lawful s (slipRead j w s) := by
  simp only [slipRead]
  split
  · exact setVisit_lawful (by simp [length_setJob]) id
  · refine .trans ?_ (reportVisit_lawful ..)
    refine .trans ?_ (startPrinter_lawful _)
    exact setVisit_lawful (by simp [length_finishJob]) id

theorem closeWord_lawful (b : Bool) (s : State) : Lawful s (closeWord b s) := by
  unfold closeWord
  split
  · exact (produce_lawful ..).from rfl rfl
  · exact .refl s

theorem clearVisit_lawful (s : State) : Lawful s (clearVisit s) := setVisit_lawful id fun _ _ h => by cases h

theorem settleVisit_lawful (s : State) : Lawful s (settleVisit s) := by
  unfold settleVisit
  split
  · exact clearVisit_lawful s
  · exact .refl s

theorem closeAct_lawful (b : Bool) (v : Visit) (s : State) : Lawful s (closeAct b v s) := by
  have h : Lawful s (if v.list.isEmpty then s else askSlipIfEnabled v false s) := by
    split
    · exact .refl s
    · exact askSlipIfEnabled_lawful ..
  simp only [closeAct]
  refine .trans ?_ ((raise_lawful ..).trans (reportVisit_lawful ..))
  exact h.trans ((clearVisit_lawful _).trans ((writePatronStatus_lawful ..).trans (closeWord_lawful ..)))

theorem closeVisit_lawful (b : Bool) (s : State) : Lawful s (closeVisit b s) := by
  unfold closeVisit
  split
  · exact .refl s
  · exact (closeAct_lawful ..).trans (judgeCandidate_lawful _)

/-- What the close of a visit leaves of the engine's work, of the state of the Store Path and of the other blocks. -/
@[simp] theorem closeVisit_keeps (b : Bool) (s : State) :
    (closeVisit b s).store = s.store ∧ (closeVisit b s).pins = s.pins ∧ (closeVisit b s).wand = s.wand ∧
      (closeVisit b s).upload = s.upload ∧ (closeVisit b s).pending = s.pending ∧
      (closeVisit b s).path.state = s.path.state ∧ (closeVisit b s).path.stage = s.path.stage ∧
      (closeVisit b s).path.upstream = s.path.upstream ∧ (closeVisit b s).path.completion = s.path.completion ∧
      (closeVisit b s).engine.crq = s.engine.crq ∧ (closeVisit b s).engine.busy = s.engine.busy ∧
      (closeVisit b s).engine.state = s.engine.state ∧ (closeVisit b s).engine.op = s.engine.op ∧
      (closeVisit b s).journal.head = s.journal.head ∧ (closeVisit b s).journal.tail = s.journal.tail := by
  unfold closeVisit
  split <;> simp

theorem setStanding_lawful (st : Standing) (s : State) : Lawful s (setStanding st s) := by
  unfold setStanding
  split
  · next v hv =>
    refine .trans ?_ (reportVisit_lawful ..)
    refine setVisit_lawful id fun h r hr => ?_
    cases hr
    exact h v hv
  · exact .refl s

theorem appendGrant_lawful (e : SlipEntry) (b : Nat) (s : State) : Lawful s (appendGrant e b s) := by
  unfold appendGrant
  split
  · exact .refl s
  · split
    · exact .refl s
    · split
      · next hl =>
        refine .trans ?_ (reportVisit_lawful ..)
        refine setVisit_lawful id fun _ r hr => ?_
        cases hr
        simp [Config.slipListMax] at hl ⊢
        omega
      · refine .trans ?_ (reportVisit_lawful ..)
        refine .trans ?_ (setVisit_lawful id fun _ r hr => ?_)
        · split
          · exact askSlipIfEnabled_lawful ..
          · exact .refl s
        · cases hr
          simp

theorem reprintCommand_lawful (a : Addr) (s : State) : Lawful s (reprintCommand a s) := by
  unfold reprintCommand
  split
  · exact badRequest_lawful a s
  · split
    · exact badRequest_lawful a s
    · next h =>
      simp only [queueReady]
      refine .trans ?_ (reportVisit_lawful ..)
      refine .trans ?_ (startPrinter_lawful _)
      refine .trans ?_ (reportVisit_lawful ..)
      refine setVisit_lawful (fun _ => ?_) id
      simp [Config.slipDepth] at h ⊢
      omega

theorem slipDone_lawful (s : State) : Lawful s (slipDone s) := by
  unfold slipDone
  split
  · next t rest hs =>
    simp only []
    refine .trans ?_ (reportVisit_lawful ..)
    refine .trans ?_ (startPrinter_lawful _)
    refine .trans ?_ (reportVisit_lawful ..)
    refine setVisit_lawful (fun h => ?_) id
    rw [hs] at h
    simp at h ⊢
    omega
  · exact .refl s

/-! ### The engine -/

/-- A decided plan of the operation has the size of a group. -/
def OpFits (op : Op) : Prop := ∀ p, op.decided = some (.plan p) ∨ op.decided = some (.grant p) → PlanFits p

/-- The same of a decision. -/
def DecidedFits : Decided → Prop
  | .plan p => PlanFits p
  | .grant p => PlanFits p
  | .patron _ _ _ _ => True

theorem QueueLaw.opFits {s : State} {op : Op} (h : QueueLaw s) (ho : s.engine.op = some op) : OpFits op :=
  fun p hp => h.2.2.2.2.2 op p ho hp

theorem opFits_of_decided {op : Op} {d : Decided} (h : DecidedFits d) : OpFits { op with decided := some d } := by
  rintro p (hp | hp) <;> cases hp <;> exact h

theorem opFits_iff_decidedFits {op : Op} {d : Decided} (h : op.decided = some d) : OpFits op ↔ DecidedFits d := by
  constructor
  · intro hf
    cases d with
    | plan p => exact hf p (.inl h)
    | grant p => exact hf p (.inr h)
    | patron => trivial
  · rintro hf p (hp | hp) <;> rw [h] at hp <;> cases hp <;> exact hf

/-- An engine whose queue and operation keep their bounds keeps the laws. -/
theorem setEngine_lawful {s : State} {e : Engine} (hc : s.engine.crq.length ≤ 16 → e.crq.length ≤ 16)
    (ho : QueueLaw s → ∀ op, e.op = some op → OpFits op) : Lawful s (s.setEngine e) :=
  ⟨⟨rfl, rfl, id, fun h => ⟨h.1, hc h.2.1, h.2.2.1, h.2.2.2.1, h.2.2.2.2.1, fun op p hop hp => ho h op hop p hp⟩⟩,
    id, id, fun _ => id, rfl⟩

/-- An entry joins a CRQ with room. -/
theorem joinCrq_lawful {e : CrqEntry} {s : State} (h : s.engine.crq.length < 16) : Lawful s (joinCrq e s) :=
  setEngine_lawful (fun _ => by simpa using h) fun hq _ ho => hq.opFits ho

theorem queuePatronOpen_lawful {b : Nat} {s : State} (h : s.engine.crq.length < 16) : Lawful s (queuePatronOpen b s) :=
  (joinCrq_lawful (e := .patronOpen b) h).trans (claim_lawful ..)

theorem openVisit_lawful {b : Nat} {s : State} (h : s.engine.crq.length < 16) : Lawful s (openVisit b s) := by
  unfold openVisit
  refine .trans ?_ (queuePatronOpen_lawful (by simpa using h))
  refine .trans ?_ ((loadTimer_lawful _).trans (reportVisit_lawful ..))
  refine setVisit_lawful id fun _ r hr => ?_
  cases hr
  exact Nat.zero_le _

theorem refreshVisit_lawful {b : Nat} {s : State} (h : s.engine.crq.length < 16) : Lawful s (refreshVisit b s) := by
  unfold refreshVisit
  refine .trans ?_ (queuePatronOpen_lawful (by simpa using h))
  exact (setStanding_lawful ..).trans (loadTimer_lawful _)

theorem setOp_lawful {st : EngineState} {op : Op} {s : State} (h : QueueLaw s → OpFits op) :
    Lawful s (setOp st (some op) s) :=
  setEngine_lawful id fun hq o ho => by cases ho; exact h hq

theorem setOp_none_lawful (st : EngineState) (s : State) : Lawful s (setOp st none s) :=
  setEngine_lawful id fun _ o ho => by cases ho

theorem opFits_newOp (k : OpKind) (todo : List FetchWord) (b : Option Nat) : OpFits (newOp k todo b) := by
  rintro p (hp | hp) <;> cases hp

theorem takeEntry_lawful {e : CrqEntry} {rest : List CrqEntry} {s : State} (h : s.engine.crq = e :: rest) :
    Lawful s (takeEntry e rest s) := by
  refine setEngine_lawful (fun hc => ?_) fun _ o ho => ?_
  · rw [h] at hc
    simp at hc ⊢
    omega
  · cases ho
    exact opFits_newOp _ _ _

theorem startStep_lawful (s : State) : Lawful s (startStep s) := by
  refine .trans ?_ (claim_lawful ..)
  refine setEngine_lawful id fun _ o ho => ?_
  cases ho
  exact opFits_newOp _ _ _

theorem releaseIf_lawful (c : Option Claim) (s : State) : Lawful s (releaseIf c s) := by
  cases c with
  | none => exact .refl s
  | some c => exact release_lawful c s

theorem releaseClaims_lawful (op : Op) (s : State) : Lawful s (releaseClaims op s) :=
  (releaseIf_lawful ..).trans (releaseIf_lawful ..)

theorem advanceCursor_lawful (s : State) : Lawful s (advanceCursor s) := (setSweep_lawful ..).trans (endIfDone_lawful _)

theorem stepEnds_lawful (k : OpKind) (s : State) : Lawful s (stepEnds k s) := by
  cases k with
  | entry e => exact .refl s
  | sweepStep i t => exact advanceCursor_lawful s

theorem finishIdle_lawful (op : Op) (s : State) : Lawful s (finishIdle op s) :=
  (setOp_none_lawful ..).trans ((releaseClaims_lawful ..).trans ((stepEnds_lawful ..).trans (judgeCandidate_lawful _)))

theorem toCommit_lawful {op : Op} {d : Decided} {s : State} (h : DecidedFits d) : Lawful s (toCommit op d s) :=
  (setOp_lawful fun _ => opFits_of_decided h).trans (beginWait_lawful ..)

/-! ### The sizes of decided groups (Tables 1-7, 5-6) -/

theorem length_borrowerWord_le (op : Op) (n : Nat) (w : Word) : (op.borrowerWord n w).length ≤ 1 := by
  unfold Op.borrowerWord
  split <;> simp

theorem planFits_loanRefused (p : Profile) (op : Op) (i : Nat) (r : Reading) (reason : Nat) :
    PlanFits (loanRefused p op i r reason) := ⟨Nat.zero_le _, Nat.zero_le _⟩

theorem planFits_renewRefused (p : Profile) (op : Op) (i : Nat) (st : LoanState) (r : Reading) (reason : Nat) :
    PlanFits (renewRefused p op i st r reason) := ⟨Nat.zero_le _, Nat.zero_le _⟩

theorem planFits_two {p : Plan} {op : Op} {m n : Nat} {v w : Word} (h : p.borrowerWords = op.borrowerWord m v ++ op.borrowerWord n w)
    (hs : p.slotWords.length ≤ 3) : PlanFits p := by
  have h1 := length_borrowerWord_le op m v
  have h2 := length_borrowerWord_le op n w
  exact ⟨by rw [h, List.length_append]; omega, hs⟩

theorem planFits_loanGranted (p : Profile) (op : Op) (i : Nat) (r : Reading) (d : Instant) (nod short : Bool) :
    PlanFits (loanGranted p op i r d nod short) := planFits_two rfl (Nat.le_refl 3)

theorem planFits_returned (p : Profile) (op : Op) (i : Nat) (st : LoanState) (r : Reading) (fine : Nat) :
    PlanFits (returned p op i st r fine) := planFits_two rfl (by decide : 1 ≤ 3)

theorem planFits_renewGranted (op : Op) (i : Nat) (r : Reading) (d : Instant) (nod short : Bool) :
    PlanFits (renewGranted op i r d nod short) :=
  ⟨(length_borrowerWord_le ..).trans (by decide), (by decide : 1 ≤ 3)⟩

theorem planFits_marked (p : Profile) (op : Op) (i : Nat) (r : Reading) : PlanFits (marked p op i r) :=
  ⟨(length_borrowerWord_le ..).trans (by decide), Nat.zero_le _⟩

theorem decidedFits_loanAnswered (s : State) (op : Op) (i : Nat) (r : Reading) : DecidedFits (loanAnswered s op i r) := by
  simp only [loanAnswered]
  split
  · exact planFits_loanGranted ..
  · exact planFits_loanRefused ..
  · exact planFits_loanRefused ..

theorem decidedFits_renewAnswered (s : State) (op : Op) (i : Nat) (st : LoanState) (r : Reading) :
    DecidedFits (renewAnswered s op i st r) := by
  simp only [renewAnswered]
  split
  · exact planFits_renewGranted ..
  · exact planFits_renewRefused ..
  · exact planFits_renewRefused ..

theorem decidedFits_answered (s : State) (op : Op) (r : Reading) : DecidedFits (answered s op r) := by
  have empty : PlanFits emptyPlan := ⟨Nat.zero_le _, Nat.zero_le _⟩
  unfold answered
  split
  · exact decidedFits_loanAnswered ..
  · exact decidedFits_renewAnswered ..
  · exact planFits_returned ..
  · exact empty

theorem decidedFits_stepOutcome {s : State} {op : Op} {i : Nat} {t : Option Instant} {r : Reading} {d : Decided}
    (h : stepOutcome s op i t r = some d) : DecidedFits d := by
  unfold stepOutcome at h
  split at h
  · cases h
    exact planFits_marked ..
  · split at h
    · cases h
      exact ⟨Nat.zero_le _, Nat.zero_le _⟩
    · cases h

theorem decidedFits_judgeOp {s : State} {op : Op} {r : Reading} {d : Decided} (h : judgeOp s op r = .decided d) :
    DecidedFits d := by
  unfold judgeOp at h
  split at h
  · split at h <;> cases h
    exact planFits_loanRefused ..
  · split at h <;> cases h
    exact planFits_renewRefused ..
  · split at h <;> cases h
    exact planFits_returned ..
  · cases h
    exact ⟨Nat.le_refl 2, Nat.zero_le _⟩
  · cases h
    trivial
  · split at h
    · next hd =>
      cases h
      exact decidedFits_stepOutcome hd
    · cases h

/-! ### FETCH and DECIDE -/

theorem enterDecide_lawful {op : Op} {s : State} (h : QueueLaw s → OpFits op) : Lawful s (enterDecide op s) := by
  simp only [enterDecide]
  split
  · exact finishIdle_lawful ..
  · next d hd => exact toCommit_lawful (decidedFits_judgeOp hd)
  · split
    · exact toCommit_lawful (decidedFits_answered ..)
    · exact setOp_lawful h

theorem decideAfterLoad_lawful (s : State) : Lawful s (decideAfterLoad s) := by
  unfold decideAfterLoad
  split
  · split
    · exact toCommit_lawful (decidedFits_answered ..)
    · exact .refl s
  · exact .refl s

theorem signalPatron_lawful (k : OpKind) (i : Nat) (s : State) : Lawful s (signalPatron k i s) := by
  unfold signalPatron
  split
  · split
    · exact loadTimer_lawful s
    · exact .refl s
  · exact .refl s

theorem noteBorrower_lawful {op : Op} {s : State} (h : QueueLaw s → OpFits op) : Lawful s (noteBorrower op s) := by
  unfold noteBorrower
  split
  · refine .trans ?_ (signalPatron_lawful ..)
    refine .trans (setOp_lawful fun hq => ?_) (claim_lawful ..)
    exact h hq
  · exact setOp_lawful h

theorem afterFetch_lawful {op : Op} {s : State} (h : QueueLaw s → OpFits op) : Lawful s (afterFetch op s) := by
  unfold afterFetch
  split
  · split
    · exact setOp_lawful h
    · exact enterDecide_lawful h
  · exact enterDecide_lawful h

theorem fetchReturned_lawful {op : Op} {w : FetchWord} {d : Word} {s : State} (ho : s.engine.op = some op) :
    Lawful s (fetchReturned op w d s) := by
  have h : QueueLaw s → OpFits (op.keep w d) := fun hq => by
    have hop : OpFits op := hq.opFits ho
    cases w <;> exact hop
  simp only [fetchReturned]
  split
  · exact noteBorrower_lawful h
  · split
    · exact afterFetch_lawful h
    · exact setOp_lawful h

/-! ### COMMIT -/

/-- A plan's words, its link and its status word, are at most seven. -/
theorem length_groupWords_le (s : State) (op : Op) {plan : Plan} (kept : Bool) (h : PlanFits plan) :
    (groupWords s op plan kept).length ≤ 7 := by
  obtain ⟨h1, h2⟩ := h
  have hl : (linkWord plan kept s.journal.head).length ≤ 1 := by unfold linkWord; split <;> simp
  have hs : (statusWordOf plan).length ≤ 1 := by unfold statusWordOf; split <;> simp
  simp only [groupWords, borrowerEntries, slotEntries, List.length_append, List.length_map]
  omega

theorem countResolution_lawful (op : Op) (k : Nat) (s : State) : Lawful s (countResolution op k s) := .of_rfl rfl rfl

theorem placeGroup_lawful {op : Op} {plan : Plan} {s : State} (hf : QueueLaw s → PlanFits plan)
    (hr : s.path.pwq.length ≤ 8) : Lawful s (placeGroup op plan s) := by
  have room : systemRoom s ≤ 9 := by unfold systemRoom; split <;> decide
  have len (u : State) (kept : Bool) (h : QueueLaw s) := length_groupWords_le u op kept (hf h)
  unfold placeGroup
  split
  · split
    · next hfree => exact appendKept_lawful hfree fun h => by have := len s true h; omega
    · split
      · exact appendLost_lawful fun h => by have := len s false h; omega
      · exact enqueue_lawful fun h => by have := len s false h; omega
  · next k _ _ =>
    refine .trans (countResolution_lawful op k s) ⟨⟨rfl, rfl, id, fun hq => ⟨?_, hq.2⟩⟩, id, id, fun _ => id, rfl⟩
    have hm : (mirrorWrite (countResolution op k s) 21 (countResolution op k s).engine.interruptedWord).length ≤ 1 := by
      rw [length_mirrorWrite]
      split <;> simp
    have := len (countResolution op k s) false hq
    simp only [enqueue_pwq, List.length_append]
    have : (countResolution op k s).path.pwq.length = s.path.pwq.length := rfl
    omega
  · exact enqueue_lawful fun h => by have := len s false h; omega

theorem recordPlan_lawful (op : Op) (plan : Plan) (s : State) : Lawful s (recordPlan op plan s) := by
  unfold recordPlan
  split
  · exact recordState_lawful ..
  · exact .refl s

theorem passGrant_lawful (op : Op) (plan : Plan) (s : State) : Lawful s (passGrant op plan s) := by
  unfold passGrant
  split
  · exact appendGrant_lawful ..
  · exact .refl s

theorem raiseReason_lawful (r : Option Nat) (s : State) : Lawful s (raiseReason r s) := by
  cases r with
  | none => exact .refl s
  | some d => exact raise_lawful .refusal d s

theorem reportFinish_lawful (plan : Plan) (s : State) : Lawful s (reportFinish plan s) :=
  (raiseAll_lawful ..).trans ((raiseReason_lawful ..).trans (requestToneIf_lawful ..))

theorem countMark_lawful (op : Op) (plan : Plan) (s : State) : Lawful s (countMark op plan s) := by
  unfold countMark
  split
  · exact setSweep_lawful ..
  · exact .refl s

theorem commitPlan_lawful {op : Op} {plan : Plan} {s : State} (hf : QueueLaw s → PlanFits plan)
    (hr : s.path.pwq.length ≤ 8) : Lawful s (commitPlan op plan s) := by
  have h0 : Lawful s (placeGroup op plan (leaveWait .engineCommit s)) :=
    (leaveWait_lawful ..).trans (placeGroup_lawful (fun hq => hf hq) hr)
  unfold commitPlan
  refine .trans ?_ ((countMark_lawful ..).trans (finishIdle_lawful ..))
  refine .trans ?_ (reportFinish_lawful ..)
  exact h0.trans ((recordPlan_lawful ..).trans (passGrant_lawful ..))

theorem pauseSweep_lawful (op : Op) (s : State) : Lawful s (pauseSweep op s) := by
  simp only [pauseSweep]
  refine .trans ?_ (judgeCandidate_lawful _)
  refine .trans ?_ ((setOp_none_lawful ..).trans (releaseClaims_lawful ..))
  exact (leaveWait_lawful ..).trans (setSweep_lawful ..)

theorem deliverVerdict_lawful (v : Verdict) (ws : Word × Word) (s : State) : Lawful s (deliverVerdict v ws s) := by
  have h (st : Standing) : Lawful s (setStanding st (s.setVisit { s.visit with verdictWord := ws.1, finesWord := ws.2 })) :=
    (setStanding_lawful ..).from rfl rfl
  simp only [deliverVerdict]
  split
  · exact (h _).trans ((raise_lawful .patronBlocked 0 _).trans (requestTone_lawful .alarm _))
  · exact h _

theorem length_patronGroup_le (s : State) (op : Op) (w : Word) (ws : Option (Word × Word)) :
    (patronGroup s op w ws).length ≤ 3 := by
  unfold patronGroup
  split <;> cases ws <;> simp [borrowerEntries, length_mirrorWrite] <;> split <;> simp

theorem commitPatron_lawful {op : Op} {w : Word} {v : Verdict} {n : Nat} {es : List Event} {s : State}
    (hr : s.path.pwq.length ≤ 8) : Lawful s (commitPatron op w v n es s) := by
  simp only [commitPatron]
  refine .trans ?_ (finishIdle_lawful ..)
  have h1 (g : List QEntry) (hg : g.length ≤ 3) : Lawful s (enqueue g (leaveWait .engineCommit s)) :=
    (leaveWait_lawful ..).trans (enqueue_lawful fun _ => by
      have : (leaveWait .engineCommit s).path.pwq.length = s.path.pwq.length := rfl
      omega)
  have h2 := h1 _ (length_patronGroup_le s op w (if s.visiting (op.borrower.getD Config.noIndex) then
    some (patronWords (op.borrower.getD Config.noIndex) v n) else none))
  split
  · refine .trans ?_ (raiseAll_lawful ..)
    split <;> simp_all only [if_true]
    · exact h2.trans (deliverVerdict_lawful ..)
    · exact h2
  · split <;> simp_all only [if_true]
    · exact h2.trans (deliverVerdict_lawful ..)
    · exact h2

theorem commitOp_lawful {op : Op} {d : Decided} {s : State} (hf : QueueLaw s → DecidedFits d)
    (hr : s.path.pwq.length ≤ 8) : Lawful s (commitOp op d s) := by
  have refusal (reason : Nat) : PlanFits (refusedAtCommit s op reason) := by
    simp only [refusedAtCommit]
    split
    · exact planFits_renewRefused ..
    · exact planFits_loanRefused ..
  unfold commitOp
  split
  · unfold commitGrant
    split
    · exact commitPlan_lawful (fun _ => refusal _) hr
    · split
      · exact commitPlan_lawful (fun _ => refusal _) hr
      · exact commitPlan_lawful hf hr
  · unfold commitDecided
    split
    · exact pauseSweep_lawful ..
    · exact commitPlan_lawful hf hr
  · exact commitPatron_lawful hr

/-- What it takes for the group of the operation in flight to be admitted now (R14). -/
theorem commitReady_eq_some_iff {s : State} {op : Op} {d : Decided} : commitReady s = some (op, d) ↔ CommitAdmitted s op d := by
  unfold commitReady CommitAdmitted
  constructor
  · intro h
    split at h
    · next op' hs ho =>
      split at h
      · next d' hd =>
        split at h
        · next hc =>
          cases h
          simp only [Bool.and_eq_true, decide_eq_true_eq] at hc
          have hl := length_add_le_of_pos_le_pwqFree hc.2 (by decide)
          exact ⟨hs, ho, hd, hc.1, by simp only [Config.commitRoom] at hl; omega⟩
        · cases h
      · cases h
    · cases h
  · rintro ⟨hs, ho, hd, hf, hl⟩
    have hroom : Config.commitRoom ≤ pwqFree s := by simp only [pwqFree, Config.commitRoom, Config.pwqDepth]; omega
    have hat : atFront s .engineCommit = true := hf
    simp [hs, ho, hd, hat, hroom]

end Sys2Proof.Machine

/-! PROOFS. The Upload Engine and the setting of the desk clock keep the laws (3.2, 8.3, 8.4). -/

namespace Sys2Proof.Machine

/-! ### The Upload Engine -/

/-- The Upload Engine is at work, or the part is past its start: no start reads its words. -/
def Uploads (s : State) : Prop := s.path.state ≠ .starting ∨ s.upload.state ≠ .idle

theorem Uploads.stage {s : State} (h : Uploads s) (hc : JournalCore s) : s.path.stage = .none := by
  by_contra hs
  obtain ⟨h1, h2, _⟩ := hc.2.2.2 hs
  exact h.elim (· h1) (· h2)

theorem uploads_of_running {s : State} (h : s.path.state = .running) : Uploads s := .inl (by rw [h]; decide)

/-- An Upload Engine whose outstanding batch lies within the present entries keeps the laws. -/
theorem setUpload_lawful {s : State} {u : Upload} (hu : JournalCore s → s.path.stage = .none)
    (ho : JournalCore s → ∀ b, u.outstanding = some b → b.count ≤ s.present) : Lawful s (s.setUpload u) where
  store := rfl
  pending := rfl
  clock := id
  queue := id
  ring := id
  tail := rfl
  core := fun h => ⟨h.1, h.2.1, ho h, fun hs => absurd (hu h) hs⟩
  blank := fun _ => id

/-- The same with the outstanding batch unchanged. -/
theorem setUpload_kept_lawful {s : State} {u : Upload} (hu : Uploads s) (ho : u.outstanding = s.upload.outstanding) :
    Lawful s (s.setUpload u) := setUpload_lawful hu.stage fun h b hb => h.2.2.1 b (ho ▸ hb)

/-- The same with no outstanding batch. -/
theorem setUpload_cleared_lawful {s : State} {u : Upload} (hu : Uploads s) (ho : u.outstanding = none) :
    Lawful s (s.setUpload u) := setUpload_lawful hu.stage fun _ b hb => by rw [ho] at hb; cases hb

theorem sendFrame_lawful (f : TxFrame) (s : State) : Lawful s (sendFrame f s) := .of_rfl rfl rfl

theorem sendHello_lawful {s : State} (h : Uploads s) : Lawful s (sendHello s) := by
  simp only [sendHello]
  exact (sendFrame_lawful ..).trans (setUpload_kept_lawful (s := sendFrame _ s) h rfl)

theorem enterWaitLine_lawful {s : State} (before : State) (h : Uploads s) : Lawful s (enterWaitLine before s) := by
  have h1 := (setUpload_kept_lawful (u := { s.upload with state := .waitLine, ackTimer := false }) h rfl).trans
    (reportUpload_lawful before _)
  simp only [enterWaitLine]
  split
  · refine .trans ?_ (reportUpload_lawful ..)
    exact h1.trans (sendHello_lawful (.inr (by simp)))
  · exact h1

theorem startUpload_lawful {s : State} (h : s.path.state ≠ .starting) : Lawful s (startUpload s) :=
  (setUpload_cleared_lawful (u := s.upload.begun s.active.upload) (.inl h) (by rfl)).trans
    (enterWaitLine_lawful s (.inl h))

theorem failUpload_lawful {s : State} (c : FailCause) (h : Uploads s) : Lawful s (failUpload c s) := by
  refine .trans ?_ (judgeCandidate_lawful _)
  refine .trans ?_ ((reportUpload_lawful ..).trans (raise_lawful ..))
  exact setUpload_cleared_lawful h rfl

theorem longRetry_lawful {s : State} (h : Uploads s) : Lawful s (longRetry s) := by
  simp only [longRetry]
  split
  · refine .trans (setUpload_cleared_lawful h (by rfl)) (enterWaitLine_lawful s ?_)
    exact h
  · exact failUpload_lawful _ h

theorem failedAttempt_lawful {s : State} (b : Batch) (h : Uploads s) : Lawful s (failedAttempt b s) := by
  simp only [failedAttempt]
  split
  · refine .trans ?_ (reportUpload_lawful ..)
    exact (setUpload_kept_lawful h (by rfl)).trans (sendFrame_lawful ..)
  · refine .trans (setUpload_kept_lawful h (by rfl)) (longRetry_lawful ?_)
    exact h

theorem sendDone_lawful {s : State} (h : Uploads s) : Lawful s (sendDone s) := by
  simp only [sendDone]
  exact (sendFrame_lawful ..).trans (setUpload_kept_lawful (s := sendFrame _ s) h rfl)

theorem formBatch_lawful {s : State} (h : Uploads s) : Lawful s (formBatch s) := by
  simp only [formBatch]
  split
  · exact sendDone_lawful h
  · refine setUpload_lawful h.stage fun _ b hb => ?_
    cases hb
    exact Nat.min_le_right ..

theorem batchRead_lawful {b : Batch} {w : Word} {s : State} (hb : s.upload.outstanding = some b) :
    Lawful s (batchRead b w s) := by
  have hu (hj : JournalCore s) : s.path.stage = .none := by
    by_contra hs
    rw [(hj.2.2.2 hs).2.2] at hb
    cases hb
  have hc (hj : JournalCore s) : ∀ c, some { b with words := b.words ++ [w] } = some c → c.count ≤ s.present := by
    rintro c ⟨⟩
    exact hj.2.2.1 b hb
  simp only [batchRead]
  split
  · exact setUpload_lawful hu hc
  · exact (setUpload_lawful hu hc).trans (sendFrame_lawful ..)

/-! ### A set of the clock (R49) -/

theorem placeClock_lawful {d m k : Nat} {s : State} (h : timeInRange d m k = true) : Lawful s (placeClock d m k s) :=
  ⟨⟨rfl, rfl, fun _ => by simpa [timeInRange, ClockLaw, placeClock, Config.lastDay, Config.lastMinute, and_assoc] using h,
    id⟩, id, id, fun _ => id, rfl⟩

theorem setClock_lawful {d m k : Nat} {src : SetSource} {s : State} (h : timeInRange d m k = true) :
    Lawful s (setClock d m k src s) := by
  have h1 : Lawful s (writeClockMirror (placeClock d m k s)) := (placeClock_lawful h).trans (writeClockMirror_lawful _)
  simp only [setClock]
  split
  · exact h1.trans ((systemEntry_lawful ..).trans ((raise_lawful ..).trans (sendNotice_lawful ..)))
  · exact h1.trans ((systemEntry_lawful ..).trans (raise_lawful ..))

theorem setClockCommand_lawful (a : Addr) (s : State) : Lawful s (setClockCommand a s) := by
  simp only [setClockCommand]
  split
  · next h =>
    simp only [copiesGood, Bool.and_eq_true] at h
    exact setClock_lawful h.2
  · exact badRequest_lawful a s

theorem offerTime_lawful (d m k v : Nat) (s : State) : Lawful s (offerTime d m k v s) := by
  unfold offerTime
  split
  · exact .refl s
  · split
    · exact raise_lawful ..
    · next h =>
      have hr : timeInRange d m k = true := by simpa using h
      split
      · exact setClock_lawful hr
      · split
        · exact setClock_lawful hr
        · exact .refl s

/-! ### The replies of the central -/

@[simp] theorem sendNotice_upload (i : Instant) (s : State) : (sendNotice i s).upload = s.upload := by simp

theorem offerTime_uploads {d m k v : Nat} {s : State} (h : s.upload.state ≠ .idle) : Uploads (offerTime d m k v s) := by
  have hu : (offerTime d m k v s).upload = s.upload := by
    unfold offerTime
    split
    · rfl
    · split
      · simp
      · split
        · simp
        · split <;> simp
  exact .inr (by rwa [hu])

theorem welcomeDelivered_lawful (d m k v : Nat) (s : State) : Lawful s (welcomeDelivered d m k v s) := by
  simp only [welcomeDelivered]
  split
  · next h =>
    have hu : Uploads s := .inr (by rw [h]; decide)
    refine .trans ?_ (reportUpload_lawful ..)
    refine .trans ?_ (formBatch_lawful (offerTime_uploads ?_))
    · exact (setUpload_kept_lawful hu (by rfl)).trans (offerTime_lawful ..)
    · simp [h]
  · exact .refl s

theorem heardBatch_eq_some_iff {s : State} {n : Nat} {b : Batch} :
    heardBatch s n = some b ↔
      s.upload.state = .sending ∧ s.upload.reading = false ∧ s.upload.outstanding = some b ∧ b.number.toNat = n := by
  unfold heardBatch
  constructor
  · intro h
    split at h
    · next c h1 h2 h3 =>
      split at h
      · next hn =>
        cases h
        exact ⟨h1, h2, h3, hn⟩
      · cases h
    · cases h
  · rintro ⟨h1, h2, h3, hn⟩
    simp [h1, h2, h3, hn]

theorem uploads_of_heardBatch {s : State} {n : Nat} {b : Batch} (h : heardBatch s n = some b) : Uploads s :=
  .inr (by rw [(heardBatch_eq_some_iff.mp h).1]; decide)

theorem nakDelivered_lawful (n c : Nat) (s : State) : Lawful s (nakDelivered n c s) := by
  unfold nakDelivered
  split
  · next b hb =>
    split
    · exact failedAttempt_lawful b (uploads_of_heardBatch hb)
    · split
      · exact failUpload_lawful _ (uploads_of_heardBatch hb)
      · exact .refl s
  · exact .refl s

theorem byeDelivered_lawful (s : State) : Lawful s (byeDelivered s) := by
  simp only [byeDelivered]
  split
  · next h =>
    refine .trans ?_ (judgeCandidate_lawful _)
    refine .trans ?_ ((raise_lawful ..).trans (reportUpload_lawful ..))
    exact setUpload_kept_lawful (.inr (by rw [h]; decide)) rfl
  · exact .refl s

/-- A tail that moves over at most the entries present leaves no more of them. -/
theorem present_of_tail_le {h t n : Word} (hn : n.toNat ≤ (h - t).toNat) : (h - (t + n)).toNat ≤ (h - t).toNat := by
  bv_omega

/-- The tail passes an outstanding batch, which is outstanding no more. -/
theorem advanceTail_lawsKept {s : State} {b : Batch} {u : Upload} (hs : s.upload.state = .sending)
    (hb : s.upload.outstanding = some b) (hu : u.outstanding = none) : LawsKept s (advanceTail b.count (s.setUpload u)) := by
  simp only [advanceTail]
  refine .trans ?_ (produce_lawful ..).lawsKept
  refine ⟨rfl, rfl, id, id, id, fun h => ?_⟩
  obtain ⟨hc, hb0⟩ := (journalLaw_iff s).mp h
  have hst : s.path.stage = .none := (show Uploads s from .inr (by rw [hs]; decide)).stage hc
  have hle : b.count ≤ s.present := hc.2.2.1 b hb
  refine (journalLaw_iff _).mpr ⟨⟨?_, hc.2.1, ?_, fun h => absurd hst h⟩, fun h => ?_⟩
  · refine Nat.le_trans (present_of_tail_le ?_) hc.1
    exact Nat.le_trans (Nat.mod_le ..) hle
  · intro c hc'
    simp [hu] at hc'
  · exact absurd (show s.path.stage = .profileReads from h) (by rw [hst]; decide)

theorem acceptAck_lawsKept {s : State} {b : Batch} (hs : s.upload.state = .sending)
    (hb : s.upload.outstanding = some b) : LawsKept s (acceptAck b s) := by
  have next (u : Upload) (hu : u.outstanding = none) (hst : u.state = .sending) :
      LawsKept s (formBatch (reportRoom (judgeLow (advanceTail b.count (s.setUpload u))))) := by
    refine (advanceTail_lawsKept hs hb hu).trans (Lawful.lawsKept ?_)
    exact (judgeLow_lawful _).trans ((reportRoom_lawful _).trans (formBatch_lawful (.inr (by simp [hst]))))
  exact next _ rfl hs

theorem ackDelivered_lawsKept (n : Nat) (s : State) : LawsKept s (ackDelivered n s) := by
  unfold ackDelivered
  split
  · next b hb =>
    obtain ⟨hs, _, ho, _⟩ := heardBatch_eq_some_iff.mp hb
    exact (acceptAck_lawsKept hs ho).trans (reportUpload_lawful ..).lawsKept
  · exact .refl s

/-- A frame of a right check is one of the central's four, or is discarded. -/
theorem deliver_cases (t : Byte) (p : List Byte) (s : State) :
    deliver t p s = s ∨ (∃ d m k v, deliver t p s = welcomeDelivered d m k v s) ∨ (∃ n, deliver t p s = ackDelivered n s) ∨
      (∃ n c, deliver t p s = nakDelivered n c s) ∨ deliver t p s = byeDelivered s := by
  match p with
  | [] => exact (ite_eq_or_eq ..).symm.imp_right fun h => .inr (.inr (.inr h))
  | [_] => exact .inl rfl
  | [_, _] => exact (ite_eq_or_eq ..).symm.imp_right fun h => .inr (.inl ⟨_, h⟩)
  | [_, _, _] => exact (ite_eq_or_eq ..).symm.imp_right fun h => .inr (.inr (.inl ⟨_, _, h⟩))
  | [_, _, _, _] => exact .inl rfl
  | [_, _, _, _, _] => exact .inl rfl
  | [_, _, _, _, _, _] => exact (ite_eq_or_eq ..).symm.imp_right fun h => .inl ⟨_, _, _, _, h⟩
  | _ :: _ :: _ :: _ :: _ :: _ :: _ :: _ => exact .inl rfl

theorem deliver_lawsKept (t : Byte) (p : List Byte) (s : State) : LawsKept s (deliver t p s) := by
  obtain h | ⟨d, m, k, v, h⟩ | ⟨n, h⟩ | ⟨n, c, h⟩ | h := deliver_cases t p s <;> rw [h]
  · exact .refl s
  · exact (welcomeDelivered_lawful ..).lawsKept
  · exact ackDelivered_lawsKept ..
  · exact (nakDelivered_lawful ..).lawsKept
  · exact (byeDelivered_lawful s).lawsKept

/-! ### The receiver -/

theorem setRx_lawful (st : RxState) (bs : List Byte) (s : State) : Lawful s (setRx st bs s) := .of_rfl rfl rfl

theorem headerReceived_lawful (bs : List Byte) (s : State) : Lawful s (headerReceived bs s) := by
  unfold headerReceived
  split
  · exact setRx_lawful ..
  · split <;> exact setRx_lawful ..

theorem frameReceived_lawsKept (bs : List Byte) (s : State) : LawsKept s (frameReceived bs s) := by
  simp only [frameReceived]
  split
  · split
    · exact deliver_lawsKept ..
    · exact .refl s
  · exact .refl s

/-- One byte received changes only the receiver, or makes up a frame that is then delivered or discarded. -/
theorem rxByte_cases (s : State) (b : Byte) :
    (∃ st bs, rxByte s b = setRx st bs s) ∨ rxByte s b = s ∨ ∃ bs, rxByte s b = frameReceived bs (setRx .hunt [] s) := by
  simp only [rxByte]
  split
  · exact .inr (.inl rfl)
  · split
    · exact .inl ⟨_, _, rfl⟩
    · exact .inr (.inl rfl)
  · split
    · unfold headerReceived
      split
      · exact .inl ⟨_, _, rfl⟩
      · split <;> exact .inl ⟨_, _, rfl⟩
    · exact .inl ⟨_, _, rfl⟩
  · split <;> exact .inl ⟨_, _, rfl⟩
  · split
    · exact .inr (.inr ⟨_, rfl⟩)
    · exact .inl ⟨_, _, rfl⟩

theorem rxByte_lawsKept (s : State) (b : Byte) : LawsKept s (rxByte s b) := by
  obtain ⟨st, bs, h⟩ | h | ⟨bs, h⟩ := rxByte_cases s b <;> rw [h]
  · exact (setRx_lawful ..).lawsKept
  · exact .refl s
  · exact (setRx_lawful ..).lawsKept.trans (frameReceived_lawsKept ..)

theorem rxBytesIn_lawsKept (bs : List Byte) (s : State) : LawsKept s (rxBytesIn bs s) := by
  unfold rxBytesIn
  induction bs generalizing s with
  | nil => exact .refl s
  | cons b bs ih => exact (rxByte_lawsKept s b).trans (ih _)

/-! ### The tail of the journal under received bytes (R132) -/

/-- The batch whose acknowledgement the Upload Engine hears. -/
def heard (s : State) : Option Batch :=
  if s.upload.state = .sending ∧ s.upload.reading = false then s.upload.outstanding else none

/-- From `s` to `t` the tail stands and no other batch has come to be heard, or the tail has passed the batch heard in `s` and
none is heard any more. -/
def TailFollows (s t : State) : Prop :=
  (t.journal.tail = s.journal.tail ∧ (heard t = none ∨ heard t = heard s)) ∨
    (heard t = none ∧ ∃ b, heard s = some b ∧ t.journal.tail = s.journal.tail + word b.count)

theorem TailFollows.refl (s : State) : TailFollows s s := .inl ⟨rfl, .inr rfl⟩

theorem TailFollows.trans {s t u : State} (h : TailFollows s t) (k : TailFollows t u) : TailFollows s u := by
  rcases h with ⟨ht, hh⟩ | ⟨hn, b, hb, ht⟩
  · rcases k with ⟨ku, kh⟩ | ⟨kn, c, hc, ku⟩
    · exact .inl ⟨ku.trans ht, by rcases kh with kh | kh <;> rw [kh]; exacts [.inl rfl, hh]⟩
    · refine .inr ⟨kn, c, ?_, by rw [ku, ht]⟩
      rcases hh with hh | hh
      · rw [hh] at hc
        cases hc
      · rwa [hh] at hc
  · rcases k with ⟨ku, kh⟩ | ⟨kn, c, hc, _⟩
    · refine .inr ⟨?_, b, hb, ku.trans ht⟩
      rcases kh with kh | kh
      · exact kh
      · rw [kh, hn]
    · rw [hn] at hc
      cases hc

theorem heard_of_not_sending {s : State} (h : s.upload.state ≠ .sending) : heard s = none := if_neg fun hs => h hs.1

theorem heard_of_reading {s : State} (h : s.upload.reading = true) : heard s = none := if_neg fun hs => by simp [h] at hs

theorem heard_congr {s t : State} (h : t.upload.state = s.upload.state) (hr : t.upload.reading = s.upload.reading)
    (ho : t.upload.outstanding = s.upload.outstanding) : heard t = heard s := by simp only [heard, h, hr, ho]

@[simp] theorem heard_reportUpload (b s : State) : heard (reportUpload b s) = heard s := by simp [heard]

/-- WAIT_LINE and HELLO_SENT hear no batch. -/
theorem heard_enterWaitLine (before s : State) : heard (enterWaitLine before s) = none := by
  refine heard_of_not_sending ?_
  simp only [enterWaitLine]
  split <;> simp [sendHello]

theorem heard_formBatch (s : State) : heard (formBatch s) = none := by
  simp only [formBatch]
  split
  · exact heard_of_not_sending (by simp [sendDone])
  · exact heard_of_reading rfl

theorem heard_failUpload (c : FailCause) (s : State) : heard (failUpload c s) = none :=
  heard_of_not_sending (by simp [failUpload, Upload.failed])

theorem heard_longRetry (s : State) : heard (longRetry s) = none := by
  simp only [longRetry]
  split
  · exact heard_enterWaitLine ..
  · exact heard_failUpload ..

theorem heard_failedAttempt (b : Batch) (s : State) : heard (failedAttempt b s) = none ∨ heard (failedAttempt b s) = heard s := by
  simp only [failedAttempt]
  split
  · exact .inr (by simp only [heard_reportUpload]; exact heard_congr rfl rfl rfl)
  · exact .inl (heard_longRetry _)

theorem tailFollows_of_lawful {s t : State} (h : Lawful s t) (hh : heard t = none ∨ heard t = heard s) : TailFollows s t :=
  .inl ⟨h.tail, hh⟩

theorem ackDelivered_tail (n : Nat) (s : State) : TailFollows s (ackDelivered n s) := by
  unfold ackDelivered
  split
  · next b hb =>
    obtain ⟨hs, hr, ho, _⟩ := heardBatch_eq_some_iff.mp hb
    refine .inr ⟨?_, b, by simp [heard, hs, hr, ho], ?_⟩
    · rw [heard_reportUpload]
      exact heard_formBatch _
    · have hu : Uploads (reportRoom (judgeLow (advanceTail b.count (s.setUpload { s.upload with
          ackTimer := false, entriesSent := s.upload.entriesSent + word b.count, outstanding := none
          batchSize := min (s.upload.batchSize + 1) s.upload.params.batchMax })))) := .inr (by simp [hs])
      have h1 := ((reportUpload_lawful s _).tail.trans (formBatch_lawful hu).tail)
      refine h1.trans ?_
      rw [(reportRoom_lawful _).tail, (judgeLow_lawful _).tail]
      simp [advanceTail]
  · exact .refl s

theorem heard_welcomeDelivered (d m k v : Nat) (s : State) :
    heard (welcomeDelivered d m k v s) = none ∨ heard (welcomeDelivered d m k v s) = heard s := by
  simp only [welcomeDelivered]
  split
  · exact .inl (by rw [heard_reportUpload]; exact heard_formBatch _)
  · exact .inr rfl

theorem heard_nakDelivered (n c : Nat) (s : State) :
    heard (nakDelivered n c s) = none ∨ heard (nakDelivered n c s) = heard s := by
  unfold nakDelivered
  split
  · split
    · exact heard_failedAttempt ..
    · split
      · exact .inl (heard_failUpload ..)
      · exact .inr rfl
  · exact .inr rfl

theorem heard_byeDelivered (s : State) : heard (byeDelivered s) = none ∨ heard (byeDelivered s) = heard s := by
  simp only [byeDelivered]
  split
  · exact .inl (heard_of_not_sending (by simp))
  · exact .inr rfl

theorem deliver_tail (t : Byte) (p : List Byte) (s : State) : TailFollows s (deliver t p s) := by
  obtain h | ⟨d, m, k, v, h⟩ | ⟨n, h⟩ | ⟨n, c, h⟩ | h := deliver_cases t p s <;> rw [h]
  · exact .refl s
  · exact tailFollows_of_lawful (welcomeDelivered_lawful ..) (heard_welcomeDelivered ..)
  · exact ackDelivered_tail ..
  · exact tailFollows_of_lawful (nakDelivered_lawful ..) (heard_nakDelivered ..)
  · exact tailFollows_of_lawful (byeDelivered_lawful s) (heard_byeDelivered s)

theorem setRx_tail (st : RxState) (bs : List Byte) (s : State) : TailFollows s (setRx st bs s) :=
  tailFollows_of_lawful (setRx_lawful ..) (.inr rfl)

theorem frameReceived_tail (bs : List Byte) (s : State) : TailFollows s (frameReceived bs s) := by
  simp only [frameReceived]
  split
  · split
    · exact deliver_tail ..
    · exact .refl s
  · exact .refl s

theorem rxBytesIn_tail (bs : List Byte) (s : State) : TailFollows s (rxBytesIn bs s) := by
  unfold rxBytesIn
  induction bs generalizing s with
  | nil => exact .refl s
  | cons b bs ih =>
    refine .trans ?_ (ih _)
    obtain ⟨st, cs, h⟩ | h | ⟨cs, h⟩ := rxByte_cases s b <;> rw [h]
    · exact setRx_tail ..
    · exact .refl s
    · exact (setRx_tail ..).trans (frameReceived_tail ..)

/-- Received bytes move the tail only over the batch that is heard (R132). -/
theorem tailLaw_of_tailFollows {c : Instr} {s t : State} (hc : Delivers c) (h : TailFollows s t) : TailLaw c s t := by
  rcases h with ⟨ht, _⟩ | ⟨_, b, hb, ht⟩
  · exact .inl ht
  · unfold heard at hb
    split at hb
    · next hs => exact .inr (.inr ⟨hc, hs.1, hs.2, b, hb, ht⟩)
    · cases hb

end Sys2Proof.Machine

/-! PROOFS. The treatment of upstream accesses keeps the laws (Chapter 9). -/

namespace Sys2Proof.Machine

/-! ### Requests and payments -/

theorem crqFull_eq_false_iff {s : State} : crqFull s = false ↔ s.engine.crq.length < 16 := by
  simp [crqFull, Config.crqDepth]

theorem refuseWrite_lawful (a : Access) (s : State) : Lawful s (refuseWrite a s) :=
  (completeWrite_lawful s).trans (badRequest_lawful ..)

theorem takeRequest_lawful {a : Access} {i k : Nat} {st : LoanState} {s : State} (h : s.engine.crq.length < 16) :
    Lawful s (takeRequest a i k st s) := by
  simp only [takeRequest]
  refine .trans ?_ (rewrite_lawful ..)
  exact (claim_lawful ..).trans ((recordState_lawful ..).trans (joinCrq_lawful h))

theorem judgeRequest_lawful (a : Access) (i : Nat) (st : LoanState) (s : State) : Lawful s (judgeRequest a i st s) := by
  unfold judgeRequest
  split
  · exact refuseWrite_lawful ..
  · split
    · exact refuseWrite_lawful ..
    · exact (recordState_lawful ..).trans (forward_lawful ..)
    · split
      · exact hold_lawful ..
      · next h => exact takeRequest_lawful (crqFull_eq_false_iff.mp (by simpa using h))

theorem requestWrite_lawful (a : Access) (i : Nat) (s : State) : Lawful s (requestWrite a i s) := by
  unfold requestWrite
  split
  · exact hold_lawful ..
  · exact judgeRequest_lawful ..

theorem paymentWrite_lawful (a : Access) (b : Nat) (s : State) : Lawful s (paymentWrite a b s) := by
  unfold paymentWrite
  split
  · exact refuseWrite_lawful ..
  · split
    · exact forward_lawful ..
    · split
      · exact hold_lawful ..
      · next h =>
        have hl : s.engine.crq.length < 16 := crqFull_eq_false_iff.mp (by simpa using h)
        refine .trans ?_ (rewrite_lawful ..)
        exact (claim_lawful ..).trans (joinCrq_lawful hl)

/-! ### The words of the other owners -/

/-- A Wand Front End that keeps the law of the ring keeps the laws. -/
theorem setWand_lawful {s : State} {w : Wand} (h : ScanRingLaw s → ScanRingLaw (s.setWand w)) : Lawful s (s.setWand w) :=
  ⟨⟨rfl, rfl, id, id⟩, h, id, fun _ => id, rfl⟩

/-- The copy of STATUS w1 set to the producer leaves no record unread. -/
theorem scanRingLaw_setConsumer_producer (s : State) : ScanRingLaw (setConsumer (word s.wand.producer.toNat) s) := by
  simp [ScanRingLaw, setConsumer, Wand.consumer, word]

theorem consumerWrite_lawful (a : Access) (s : State) : Lawful s (consumerWrite a s) := by
  simp only [consumerWrite]
  split
  · next h =>
    refine .trans (setWand_lawful fun _ => ?_) (forward_lawful ..)
    simpa [ScanRingLaw, Wand.consumer, Config.ringSize] using h
  · exact (setWand_lawful fun _ => scanRingLaw_setConsumer_producer s).trans (rewrite_lawful ..)

theorem setPatronCopy_lawful (w : Word) (s : State) : Lawful s (setPatronCopy w s) := .of_rfl rfl rfl

theorem snoopDay_lawful (a : Access) (s : State) : Lawful s (snoopDay a s) := .of_rfl rfl rfl

theorem snoopTime_lawful (a : Access) (s : State) : Lawful s (snoopTime a s) := .of_rfl rfl rfl

theorem snoopCalendar_lawful (a : Access) (n : Nat) (s : State) : Lawful s (snoopCalendar a n s) := by
  unfold snoopCalendar
  split
  · exact .of_rfl rfl rfl
  · exact .refl s

theorem mergeShadow_lawful (a : Access) (n : Nat) (s : State) : Lawful s (mergeShadow a n s) := .of_rfl rfl rfl

theorem profileSnoop_lawful (a : Access) (s : State) : Lawful s (profileSnoop a s) := by
  simp only [profileSnoop]
  split
  · split
    · exact (mergeShadow_lawful ..).trans (requestAdoption_lawful _)
    · exact mergeShadow_lawful ..
  · exact .refl s

theorem runCommand_lawful {a : Addr} {n : Nat} {s : State} (h : s.path.state ≠ .starting) : Lawful s (runCommand a n s) := by
  unfold runCommand
  split
  · unfold uploadNowCommand
    split
    · exact startUpload_lawful h
    · exact badRequest_lawful ..
  · exact reprintCommand_lawful ..
  · exact silenceSounder_lawful s
  · exact clearStamps_lawful s
  · exact setClockCommand_lawful ..
  · exact badRequest_lawful ..

theorem commandWrite_lawful {a : Access} {s : State} (h : s.path.state ≠ .starting) : Lawful s (commandWrite a s) := by
  unfold commandWrite
  split
  · exact refuseWrite_lawful ..
  · split
    · exact forward_lawful ..
    · exact (rewrite_lawful ..).trans (runCommand_lawful h)

/-! ### Treatment -/

theorem statusWrite_lawful {patron : Access → State → State} {a : Access} {n : Nat} {s : State}
    (hp : Lawful s (patron a s)) (h : s.path.state ≠ .starting) : Lawful s (statusWrite patron a n s) := by
  unfold statusWrite
  split
  · exact hp
  · exact consumerWrite_lawful ..
  · exact commandWrite_lawful h
  · exact (snoopDay_lawful ..).trans (forward_lawful ..)
  · exact (snoopTime_lawful ..).trans (forward_lawful ..)
  · exact completeWrite_lawful s

theorem windowWrite_lawful {patron : Access → State → State} {a : Access} {k : WindowKind} {n : Nat} {s : State}
    (h : k = .status → Lawful s (patron a s) ∧ s.path.state ≠ .starting) : Lawful s (windowWrite patron a k n s) := by
  cases k with
  | borrower =>
    simp only [windowWrite]
    split
    · exact paymentWrite_lawful ..
    · exact forward_lawful ..
  | loan =>
    simp only [windowWrite]
    split
    · exact requestWrite_lawful ..
    · exact forward_lawful ..
  | scan => exact completeWrite_lawful s
  | journal => exact completeWrite_lawful s
  | status => exact statusWrite_lawful (h rfl).1 (h rfl).2
  | calendar => exact (snoopCalendar_lawful ..).trans (forward_lawful ..)

/-- A write is treated lawfully when its treatment as a current-patron word is lawful, which counts only in a part that is
past its start. -/
theorem treatWrite_lawful {patron : Access → State → State} {a : Access} {s : State}
    (h : (∃ n, regionOf s.active a.addr = .window .status n) → Lawful s (patron a s) ∧ s.path.state ≠ .starting) :
    Lawful s (treatWrite patron a s) := by
  unfold treatWrite
  split
  · exact (completeWrite_lawful s).trans (profileSnoop_lawful ..)
  · exact hold_lawful ..
  · unfold freeWrite
    split
    · exact (forward_lawful ..).trans (profileSnoop_lawful ..)
    · next k n hr => exact windowWrite_lawful fun hk => h ⟨n, by rw [hr, hk]⟩
    · exact forward_lawful ..

theorem refusePatron_lawful (a : Access) (s : State) : Lawful s (refusePatron a s) := by
  simp only [refusePatron]
  refine .trans ?_ ((writePatronStatus_lawful ..).trans (badRequest_lawful ..))
  exact (setPatronCopy_lawful ..).trans ((rewrite_lawful ..).trans (closeVisit_lawful ..))

theorem openOrRefuse_lawful {m : Word} {a : Access} {s : State} (h : s.engine.crq.length < 16) :
    Lawful s (openOrRefuse m a s) := by
  unfold openOrRefuse
  split
  · refine (setPatronCopy_lawful ..).trans ((forward_lawful ..).trans (openVisit_lawful ?_))
    exact h
  · exact refusePatron_lawful ..

theorem patronWrite_lawful {a : Access} {s : State} (h : s.path.state ≠ .starting) : Lawful s (patronWrite a s) := by
  simp only [patronWrite]
  split
  · split
    · exact hold_lawful ..
    · next hf =>
      have hl : s.engine.crq.length < 16 := crqFull_eq_false_iff.mp (by simpa using hf)
      split
      · refine (setPatronCopy_lawful ..).trans ((forward_lawful ..).trans (refreshVisit_lawful ?_))
        exact hl
      · refine .trans (.trans (setPatronCopy_lawful ..) (closeVisit_lawful ..)) (treatWrite_lawful fun _ => ⟨?_, ?_⟩)
        · exact openOrRefuse_lawful (by simpa [setPatronCopy] using hl)
        · simpa [setPatronCopy] using h
  · split
    · exact (setPatronCopy_lawful ..).trans ((forward_lawful ..).trans (closeVisit_lawful ..))
    · exact refusePatron_lawful ..

theorem treatRead_lawful (a : Access) (s : State) : Lawful s (treatRead a s) := by
  unfold treatRead
  split
  · exact (setEvents_lawful ..).trans (completeRead_lawful ..)
  · exact (setEvents_lawful ..).trans (completeRead_lawful ..)
  · unfold passRead
    split
    · exact completeRead_lawful ..
    · exact forward_lawful ..

theorem judge_lawful {a : Access} {s : State}
    (h : (∃ n, regionOf s.active a.addr = .window .status n) → s.path.state ≠ .starting) : Lawful s (judge a s) := by
  unfold judge
  split
  · exact hold_lawful ..
  · split
    · exact hold_lawful ..
    · split
      · exact treatWrite_lawful fun hr => ⟨patronWrite_lawful (h hr), h hr⟩
      · exact treatRead_lawful ..

/-- The judgement of an access by a part that is running. -/
theorem judge_lawful_of_running {a : Access} {s : State} (h : s.path.state = .running) : Lawful s (judge a s) :=
  judge_lawful fun _ => by rw [h]; decide

/-- A word of the LOAN window is never decoded as a STATUS word: its window comes first (R157). -/
theorem not_status_of_loanWin_hits {p : Profile} {a : Addr} (h : p.loanWin.hits a = true) :
    ¬ ∃ n, regionOf p a = .window .status n := by
  rintro ⟨n, hr⟩
  have hh (k : WindowKind) (hk : noBorrowerWord p a = true) : p.hits k a = false := by simp [Profile.hits, hk]
  unfold regionOf at hr
  split at hr
  · cases hr
  · cases hb : noBorrowerWord p a with
    | true => simp [WindowKind.order, hh _ hb] at hr
    | false =>
      have hl : p.hits .loan a = true := by simp [Profile.hits, Profile.window, h, hb]
      cases hbw : p.hits .borrower a <;> simp [WindowKind.order, hl, hbw] at hr

/-! ### The steps of the Store Path -/

/-- What a command that has an effect as an event answers: the act on the state, or the state as it is. -/
theorem actIf_cases {c : Bool} {f : State → State} {s t : State} (h : actIf c f s = .next t) :
    (c = true ∧ t = endAct (f s)) ∨ (c = false ∧ t = s) := by
  unfold actIf at h
  cases c
  · exact .inr ⟨rfl, by cases h; rfl⟩
  · exact .inl ⟨rfl, by cases h; rfl⟩

end Sys2Proof.Machine

/-! PROOFS. The clock, the wand, the printer line, the stops and the starts keep the laws (Chapters 3, 6, 7, 10). -/

namespace Sys2Proof.Machine

/-! ### The desk clock (R43, R44) -/

/-- A Calendar Unit whose clock keeps its law keeps the laws. -/
theorem setCalendar_lawful {s : State} {c : Calendar} (h : ClockLaw s → ClockLaw (s.setCalendar c)) :
    Lawful s (s.setCalendar c) := ⟨⟨rfl, rfl, h, id⟩, id, id, fun _ => id, rfl⟩

/-- A clock that does not stand at the last second of the calendar stays within it. -/
theorem clockLaw_advanced {s : State} (h : s.calendar.atHold = false) (hc : ClockLaw s) :
    ClockLaw (s.setCalendar s.calendar.advanced) := by
  obtain ⟨hd, hm, hs⟩ := hc
  simp only [Calendar.atHold, Config.lastDay, Config.lastMinute, Bool.and_eq_false_iff, decide_eq_false_iff_not] at h
  have hall : s.calendar.advanced.day ≤ 36524 ∧ s.calendar.advanced.minute ≤ 1439 ∧ s.calendar.advanced.second ≤ 59 := by
    unfold Calendar.advanced
    split
    · exact ⟨hd, hm, by show s.calendar.second + 1 ≤ 59; omega⟩
    · split
      · exact ⟨hd, by show s.calendar.minute + 1 ≤ 1439; omega, Nat.zero_le _⟩
      · exact ⟨by show s.calendar.day + 1 ≤ 36524; omega, Nat.zero_le _, Nat.zero_le _⟩
  exact hall

theorem evaluateAlarm_lawful (s : State) : Lawful s (evaluateAlarm s) := by
  unfold evaluateAlarm
  split
  · next h =>
    have hr : s.path.state = .running := by
      simp only [State.running, Bool.and_eq_true, decide_eq_true_eq] at h
      exact h.1.1.1.1
    unfold alarmFires
    split
    · exact startUpload_lawful (by rw [hr]; decide)
    · exact raise_lawful ..
  · exact .refl s

theorem rollover_lawful (d : Nat) (s : State) : Lawful s (rollover d s) := by
  unfold rollover
  split
  · exact sendNotice_lawful ..
  · exact .refl s

theorem clockAdvance_lawful (s : State) : Lawful s (clockAdvance s) := by
  have h0 : Lawful s (s.setCalendar { s.calendar with prescaler := 0 }) := setCalendar_lawful id
  simp only [clockAdvance]
  split
  · exact h0.trans (writeClockMirror_lawful _)
  · next h =>
    refine h0.trans (.trans ?_ ((writeClockMirror_lawful _).trans ((rollover_lawful ..).trans (evaluateAlarm_lawful _))))
    exact setCalendar_lawful (s := s.setCalendar { s.calendar with prescaler := 0 }) (clockLaw_advanced (by simpa using h))

/-! ### The wand -/

/-- A change of the Wand Front End that leaves the counts of the ring keeps the laws. -/
theorem onWand_lawful {f : Wand → Wand} {s : State} (hp : (f s.wand).producer = s.wand.producer)
    (hc : (f s.wand).consumerCopy = s.wand.consumerCopy) : Lawful s (onWand f s) :=
  setWand_lawful fun h => by simpa [ScanRingLaw, Wand.consumer, hp, hc] using h

theorem scanBad_lawful (n : Nat) (s : State) : Lawful s (scanBad n s) := (raise_lawful ..).trans (requestTone_lawful ..)

theorem endPass_lawful (s : State) : Lawful s (endPass s) := by
  unfold endPass
  split
  · exact (onWand_lawful rfl rfl).trans (scanBad_lawful ..)
  · split
    · exact onWand_lawful rfl rfl
    · exact (onWand_lawful rfl rfl).trans (scanBad_lawful ..)

theorem quietReached_lawful (s : State) : Lawful s (quietReached s) := by
  unfold quietReached
  split
  · exact onWand_lawful rfl rfl
  · exact .refl s
  · exact endPass_lawful s

theorem barOver_lawful (s : State) : Lawful s (barOver s) := (onWand_lawful rfl rfl).trans (scanBad_lawful ..)

theorem passTime_lawful (n : Nat) (s : State) : Lawful s (passTime n s) := by
  have tick (k : Nat) (t : State) : Lawful t (onWand (fun w => w.tick k) t) := onWand_lawful rfl rfl
  unfold passTime
  split
  · split
    · exact (tick ..).trans ((quietReached_lawful _).trans (tick ..))
    · exact tick ..
  · split
    · exact (tick ..).trans ((barOver_lawful _).trans (tick ..))
    · exact tick ..
  · exact tick ..

/-- The end of an element leaves the counts of the ring. -/
theorem edge_counts (w : Wand) (p : Profile) (b : Bool) :
    (w.edge p b).producer = w.producer ∧ (w.edge p b).consumerCopy = w.consumerCopy := by
  have he : w.element.producer = w.producer ∧ w.element.consumerCopy = w.consumerCopy := by
    unfold Wand.element
    split
    · split
      · exact ⟨rfl, rfl⟩
      · unfold Wand.absorb
        split <;> exact ⟨rfl, rfl⟩
    · exact ⟨rfl, rfl⟩
  have ho : (w.outside p b).producer = w.producer ∧ (w.outside p b).consumerCopy = w.consumerCopy := by
    unfold Wand.outside
    split <;> exact ⟨rfl, rfl⟩
  unfold Wand.edge
  split
  · exact he
  · exact ho

theorem flipLevel_lawful (s : State) : Lawful s (flipLevel s) := .of_rfl rfl rfl

theorem wandEdge_lawful (n : Nat) (s : State) : Lawful s (wandEdge n s) := by
  simp only [wandEdge]
  refine .trans ?_ (flipLevel_lawful _)
  exact (passTime_lawful ..).trans (onWand_lawful (edge_counts ..).1 (edge_counts ..).2)

theorem reportIf_lawful (c : Prop) [Decidable c] (s : State) : Lawful s (if c then s else reportWandCounts s) := by
  split
  · exact .refl s
  · exact reportWandCounts_lawful s

theorem acceptScan_lawful (c : ScanContent) (s : State) : Lawful s (acceptScan c s) :=
  (onWand_lawful rfl rfl).trans ((requestTone_lawful ..).trans (reloadTimer_lawful _))

theorem dropRepeat_lawful (s : State) : Lawful s (dropRepeat s) :=
  (onWand_lawful rfl rfl).trans (reportIf_lawful ..)

theorem decodeOutcome_lawful (s : State) : Lawful s (decodeOutcome s) := by
  unfold decodeOutcome
  split
  · exact (onWand_lawful rfl rfl).trans (scanBad_lawful ..)
  · split
    · exact dropRepeat_lawful s
    · unfold offerScan
      split
      · exact (onWand_lawful rfl rfl).trans (beginWait_lawful ..)
      · exact acceptScan_lawful ..

theorem overrun_lawful (s : State) : Lawful s (overrun s) :=
  (onWand_lawful rfl rfl).trans ((reportIf_lawful ..).trans ((raise_lawful ..).trans (requestTone_lawful ..)))

theorem length_scanEntries (s : State) (c : ScanContent) : (scanEntries s c).length = 4 := by simp [scanEntries, scanWords]

theorem writeScan_lawful {c : ScanContent} {s : State} (hu : s.wand.unread < 32)
    (hr : s.path.pwq.length + scanRoom s ≤ 24) : Lawful s (writeScan c s) := by
  simp only [writeScan]
  refine .trans ?_ ((raise_lawful ..).trans (acceptScan_lawful ..))
  refine .trans (.trans (enqueue_lawful fun _ => ?_) (follow_lawful ..)) (setWand_lawful fun _ => ?_)
  · simp only [List.length_append, length_scanEntries, length_mirrorWrite]
    unfold scanRoom at hr
    split at hr <;> simp_all
  · have hu' : (s.wand.producer - s.wand.consumer).toNat < 32 := hu
    show (s.wand.producer + 1#16 - s.wand.consumer).toNat ≤ 32
    bv_omega

theorem scanAct_lawful {c : ScanContent} {s : State} (h : scanReady s = some c) : Lawful s (scanAct c s) := by
  have hroom : s.active.scanWin.enable = true → s.path.pwq.length + scanRoom s ≤ 24 := by
    intro he
    have hp : 0 < scanRoom s := by unfold scanRoom; split <;> decide
    unfold scanReady at h
    split at h
    · split at h
      · next hc =>
        simp only [he, Bool.not_true, Bool.false_or, Bool.and_eq_true, decide_eq_true_eq] at hc
        exact length_add_le_of_pos_le_pwqFree hc.2 hp
      · cases h
    · cases h
  simp only [scanAct]
  split
  · exact (leaveWait_lawful ..).trans (acceptScan_lawful ..)
  · next he =>
    split
    · next hu => exact (leaveWait_lawful ..).trans (writeScan_lawful hu (hroom (by simpa using he)))
    · exact (leaveWait_lawful ..).trans (overrun_lawful _)

/-! ### Slips and the printer line -/

theorem setPins_lawful (p : Pins) (s : State) : Lawful s (s.setPins p) := .of_rfl rfl rfl

theorem byteSent_lawful (b : Bool) (s : State) : Lawful s (byteSent b s) := by
  simp only [byteSent]
  split <;> exact (setPins_lawful ..).trans (setVisit_lawful id id)

theorem busyReleased_lawful (s : State) : Lawful s (busyReleased s) := by
  simp only [busyReleased]
  split
  · exact (setPins_lawful ..).trans (setVisit_lawful id id)
  · exact setPins_lawful ..

theorem paperLine_lawful (b : Bool) (s : State) : Lawful s (paperLine b s) := by
  simp only [paperLine]
  split
  · refine .trans ?_ ((raise_lawful ..).trans (reportVisit_lawful ..))
    exact (setPins_lawful ..).trans (setVisit_lawful id id)
  · exact setPins_lawful ..

theorem restartSlip_lawful (s : State) : Lawful s (restartSlip s) := by
  unfold restartSlip
  refine .trans ?_ (reportVisit_lawful ..)
  exact setVisit_lawful id id

/-! ### Stops -/

/-- A stop keeps the decided operation or abandons the one in flight (R25). -/
theorem stopped_op (e : Engine) : e.stopped.op = e.op ∨ e.stopped.op = none := by
  unfold Engine.stopped
  split
  · exact .inl rfl
  · exact .inr rfl

theorem stopped_crq (e : Engine) : e.stopped.crq = [] := by
  unfold Engine.stopped
  split <;> rfl

theorem beginStop_lawful (s : State) : Lawful s (beginStop s) := by
  refine .trans ?_ (settleVisit_lawful _)
  constructor
  · refine ⟨rfl, rfl, id, fun ⟨hp, _, _, hq, hl, ho⟩ => ⟨hp, by simp [stopped_crq], Nat.zero_le _, hq, hl, ?_⟩⟩
    intro op p hop hd
    rcases stopped_op s.engine with he | he
    · exact ho op p (he ▸ hop) hd
    · rw [he] at hop
      cases hop
  · exact id
  · exact fun ⟨hp, hc, _, _⟩ => ⟨hp, hc, fun _ hb => (by cases hb), fun hs => absurd rfl hs⟩
  · exact fun _ _ hs => by cases hs
  · rfl

theorem lineAsserted_lawful (s : State) : Lawful s (lineAsserted s) := by
  unfold lineAsserted
  split
  · exact beginStop_lawful s
  · exact beginStop_lawful s
  · exact .of_rfl rfl rfl

theorem park_lawful {s : State} (h : settled s = true) : Lawful s (park s) := by
  have hst : s.path.state = .stopping := by
    simp only [settled, Bool.and_eq_true, decide_eq_true_eq] at h
    exact h.1.1.1.1.1.1
  refine ⟨⟨rfl, rfl, id, id⟩, id, fun ⟨hp, hc, ho, hs⟩ => ⟨hp, hc, ho, fun hn => ?_⟩, fun _ => id, rfl⟩
  have := (hs hn).1
  rw [hst] at this
  cases this

/-! ### Starts -/

/-- At the beginning of a start every law but the clock's holds, and the clock keeps its own. -/
theorem beginStart_lawsKept (k : StartKind) (s : State) : LawsKept s (beginStart k s) where
  store := rfl
  pending := rfl
  clock := id
  queue := fun _ => ⟨Nat.zero_le _, Nat.zero_le _, Nat.zero_le _, Nat.zero_le _, fun _ h => (by cases h), fun _ _ h => (by cases h)⟩
  ring := fun _ => by simp [ScanRingLaw, beginStart, Wand.fresh, Wand.consumer]
  journal := fun _ => ⟨by simp [State.present, beginStart, Journal.fresh], (show defaultProfile.capacity ≤ 16384 by decide), fun _ h => (by cases h),
    fun _ => ⟨rfl, rfl, rfl⟩, fun _ => ⟨rfl, rfl⟩⟩

theorem lineReleased_lawsKept (s : State) : LawsKept s (lineReleased s) := by
  unfold lineReleased
  split
  · exact beginStart_lawsKept ..
  · exact .refl s

theorem readLossRecord_clock {s : State} (h : ClockLaw s) : ClockLaw (s.setCalendar (readLossRecord s.calendar)) := by
  unfold readLossRecord
  split
  · exact ⟨Nat.zero_le _, Nat.zero_le _, Nat.zero_le _⟩
  · exact h

theorem powerArrives_lawsKept (s : State) : LawsKept s (powerArrives s) := by
  have h1 : LawsKept s (beginStart .powerOn
      ((s.setPins { s.pins with mainPower := true }).setCalendar (readLossRecord s.calendar))) := by
    refine .trans (Lawful.lawsKept ?_) (beginStart_lawsKept ..)
    exact (setPins_lawful ..).trans (setCalendar_lawful (s := s.setPins _) readLossRecord_clock)
  simp only [powerArrives]
  split
  · exact h1
  · refine h1.trans ⟨rfl, rfl, id, id, id, fun ⟨hp, hc, ho, hs, _⟩ => ⟨hp, hc, ho, fun _ => hs ?_, fun h => ?_⟩⟩
    · exact fun h => by cases h
    · cases h

theorem powerFails_lawsKept (s : State) : LawsKept s (powerFails s) := by
  have h1 : LawsKept s (beginStart .powerOn (s.setPins { s.pins with mainPower := false })) :=
    (setPins_lawful ..).lawsKept.trans (beginStart_lawsKept ..)
  refine h1.trans ⟨rfl, rfl, id, id, id, fun ⟨hp, hc, ho, _, _⟩ => ⟨hp, hc, ho, fun h => ?_, fun h => ?_⟩⟩
  · exact absurd rfl h
  · cases h

/-! ### Completing a start -/

theorem releaseHeld_lawful {s : State} (h : s.path.state = .running) : Lawful s (releaseHeld s) := by
  unfold releaseHeld
  split
  · exact judge_lawful_of_running h
  · exact .refl s

theorem enterRunning_lawful (s : State) : Lawful s (enterRunning s) :=
  ⟨⟨rfl, rfl, id, id⟩, id, fun ⟨hp, hc, ho, _⟩ => ⟨hp, hc, ho, fun h => absurd rfl h⟩, fun _ _ h => (by cases h), rfl⟩

/-- A start that completes keeps the laws; and since the part is running from then on, nothing remains to be said of a journal
without a profile. -/
theorem startComplete_lawful (s : State) :
    Lawful s (startComplete s) ∧ (JournalCore s → JournalLaw (startComplete s)) := by
  have hc (t : State) : Lawful t (raiseClockInvalid t) := by
    unfold raiseClockInvalid
    split
    · exact .refl t
    · exact raise_lawful ..
  have hw : Lawful s (writeStartWords s) := by
    simp only [writeStartWords]
    exact (produce_lawful ..).trans (produce_lawful ..)
  have h1 := hw.trans ((systemEntry_lawful (startEntry (writeStartWords s)) _).trans ((raise_lawful .startUp 0 _).trans (hc _)))
  have h2 (t : State) : Lawful (enterRunning t)
      (if (releaseHeld (enterRunning t)).service then recoveryPass (releaseHeld (enterRunning t))
        else releaseHeld (enterRunning t)) := by
    refine .trans (releaseHeld_lawful rfl) ?_
    split
    · exact recoveryPass_lawful _
    · exact .refl _
  have h3 := h1.trans (enterRunning_lawful _)
  have h4 := h3.trans (h2 _)
  refine ⟨h4, fun hc => (journalLaw_iff _).mpr ⟨h4.core hc, ?_⟩⟩
  exact (h2 _).blank (h3.core hc) fun h => by cases h

theorem startLoad_lawsKept (s : State) :
    Tame s (startLoad s) ∧ (ScanRingLaw s → ScanRingLaw (startLoad s)) ∧
      (JournalCore s → s.path.state = .starting → s.upload.state = .idle → s.upload.outstanding = none →
        JournalLaw (startLoad s)) := by
  unfold startLoad
  split
  · exact ⟨⟨rfl, rfl, id, id⟩, id, fun ⟨hp, hc, ho, _⟩ h1 h2 h3 => ⟨hp, hc, ho, fun _ => ⟨h1, h2, h3⟩, fun h => by cases h⟩⟩
  · obtain ⟨h1, h2⟩ := startComplete_lawful s
    exact ⟨h1.toTame, h1.ring, fun hc _ _ _ => h2 hc⟩

/-! ### Restoring -/

/-- A start is restoring what the part had: nothing is uploaded, and the capacity is in range. -/
def Restoring (s : State) : Prop :=
  s.path.state = .starting ∧ s.upload.state = .idle ∧ s.upload.outstanding = none ∧ s.active.capacity ≤ 16384

theorem Restoring.core {s : State} (h : Restoring s) (hp : s.present ≤ s.active.capacity) : JournalCore s :=
  ⟨hp, h.2.2.2, fun _ hb => (by rw [h.2.2.1] at hb; cases hb), fun _ => ⟨h.1, h.2.1, h.2.2.1⟩⟩

theorem restoreCounts_tame (r : Restored) (s : State) : Tame s (restoreCounts r s) := ⟨rfl, rfl, id, id⟩

@[simp] theorem restoreCounts_keeps (r : Restored) (s : State) :
    (restoreCounts r s).path = s.path ∧ (restoreCounts r s).upload = s.upload ∧ (restoreCounts r s).profile = s.profile :=
  ⟨rfl, rfl, rfl⟩

theorem repairTail_tame (s : State) : Tame s (repairTail s) := by
  simp only [repairTail]
  split
  · refine .trans ?_ (raise_lawful ..).toTame
    exact ⟨rfl, rfl, id, id⟩
  · exact .refl s

@[simp] theorem repairTail_keeps (s : State) :
    (repairTail s).path.state = s.path.state ∧ (repairTail s).path.stage = s.path.stage ∧ (repairTail s).upload = s.upload ∧
      (repairTail s).profile = s.profile ∧ (repairTail s).wand = s.wand := by
  simp only [repairTail]
  split <;> simp

/-- A tail repaired lies within the capacity of the head (R180). -/
theorem repairTail_present (s : State) : (repairTail s).present ≤ (repairTail s).active.capacity := by
  simp only [repairTail]
  split
  · simp [State.present, countLoss]
  · omega

theorem repairConsumer_tame (s : State) : Tame s (repairConsumer s) := by
  unfold repairConsumer
  split
  · exact ⟨rfl, rfl, id, id⟩
  · exact .refl s

@[simp] theorem repairConsumer_keeps (s : State) :
    (repairConsumer s).path.state = s.path.state ∧ (repairConsumer s).path.stage = s.path.stage ∧
      (repairConsumer s).upload = s.upload ∧ (repairConsumer s).profile = s.profile ∧
      (repairConsumer s).journal = s.journal := by
  unfold repairConsumer
  split <;> simp [setConsumer]

/-- A consumer repaired lies within the ring (R180). -/
theorem scanRingLaw_repairConsumer (s : State) : ScanRingLaw (repairConsumer s) := by
  unfold repairConsumer
  split
  · exact scanRingLaw_setConsumer_producer s
  · next h => exact Nat.not_lt.mp h

/-- A restoring leaves the counts within their laws, whatever the mirrors held. -/
theorem restore_lawsKept (r : Restored) (s : State) :
    Tame s (restore r s) ∧ ScanRingLaw (restore r s) ∧ (Restoring s → JournalLaw (restore r s)) := by
  have h1 : Tame s (repairConsumer (repairTail (restoreCounts r s))) :=
    (restoreCounts_tame r s).trans ((repairTail_tame _).trans (repairConsumer_tame _))
  have h2 := judgeLow_lawful (repairConsumer (repairTail (restoreCounts r s)))
  obtain ⟨h3, h4, h5⟩ := startLoad_lawsKept (judgeLow (repairConsumer (repairTail (restoreCounts r s))))
  refine ⟨h1.trans (h2.toTame.trans h3), h4 (h2.ring (scanRingLaw_repairConsumer _)), fun hr => ?_⟩
  obtain ⟨hp, hu, ho, hc⟩ := hr
  have hr' : Restoring (repairConsumer (repairTail (restoreCounts r s))) := by
    refine ⟨?_, ?_, ?_, ?_⟩
    · simpa using hp
    · simpa using hu
    · simpa using ho
    · simpa [State.active] using hc
  have hpr : (repairConsumer (repairTail (restoreCounts r s))).present ≤
      (repairConsumer (repairTail (restoreCounts r s))).active.capacity := by
    simpa [State.present, State.active] using repairTail_present (restoreCounts r s)
  exact h5 (h2.core (hr'.core hpr)) (by simpa using hp) (by simpa using hu) (by simpa using ho)

/-! ### The reads of a start -/

theorem setStartReads_lawful (ws : List Word) (s : State) : Lawful s (setStartReads ws s) := .of_rfl rfl rfl

theorem statusRead_lawsKept {w : Word} {s : State} (h : s.path.stage = .statusReads) : LawsKept s (statusRead w s) := by
  simp only [statusRead]
  split
  · exact (setStartReads_lawful ..).lawsKept
  · obtain ⟨h1, h2, h3⟩ := restore_lawsKept (.of (s.path.startReads ++ [w])) (setStartReads [] s)
    have h0 := (setStartReads_lawful [] s).toTame.trans h1
    refine ⟨h0.store, h0.pending, h0.clock, h0.queue, fun _ => h2, fun ⟨_, hc, _, hs, _⟩ => h3 ?_⟩
    obtain ⟨a, b, c⟩ := hs (by rw [h]; decide)
    exact ⟨a, b, c, hc⟩

@[simp] theorem putInForce_keeps (ws : List Word) (s : State) :
    (putInForce ws s).path.state = s.path.state ∧ (putInForce ws s).path.stage = s.path.stage ∧
      (putInForce ws s).journal = s.journal ∧ (putInForce ws s).upload = s.upload ∧ (putInForce ws s).wand = s.wand := by
  unfold putInForce raiseClamped
  split
  · split <;> simp
  · simp

theorem putInForce_tame (ws : List Word) (s : State) : Tame s (putInForce ws s) := by
  unfold putInForce
  split
  · refine .trans ?_ (raiseClamped_lawful ..).toTame
    exact ⟨rfl, rfl, id, id⟩
  · refine .trans ?_ (raise_lawful ..).toTame
    exact ⟨rfl, rfl, id, id⟩

/-- Either profile has at most 16,384 journal entries. -/
theorem putInForce_capacity (ws : List Word) (s : State) : (putInForce ws s).active.capacity ≤ 16384 := by
  unfold putInForce
  split
  · unfold raiseClamped
    split <;> simpa [State.active] using capacity_clamp_le (readProfile ws)
  · simp only [State.active, raise_keeps, State.setProfile_profile]
    decide

theorem profileReturned_lawsKept {s : State} (h : s.path.stage = .profileReads) : LawsKept s (profileReturned s) := by
  have hu (t : State) (u : Upload) : Tame t (t.setUpload u) := ⟨rfl, rfl, id, id⟩
  have h1 := ((setStartReads_lawful [] s).toTame.trans (putInForce_tame s.profile.shadow _)).trans
    (hu _ (.freshWith (putInForce s.profile.shadow (setStartReads [] s)).active.upload))
  have hcap := putInForce_capacity s.profile.shadow (setStartReads [] s)
  have hres (hj : JournalLaw s) : Restoring ((putInForce s.profile.shadow (setStartReads [] s)).setUpload
      (.freshWith (putInForce s.profile.shadow (setStartReads [] s)).active.upload)) := by
    refine ⟨?_, rfl, rfl, hcap⟩
    have := (hj.2.2.2.1 (by rw [h]; decide)).1
    simpa [setStartReads] using this
  simp only [profileReturned]
  split
  · refine ⟨h1.store, h1.pending, h1.clock, h1.queue, ?_, fun hj => ?_⟩
    · simp [ScanRingLaw, setStartReads]
    · obtain ⟨hp, _, ho, hc⟩ := hres hj
      have hpres : (s.journal.head - s.journal.tail).toNat = 0 := by simp [(hj.2.2.2.2 h).1]
      refine ⟨?_, hcap, fun _ hb => ?_, fun _ => ⟨hp, rfl, rfl⟩, fun h => ?_⟩
      · simp [State.present, setStartReads, hpres]
      · cases hb
      · cases h
  · obtain ⟨h2, h3, h4⟩ := restore_lawsKept ⟨0#32, 0#32, 0#32, 0#32, 0#32, 0#32⟩
      ((putInForce s.profile.shadow (setStartReads [] s)).setUpload
        (.freshWith (putInForce s.profile.shadow (setStartReads [] s)).active.upload))
    have h5 := h1.trans h2
    exact ⟨h5.store, h5.pending, h5.clock, h5.queue, fun _ => h3, fun hj => h4 (hres hj)⟩

theorem profileRead_lawsKept {w : Word} {s : State} (h : s.path.stage = .profileReads) : LawsKept s (profileRead w s) := by
  have h1 (ws : List Word) :
      Lawful s (setStartReads (s.path.startReads ++ [w]) (s.setProfile { s.profile with shadow := ws })) := .of_rfl rfl rfl
  simp only [profileRead]
  split
  · exact (h1 _).lawsKept
  · exact (h1 _).lawsKept.trans (profileReturned_lawsKept h)

/-! ### The list load -/

theorem loadReturned_lawful (n : Nat) (w : Word) (s : State) : Lawful s (loadReturned n w s) := by
  have load (l : List Word) (o : Option Nat) : Lawful s (s.setCalendar { s.calendar with table := l, load := o }) :=
    setCalendar_lawful id
  simp only [loadReturned]
  split
  · exact load ..
  · split
    · exact (load ..).trans (startComplete_lawful _).1
    · exact (load ..).trans (decideAfterLoad_lawful _)

end Sys2Proof.Machine

/-! PROOFS. Every command answers, keeps the laws, and leaves the store to the drain and to judged writes: the family of the
whole machine. -/

namespace Sys2Proof.Machine

/-! ### What a command answers -/

/-- The answer `o` of the command `c` in `s`: a next state that keeps every law over a store that is the one before, or one that
the drain of the queue or a judged write has written. -/
def Answers (c : Instr) (s : State) (o : Answer) : Prop :=
  ∃ t m, o = .next t ∧ LawsKept (s.setStore m) t ∧ TailLaw c s t ∧ (StoreLaw s → Memory.wf m = true) ∧
    (m ≠ s.store → c = .pwqDrain ∨ (c = .forwardedUpstreamAccess ∧ ∃ a, s.path.upstream = .forwarded a ∧ a.write = true))

section
variable {c : Instr} {s t : State}

theorem answers_of_kept (h : LawsKept s t) (ht : TailLaw c s t) : Answers c s (.next t) :=
  ⟨t, s.store, rfl, h, ht, id, fun hn => absurd rfl hn⟩

theorem answers_idle : Answers c s (idle s) := answers_of_kept (.refl s) (.inl rfl)

theorem answers_done (h : Lawful s t) : Answers c s (done t) :=
  answers_of_kept (h.trans (endAct_lawful t)).lawsKept (.inl h.tail)

theorem answers_actIf {b : Bool} {f : State → State} (h : b = true → Lawful s (f s)) : Answers c s (actIf b f s) := by
  unfold actIf
  split
  · next hb => exact answers_done (h hb)
  · exact answers_idle

/-- A command that belongs to a start may move the tail. -/
theorem answers_done_of_restarts (hc : Restarts c) (h : LawsKept s t) : Answers c s (done t) :=
  answers_of_kept (h.trans (endAct_lawful t).lawsKept) (.inr (.inl hc))

theorem answers_actIf_of_restarts {b : Bool} {f : State → State} (hc : Restarts c) (h : LawsKept s (f s)) :
    Answers c s (actIf b f s) := by
  unfold actIf
  split
  · exact answers_done_of_restarts hc h
  · exact answers_idle

/-- A command that delivers bytes moves the tail only over the batch that is heard. -/
theorem answers_rxBytesIn {bs : List Byte} (hc : Delivers c) : Answers c s (done (rxBytesIn bs s)) :=
  answers_of_kept ((rxBytesIn_lawsKept bs s).trans (endAct_lawful _).lawsKept)
    (tailLaw_of_tailFollows hc ((rxBytesIn_tail bs s).trans (tailFollows_of_lawful (endAct_lawful _) (.inr rfl))))

end

/-! ### The commands, in the order of their definitions -/

theorem arrive_answers (c : Instr) (a : Access) (s : State) : Answers c s (arrive a s) := by
  refine answers_actIf fun _ => ?_
  split
  · next h => exact judge_lawful_of_running (by simpa [State.running] using h)
  · exact hold_lawful ..

theorem execHeldAccessResume_answers (c : Instr) (s : State) : Answers c s (execHeldAccessResume s) := by
  unfold execHeldAccessResume
  split
  · next a h =>
    refine answers_done (judge_lawful_of_running ?_)
    unfold resumable at h
    split at h
    · split at h
      · next he =>
        simp only [holdEnded, State.running, Bool.and_eq_true, decide_eq_true_eq] at he
        exact he.1
      · cases h
    · cases h
  · exact answers_idle

/-- An access whose store access can be made is judged, and waits for its turn of the port. -/
theorem storeReady_forwarded {s : State} {a : Access} (h : storeReady s = some a) : s.path.upstream = .forwarded a := by
  unfold storeReady at h
  split at h
  · next b hb =>
    split at h
    · cases h
      exact hb
    · cases h
  · cases h

theorem execForwardedUpstreamAccess_answers (s : State) :
    Answers .forwardedUpstreamAccess s (execForwardedUpstreamAccess s) := by
  unfold execForwardedUpstreamAccess
  split
  · next a h =>
    unfold storeAccess
    split
    · next hw =>
      refine ⟨_, writeWord s.store a.addr a.data a.strobes, rfl, ?_, .inl rfl, fun hs => wf_writeWord _ _ _ hs, fun _ => ?_⟩
      · exact ((completeWrite_lawful _).trans (endAct_lawful _)).lawsKept
      · exact .inr ⟨rfl, a, storeReady_forwarded h, hw⟩
    · exact answers_done (completeRead_lawful ..)
  · exact answers_idle

theorem drain_lawful (m : List Host.Cell) {e : QEntry} {rest : List QEntry} {s : State} (h : s.path.pwq = e :: rest) :
    Lawful (s.setStore m) ((s.setStore m).setPath { s.path with pwq := rest }) := by
  refine .of_watched rfl fun hq => ?_
  have hl : s.path.pwq.length ≤ 24 := hq
  rw [h] at hl
  exact Nat.le_of_succ_le hl

theorem execPwqDrain_answers (s : State) : Answers .pwqDrain s (execPwqDrain s) := by
  unfold execPwqDrain
  split
  · next e rest h =>
    split
    · refine ⟨_, writeWord s.store e.addr e.data fullWord, rfl, ?_, .inl rfl, fun hs => wf_writeWord _ _ _ hs, fun _ => .inl rfl⟩
      exact ((drain_lawful _ h).trans (endAct_lawful _)).lawsKept
    · exact answers_idle
  · exact answers_idle

theorem execEngineTakeEntry_answers (c : Instr) (s : State) : Answers c s (execEngineTakeEntry s) := by
  unfold execEngineTakeEntry
  split
  · next h => exact answers_done (takeEntry_lawful h)
  · exact answers_idle

theorem execFetchReadDone_answers (c : Instr) (s : State) : Answers c s (execFetchReadDone s) := by
  unfold execFetchReadDone
  split
  · next h _ =>
    split
    · exact answers_done (fetchReturned_lawful h)
    · exact answers_idle
  · exact answers_idle

theorem execCommitAdmit_answers (c : Instr) (s : State) : Answers c s (execCommitAdmit s) := by
  unfold execCommitAdmit
  split
  · next op d h =>
    obtain ⟨_, ho, hd, _, hr⟩ := commitReady_eq_some_iff.mp h
    refine answers_done ((commitOp_lawful (fun hq => ?_) hr).trans (settleVisit_lawful _))
    exact (opFits_iff_decidedFits hd).mp (hq.opFits ho)
  · exact answers_idle

theorem execListLoadReadDone_answers (c : Instr) (s : State) : Answers c s (execListLoadReadDone s) := by
  unfold execListLoadReadDone
  split
  · exact answers_done (loadReturned_lawful ..)
  · exact answers_idle

theorem execPwqGroupAdmit_answers (c : Instr) (pick : Nat) (s : State) : Answers c s (execPwqGroupAdmit pick s) := by
  unfold execPwqGroupAdmit
  split
  · next g h =>
    refine answers_done (admitAt_lawful ?_)
    unfold admissible at h
    split at h
    · split at h
      · next hc =>
        cases h
        simp only [Bool.and_eq_true, decide_eq_true_eq] at hc
        exact hc.2
      · cases h
    · cases h
  · exact answers_idle

theorem execSlotStatusReadDone_answers (c : Instr) (s : State) : Answers c s (execSlotStatusReadDone s) := by
  unfold execSlotStatusReadDone
  split
  · next a i h =>
    refine answers_done ((recordState_lawful ..).trans (judge_lawful fun hr => absurd hr (not_status_of_loanWin_hits ?_)))
    unfold statusReadReady at h
    split at h
    · next hu hs =>
      split at h
      · cases h
        unfold statusReadSlot at hs
        rw [hu] at hs
        simp only at hs
        split at hs
        · next hc =>
          simp only [Bool.and_eq_true] at hc
          exact hc.2
        · cases hs
      · cases h
    · cases h
  · exact answers_idle

theorem execWandEdge_answers (c : Instr) (n : Nat) (s : State) : Answers c s (execWandEdge n s) := by
  unfold execWandEdge
  split
  · exact answers_done (wandEdge_lawful ..)
  · exact answers_done (flipLevel_lawful s)

theorem execQuietTimeReached_answers (c : Instr) (s : State) : Answers c s (execQuietTimeReached s) := by
  unfold execQuietTimeReached
  split
  · exact answers_actIf fun _ => passTime_lawful ..
  · exact answers_idle

theorem execBarTooLong_answers (c : Instr) (s : State) : Answers c s (execBarTooLong s) := by
  unfold execBarTooLong
  split
  · exact answers_actIf fun _ => passTime_lawful ..
  · exact answers_idle

theorem execRepeatGuardExpire_answers (c : Instr) (s : State) : Answers c s (execRepeatGuardExpire s) := by
  unfold execRepeatGuardExpire
  split
  · exact answers_actIf fun _ => passTime_lawful ..
  · exact answers_idle

theorem execScanRecordWrite_answers (c : Instr) (s : State) : Answers c s (execScanRecordWrite s) := by
  unfold execScanRecordWrite
  split
  · next h => exact answers_actIf fun _ => scanAct_lawful h
  · exact answers_idle

theorem execSlipComposed_answers (c : Instr) (s : State) : Answers c s (execSlipComposed s) := by
  unfold execSlipComposed
  split
  · exact answers_done (slipRead_lawful ..)
  · exact answers_idle

theorem execPrinterByteSent_answers (c : Instr) (b : Bool) (s : State) : Answers c s (execPrinterByteSent b s) := by
  unfold execPrinterByteSent
  split
  · exact answers_done (byteSent_lawful ..)
  · exact answers_actIf fun _ => setPins_lawful ..

theorem readyLine_lawful (b : Bool) (s : State) : Lawful s (readyLine b s) := by
  simp only [readyLine]
  split
  · next h =>
    refine .trans ?_ (reportUpload_lawful ..)
    refine .trans (setPins_lawful ..) (sendHello_lawful (.inr ?_))
    simp only [Bool.and_eq_true, decide_eq_true_eq] at h
    simp [h.2]
  · exact setPins_lawful ..

theorem execLineWaitTimeout_answers (c : Instr) (s : State) : Answers c s (execLineWaitTimeout s) :=
  answers_actIf fun h => failUpload_lawful _ (.inr (by simp only [decide_eq_true_eq] at h; simp [h]))

theorem execFrameSent_answers (c : Instr) (s : State) : Answers c s (execFrameSent s) := by
  unfold execFrameSent
  split
  · exact answers_done (.of_rfl rfl rfl)
  · exact answers_actIf fun _ => .of_rfl rfl rfl

theorem timerExpired_lawful (s : State) : Lawful s (timerExpired s) := by
  have stopped : Lawful s (s.setUpload { s.upload with ackTimer := false }) := .of_rfl rfl rfl
  simp only [timerExpired]
  split
  · next h _ => exact stopped.trans (failedAttempt_lawful _ (.inr (by simp [h])))
  · next h => exact stopped.trans (longRetry_lawful (.inr (by simp [h])))
  · next h => exact stopped.trans (longRetry_lawful (.inr (by simp [h])))
  · exact stopped

theorem execBatchReadDone_answers (c : Instr) (s : State) : Answers c s (execBatchReadDone s) := by
  unfold execBatchReadDone
  split
  · next b a h =>
    refine answers_done (batchRead_lawful ?_)
    unfold batchReady at h
    split at h
    · next hb _ =>
      split at h
      · cases h
        exact hb
      · cases h
    · cases h
  · exact answers_idle

theorem startReadReady_stage {s : State} {stage : StartStage} {a : Addr} (h : startReadReady s stage = some a) :
    s.path.stage = stage := by
  unfold startReadReady at h
  split at h
  · split at h
    · next hc =>
      simp only [Bool.and_eq_true, decide_eq_true_eq] at hc
      exact hc.1
    · cases h
  · cases h

theorem execStartProfileReadDone_answers (s : State) : Answers .startProfileReadDone s (execStartProfileReadDone s) := by
  unfold execStartProfileReadDone
  split
  · next h => exact answers_done_of_restarts trivial (profileRead_lawsKept (startReadReady_stage h))
  · exact answers_idle

theorem execStartStatusReadDone_answers (s : State) : Answers .startStatusReadDone s (execStartStatusReadDone s) := by
  unfold execStartStatusReadDone
  split
  · next h => exact answers_done_of_restarts trivial (statusRead_lawsKept (startReadReady_stage h))
  · exact answers_idle

theorem execPfail_answers (s : State) : Answers .pfail s (execPfail s) := by
  refine answers_actIf fun _ => ?_
  exact (setPins_lawful ..).trans (lineAsserted_lawful _)

theorem execPfailRelease_answers (s : State) : Answers .pfailRelease s (execPfailRelease s) := by
  refine answers_actIf_of_restarts trivial ?_
  exact (setPins_lawful ..).lawsKept.trans (lineReleased_lawsKept _)

theorem execReset_answers (s : State) : Answers .reset s (execReset s) := by
  refine answers_actIf fun _ => ?_
  exact (setPins_lawful ..).trans (lineAsserted_lawful _)

theorem execResetRelease_answers (s : State) : Answers .resetRelease s (execResetRelease s) := by
  refine answers_actIf_of_restarts trivial ?_
  exact (setPins_lawful ..).lawsKept.trans (lineReleased_lawsKept _)

/-- No command of the table faults or is refused, and each keeps the laws. -/
theorem exec_answers (c : Instr) (s : State) : Answers c s (exec c s) := by
  cases c with
  | reqLoan | reqReturn | reqRenew | loanSlotClear | payment | currentPatronOpen | currentPatronRefresh
  | currentPatronClose | currentPatronRefused | scanConsumerWrite | uploadNow | reprint | silence | clearStamps | setClock
  | commandCodeInvalid | clockSetWordWrite | eventWordRead | profileWordWrite | adoptionRequest | calendarWrite
  | loanDescriptiveWrite | guardedWrite => exact arrive_answers ..
  | slotStatusReadDone => exact execSlotStatusReadDone_answers ..
  | heldAccessResume => exact execHeldAccessResume_answers ..
  | engineTakeEntry => exact execEngineTakeEntry_answers ..
  | fetchReadDone => exact execFetchReadDone_answers ..
  | commitAdmit => exact execCommitAdmit_answers ..
  | sweepStepStart => exact answers_actIf fun _ => startStep_lawful s
  | clockAdvance => exact answers_done (clockAdvance_lawful s)
  | listLoadReadDone => exact execListLoadReadDone_answers ..
  | pwqGroupAdmit pick => exact execPwqGroupAdmit_answers ..
  | pwqDrain => exact execPwqDrain_answers s
  | wandEdge ticks => exact execWandEdge_answers ..
  | quietTimeReached => exact execQuietTimeReached_answers ..
  | barTooLong => exact execBarTooLong_answers ..
  | passDecode => exact answers_actIf fun _ => decodeOutcome_lawful s
  | scanRecordWrite => exact execScanRecordWrite_answers ..
  | repeatGuardExpire => exact execRepeatGuardExpire_answers ..
  | idleTimerExpire => exact answers_actIf fun _ => closeVisit_lawful ..
  | slipComposed => exact execSlipComposed_answers ..
  | printerByteSent busy => exact execPrinterByteSent_answers ..
  | prnBusyRelease => exact answers_done (busyReleased_lawful s)
  | prnPaperOut level => exact answers_done (paperLine_lawful ..)
  | paperRestored => exact answers_actIf fun _ => restartSlip_lawful s
  | slipPrinted => exact answers_actIf fun _ => slipDone_lawful s
  | systemEntryAppend => exact answers_actIf appendSystem_lawful
  | uplReady level => exact answers_done (readyLine_lawful ..)
  | lineWaitTimeout => exact execLineWaitTimeout_answers ..
  | frameSent => exact execFrameSent_answers ..
  | ackTimeout => exact answers_actIf fun _ => timerExpired_lawful s
  | batchReadDone => exact execBatchReadDone_answers ..
  | welcome | ack | nakResend | nakAbort | bye | frameDiscarded => exact answers_rxBytesIn trivial
  | receiverTimeout => exact answers_actIf fun _ => setRx_lawful ..
  | pfail => exact execPfail_answers s
  | reset => exact execReset_answers s
  | stopParked => exact answers_actIf park_lawful
  | pfailRelease => exact execPfailRelease_answers s
  | resetRelease => exact execResetRelease_answers s
  | start => exact answers_actIf_of_restarts trivial (beginStart_lawsKept ..)
  | powerOn => exact answers_actIf_of_restarts trivial (powerArrives_lawsKept s)
  | mainPowerLoss => exact answers_actIf_of_restarts trivial (powerFails_lawsKept s)
  | vbackupLoss => exact answers_actIf fun _ => setCalendar_lawful id
  | startProfileReadDone => exact execStartProfileReadDone_answers s
  | startStatusReadDone => exact execStartStatusReadDone_answers s
  | sounderSegmentEnd => exact answers_actIf fun _ => nextSegment_lawful s
  | forwardedUpstreamAccess => exact execForwardedUpstreamAccess_answers s

/-! ### The statements about the whole machine -/

/-- Settles O1. -/
theorem stepTakesFrontCommand : Obligations.StepTakesFrontCommand := by
  refine ⟨fun c rest s h => ?_, fun s h => ?_⟩ <;> simp [step, h]

/-- Settles O2, by the answer of each command. -/
theorem everyCommandAnswers : Obligations.EveryCommandAnswers := by
  intro c s
  obtain ⟨t, m, ht, hk, _⟩ := exec_answers c s
  exact ⟨t, ht, hk.pending⟩

/-- Settles O3: every other command answers with the store it found. -/
theorem onlyStoreAccessesWriteStore : Obligations.OnlyStoreAccessesWriteStore := by
  intro c s t h hne
  obtain ⟨u, m, hu, hk, _, _, hm⟩ := exec_answers c s
  cases hu.symm.trans h
  rw [hk.store] at hne
  exact hm hne

/-- What a property needs to be kept by every step: that every command keeps it, whatever commands wait behind. -/
theorem step_keeps {P : State → Prop} (hp : ∀ (s : State) (q : List Instr), P s → P (s.setPending q))
    (he : ∀ c s t, P s → exec c s = .next t → P t) {s t : State} (h : P s) (hs : step s = .next t) : P t := by
  unfold step at hs
  split at hs
  · cases hs
    exact h
  · exact he _ _ _ (hp s _ h) hs

/-- Settles O4: a word written keeps the canonical form, and no other command writes the store. -/
theorem stepKeepsStoreForm : Obligations.StepKeepsStoreForm := by
  intro s t
  refine step_keeps (fun _ _ => id) fun c s t hs h => ?_
  obtain ⟨u, m, hu, hk, _, hw, _⟩ := exec_answers c s
  cases hu.symm.trans h
  show Memory.wf t.store = true
  rw [hk.store]
  exact hw hs

/-- Settles O5. -/
theorem stepKeepsClockLaw : Obligations.StepKeepsClockLaw := by
  intro s t
  refine step_keeps (fun _ _ => id) fun c s t hs h => ?_
  obtain ⟨u, m, hu, hk, _⟩ := exec_answers c s
  cases hu.symm.trans h
  exact hk.clock hs

/-- Settles O6. -/
theorem stepKeepsScanRingLaw : Obligations.StepKeepsScanRingLaw := by
  intro s t
  refine step_keeps (fun _ _ => id) fun c s t hs h => ?_
  obtain ⟨u, m, hu, hk, _⟩ := exec_answers c s
  cases hu.symm.trans h
  exact hk.ring hs

/-- Settles O7, the tail through what each command says of it. -/
theorem stepKeepsJournalLaw : Obligations.StepKeepsJournalLaw := by
  intro s t hj h
  constructor
  · refine step_keeps (P := JournalLaw) (fun _ _ => id) (fun c s t hs h => ?_) hj h
    obtain ⟨u, m, hu, hk, _⟩ := exec_answers c s
    cases hu.symm.trans h
    exact hk.journal hs
  · intro c rest hp
    rw [stepTakesFrontCommand.1 c rest s hp] at h
    obtain ⟨u, m, hu, _, ht, _⟩ := exec_answers c (s.setPending rest)
    cases hu.symm.trans h
    exact ht

/-- Settles O8. -/
theorem stepKeepsQueueLaw : Obligations.StepKeepsQueueLaw := by
  intro s t
  refine step_keeps (fun _ _ => id) fun c s t hs h => ?_
  obtain ⟨u, m, hu, hk, _⟩ := exec_answers c s
  cases hu.symm.trans h
  exact hk.queue hs

/-- Settles O9. -/
theorem resetMeetsLaws : Obligations.ResetMeetsLaws := by
  refine ⟨rfl, ?_, ?_, ?_, ?_⟩
  · exact ⟨by decide, by decide, by decide⟩
  · exact (by decide : (0#16 - (0#32).setWidth 16).toNat ≤ 32)
  · exact ⟨by decide, by decide, fun _ h => (by cases h), fun _ => ⟨rfl, rfl, rfl⟩, fun _ => ⟨rfl, by decide⟩⟩
  · exact ⟨Nat.zero_le _, Nat.zero_le _, Nat.zero_le _, Nat.zero_le _, fun _ h => (by cases h), fun _ _ h => (by cases h)⟩

end Sys2Proof.Machine

/-! PROOFS. The requests to loan slots and borrowers (Chapters 1 and 2). -/

namespace Sys2Proof.Machine

/-! ### Table 1-3 -/

/-- A loan is live in two states (R1). -/
theorem LoanState.live_iff (v : LoanState) : v.live = true ↔ v = .lent ∨ v = .overdue := by cases v <;> decide

theorem acceptance_loan_of_free {v : LoanState} (h : v.free = true) : acceptance 1#32 v = .taken 1 := by simp [acceptance, h]

theorem acceptance_return_of_live {v : LoanState} (h : v.live = true) : acceptance 2#32 v = .taken 2 := by simp [acceptance, h]

theorem acceptance_renew_of_live {v : LoanState} (h : v.live = true) : acceptance 3#32 v = .taken 3 := by simp [acceptance, h]

/-- A request that Table 1-3 takes waits while the CRQ is full, and is taken otherwise (R4, R8). -/
theorem judgeRequest_taken {a : Access} {i k : Nat} {v : LoanState} {s : State} (hst : a.strobes = fullWord)
    (ha : acceptance a.data v = .taken k) :
    judgeRequest a i v s = if crqFull s then hold a .requestRoom s else takeRequest a i k v s := by
  simp [judgeRequest, hst, ha]

theorem crqFull_eq_true_iff {s : State} : crqFull s = true ↔ 16 ≤ s.engine.crq.length := by simp [crqFull, Config.crqDepth]

/-- An act that ends by holding its access changes the Store Path alone. -/
theorem endAct_hold (a : Access) (why : Hold) (s : State) :
    endAct (hold a why s) = { s with path := { s.path with upstream := .held a why, fresh := 0 } } := rfl

section
variable {s : State} {addr : Addr} {i k : Nat} {v : LoanState} {w : Word}

/-- A request judged on a known state, taken while the CRQ has a free entry. -/
theorem arriveWrite_taken (h : LoanWriteJudged s addr i v) (ha : acceptance w v = .taken k) (hl : s.engine.crq.length < 16) :
    arriveWrite addr w fullWord s = .next (endAct (takeRequest ⟨true, addr, w, fullWord⟩ i k v s)) := by
  rw [arriveWrite_loan h, judgeRequest_taken rfl ha, if_neg (by simp [crqFull_eq_false_iff.mpr hl])]

/-- The same held while it has none. -/
theorem arriveWrite_heldRequest (h : LoanWriteJudged s addr i v) (ha : acceptance w v = .taken k)
    (hl : 16 ≤ s.engine.crq.length) :
    arriveWrite addr w fullWord s = .next (endAct (hold ⟨true, addr, w, fullWord⟩ .requestRoom s)) := by
  rw [arriveWrite_loan h, judgeRequest_taken rfl ha, if_pos (crqFull_eq_true_iff.mpr hl)]

end

/-- Settles O10. -/
theorem takenRequestJoinsCrq : Obligations.TakenRequestJoinsCrq := by
  intro s addr i st h hl
  constructor
  · intro hf
    exact arriveWrite_taken h (acceptance_loan_of_free ((LoanState.free_iff st).mpr hf)) hl
  · intro hv
    have hlive := (LoanState.live_iff st).mpr hv
    exact ⟨arriveWrite_taken h (acceptance_return_of_live hlive) hl, arriveWrite_taken h (acceptance_renew_of_live hlive) hl⟩

/-! ### Payments (R36) -/

theorem paymentWrite_full {a : Access} {b : Nat} {s : State} (hst : a.strobes = fullWord) (hd : a.data ≠ 0#32)
    (hl : 16 ≤ s.engine.crq.length) : paymentWrite a b s = hold a .requestRoom s := by
  simp [paymentWrite, hst, hd, crqFull_eq_true_iff.mpr hl]

theorem paymentWrite_taken {a : Access} {b : Nat} {s : State} (hst : a.strobes = fullWord) (hd : a.data ≠ 0#32)
    (hl : s.engine.crq.length < 16) : paymentWrite a b s =
      rewrite a 0#32 (joinCrq (.payment b (min a.data.toNat Config.maxFines)) (claim (.borrower b) s)) := by
  simp [paymentWrite, hst, hd, crqFull_eq_false_iff.mpr hl]

theorem paymentWrite_zero {a : Access} {b : Nat} {s : State} (hst : a.strobes = fullWord) (hd : a.data = 0#32) :
    paymentWrite a b s = forward a s := by simp [paymentWrite, hst, hd]

/-- Settles O14. -/
theorem paymentWriteTaken : Obligations.PaymentWriteTaken := by
  intro s addr b amount h
  have hw : exec (.payment addr amount fullWord) s = _ := arriveWrite_payment (data := amount) (st := fullWord) h
  rw [hw]
  constructor
  · intro hd hl
    rw [paymentWrite_taken rfl hd hl]
    rfl
  · rintro rfl
    rw [paymentWrite_zero rfl rfl]
    rfl

/-- An opening or refreshing write to the current-patron word waits for CRQ room. -/
theorem patronWrite_full {a : Access} {s : State} (hl : 16 ≤ s.engine.crq.length)
    (hm : (mergeLanes s.visit.patronCopy a.data a.strobes).toNat < s.active.borrowerCount) :
    patronWrite a s = hold a .requestRoom s := by
  simp [patronWrite, hm, crqFull_eq_true_iff.mpr hl]

/-- Settles O15. -/
theorem fullCrqHoldsRequests : Obligations.FullCrqHoldsRequests := by
  intro s addr data st hl
  refine ⟨fun i now h => ⟨fun hf => ?_, fun hv => ?_⟩, fun b h hd => ?_, fun h hm => ?_⟩
  · exact arriveWrite_heldRequest h (acceptance_loan_of_free ((LoanState.free_iff now).mpr hf)) hl
  · have hlive := (LoanState.live_iff now).mpr hv
    exact ⟨arriveWrite_heldRequest h (acceptance_return_of_live hlive) hl,
      arriveWrite_heldRequest h (acceptance_renew_of_live hlive) hl⟩
  · have hw : exec (.payment addr data fullWord) s = _ := arriveWrite_payment (data := data) (st := fullWord) h
    refine hw.trans ?_
    rw [paymentWrite_full rfl hd hl]
    rfl
  · have hw : arriveWrite addr data st s = .next (endAct (hold ⟨true, addr, data, st⟩ .requestRoom s)) := by
      rw [arriveWrite_status h]
      simp only [statusWrite]
      rw [patronWrite_full (a := ⟨true, addr, data, st⟩) hl hm]
    exact ⟨hw, hw⟩

/-! ### The status read of a held write (R7) -/

/-- A status read of the slot a held write lies in returns when it is served. -/
theorem statusReadReady_of_held {s : State} {a : Access} {n : Nat} {w0 : Addr} (hu : s.path.upstream = .held a .statusRead)
    (hs : s.service = true) (hh : s.active.loanWin.hits a.addr = true) (hn : s.active.loanWin.offset a.addr = n)
    (hw : w0 = s.active.loanAddr (n / 16) 0) (hr : servedAtOnce s w0 = true ∨ granted s = some .upstream) :
    statusReadReady s = some (a, n / 16) := by
  have hslot : statusReadSlot s = some (n / 16) := by simp [statusReadSlot, hu, hs, hh, hn]
  have hserved : readServed s .upstream (s.active.loanAddr (n / 16) 0) = true := by
    simp only [readServed, ← hw, Bool.or_eq_true, decide_eq_true_eq]
    exact hr
  simp [statusReadReady, hu, hslot, hserved]

@[simp] theorem mapGet_mapSet_same (m : List (Nat × LoanState)) (i : Nat) (v : LoanState) :
    mapGet (mapSet m i v) i = some v := by
  induction m with
  | nil => simp [mapSet, mapGet]
  | cons p m ih =>
    obtain ⟨k, w⟩ := p
    unfold mapSet
    split
    · simp [mapGet]
    · split
      · simp [mapGet]
      · next h => simp [mapGet, ih, Ne.symm h]

/-- A write to a word that only the LOAN window covers is guarded as that window says. -/
theorem guardAt_of_only {s : State} {a : Addr} {k : WindowKind} {n : Nat} (h : regionOf s.active a = .window k n)
    (ho : ∀ j, j ≠ k → s.active.hits j a = false) : guardAt s a = guardOf s k n := by
  obtain ⟨hh, hw⟩ := hits_of_window h
  have hg : guardsAt s a = [guardOf s k n] := by
    have hf : WindowKind.order.filter (fun j => s.active.hits j a) = [k] := by
      have hj (j : WindowKind) : s.active.hits j a = decide (j = k) := by
        by_cases hjk : j = k
        · simp [hjk, hh]
        · simp [hjk, ho j hjk]
      rw [List.filter_congr fun j _ => hj j]
      cases k <;> decide
    simp [guardsAt, hf, hw]
  unfold guardAt
  rw [hg]
  cases guardOf s k n <;> decide

/-- Settles O13. -/
theorem statusReadJudgesHeldWrite : Obligations.StatusReadJudgesHeldWrite := by
  intro s a n w0 st hu hw hs hrun hh hn hw0 hr hst
  have hexec : exec .slotStatusReadDone s = .next (endAct (judge a (recordState (n / 16) st s))) := by
    show execSlotStatusReadDone s = _
    simp only [execSlotStatusReadDone, statusReadReady_of_held hu hs hh hn hw0 hr, statusReadReturned, ← hw0, ← hst]
    rfl
  refine ⟨hexec, fun hb hq hreg hn4 hk => ?_⟩
  have hb' : busyAt (recordState (n / 16) st s) a.addr = false := hb
  have hq' : queueHolds (recordState (n / 16) st s) a.addr = false := hq
  have hguard : guardAt (recordState (n / 16) st s) a.addr = if st.live then .guarded else .free := by
    rw [guardAt_of_only (s := recordState (n / 16) st s) hreg hk]
    have hs' : (recordState (n / 16) st s).service = true := hs
    have hm : mapGet (recordState (n / 16) st s).engine.stateMap (n / 16) = some st := mapGet_mapSet_same ..
    rcases hn4 with h | h | h | h <;> simp [guardOf, hs', h, liveGuard, hm]
  have hout : ¬ a.addr.toNat < 128 := not_profile_of_window hreg
  have hj : judge a (recordState (n / 16) st s) = treatWrite patronWrite a (recordState (n / 16) st s) := by
    simp [judge, hb', hq', hw]
  rw [hexec, hj]
  constructor
  · intro hlive
    rw [treatWrite, hguard, if_pos ((LoanState.live_iff st).mpr hlive)]
    simp only [profileSnoop_outside hout]
    rfl
  · intro hlive
    have hl : st.live = false := by simpa using mt (LoanState.live_iff st).mp hlive
    have hreg' : regionOf (recordState (n / 16) st s).active a.addr = .window .loan n := hreg
    have hn0 : ¬ n % 16 = 0 := by omega
    rw [treatWrite, hguard, if_neg (by simp [hl])]
    simp only [freeWrite, hreg', windowWrite, hn0, decide_false, Bool.and_false, Bool.false_eq_true, if_false]
    rfl

/-! ### The engine takes work -/

/-- Settles O16. -/
theorem idleEngineTakesWork : Obligations.IdleEngineTakesWork := by
  intro s hi
  constructor
  · intro e rest hc
    show execEngineTakeEntry s = _
    simp only [execEngineTakeEntry, hi, hc]
    rfl
  · intro hc hr hsw
    have hready : stepReady s = true := by simp [stepReady, State.running, hr, hi, hc, hsw]
    show execSweepStepStart s = _
    simp only [execSweepStepStart, actIf, hready, if_true]
    rfl

end Sys2Proof.Machine

/-! PROOFS. Fetch reads that are not the last, the sounder, and the upstream accesses that need no other block (Chapters 1, 9,
11). -/

namespace Sys2Proof.Machine

/-! ### Fetch reads (R12) -/

/-- The one word of its number that was fetched. -/
theorem fetched_append {l : List (Nat × Word)} {n : Nat} (d : Word) (h : ∀ p ∈ l, p.1 ≠ n) :
    fetched (l ++ [(n, d)]) n = d := by
  induction l with
  | nil => simp [fetched]
  | cons p l ih =>
    obtain ⟨k, w⟩ := p
    have hk : k ≠ n := h (k, w) (by simp)
    simp [fetched, hk, ih fun q hq => h q (by simp [hq])]

/-- A fetch read that is served returns its word to the operation. -/
theorem execFetchReadDone_served {s : State} {op : Op} {w : FetchWord} {rest : List FetchWord} (hst : s.engine.state = .fetch)
    (hop : s.engine.op = some op) (ht : op.todo = w :: rest) (hr : readServed s .engine (fetchAddr s op w) = true) :
    exec .fetchReadDone s = .next (endAct (fetchReturned op w (internalRead s (fetchAddr s op w)) s)) := by
  show execFetchReadDone s = _
  have hn : nextFetch s = some (w, fetchAddr s op w) := by simp [nextFetch, hst, hop, ht]
  simp [execFetchReadDone, hop, hn, hr, done]

theorem keep_todo (op : Op) (w : FetchWord) (d : Word) : (op.keep w d).todo = op.todo.tail := by cases w <;> rfl

theorem keep_kind (op : Op) (w : FetchWord) (d : Word) : (op.keep w d).kind = op.kind := by cases w <;> rfl

/-- A word that is neither w1 nor the last is kept, and nothing else happens. -/
theorem fetchReturned_kept {op : Op} {w : FetchWord} {d : Word} {s : State} (hw : w ≠ .slot 1) (ht : op.todo.tail ≠ []) :
    fetchReturned op w d s = setOp .fetch (some (op.keep w d)) s := by
  have he : (op.keep w d).todo.isEmpty = false := by
    rw [keep_todo]
    cases h : op.todo.tail <;> simp_all
  simp [fetchReturned, hw, he]

/-- The reload of the idle timer by a LOAN of the open visit's patron. -/
theorem signalPatron_eq (k : OpKind) (i : Nat) (s : State) :
    signalPatron k i s = if k.isLoan && s.visiting i then loadTimer s else s := by
  cases k with
  | sweepStep => rfl
  | entry e => cases e <;> simp [signalPatron, OpKind.isLoan]

/-- w1 names the borrower whose index it holds. -/
theorem index_keep_w1 {op : Op} {d : Word} (h : ∀ p ∈ op.slotWords, p.1 ≠ 1) : (op.keep (.slot 1) d).index = field d 0 16 := by
  simp only [Op.index, Op.keep]
  rw [fetched_append d h]

/-- Settles O17. -/
theorem fetchReadKept : Obligations.FetchReadKept := by
  intro s op w second rest d hst hop ht hr hd
  have hexec := execFetchReadDone_served hst hop ht hr
  rw [← hd] at hexec
  have hset (o : Op) : endAct (setOp .fetch (some o) s) =
      { s with path := { s.path with fresh := 0 }, engine := { s.engine with op := some o } } := by
    simp only [setOp, State.setEngine, endAct, State.setPath, ← hst]
  refine ⟨fun hw => ?_, fun hw hb hn => ?_, fun hw hb hn => ?_⟩
  · rw [hexec, fetchReturned_kept hw (by simp [ht]), hset]
  · subst hw
    rw [hexec]
    simp only [fetchReturned, if_true, noteBorrower, index_keep_w1 hn, hb, signalPatron_eq, keep_kind, keep_todo, ht,
      List.tail_cons]
    have hv (c : Claim) (o : Option Op) : (claim c (setOp .fetch o s)).visiting (field d 0 16) = s.visiting (field d 0 16) := rfl
    simp only [hv]
    cases op.kind.isLoan && s.visiting (field d 0 16) <;>
      simp only [claim, setOp, State.setEngine, endAct, State.setPath, loadTimer, State.setVisit, hst] <;> rfl
  · subst hw
    rw [hexec]
    simp only [fetchReturned, if_true, noteBorrower, index_keep_w1 hn, Nat.not_lt.mpr hb, if_false]
    rw [hset]

/-! ### The sounder (R187 to R189) -/

/-- A status command written as a full word that is not 0 is handed to its owner, the word rewritten to 0 (R165). -/
theorem arriveWrite_command {s : State} {addr : Addr} {code : Word} (h : StatusWriteJudged s addr 2) (hc : code ≠ 0#32) :
    arriveWrite addr code fullWord s =
      .next (endAct (runCommand addr code.toNat (rewrite ⟨true, addr, code, fullWord⟩ 0#32 s))) := by
  rw [arriveWrite_status h]
  simp [statusWrite, commandWrite, hc]

/-- The last segment of a pattern, or one before it. -/
theorem nextSegment_of_sounder {s : State} {cur : Playing} (h : s.events.sounder = some cur) :
    nextSegment s = s.setEvents { s.events with
      sounder := if cur.segment + 1 < cur.pattern.segments then some (playing s.active cur.pattern (cur.segment + 1)) else none } := by
  simp only [nextSegment, h]
  split <;> rfl

/-- Settles O30. -/
theorem sounderPlaysAndFallsSilent : Obligations.SounderPlaysAndFallsSilent := by
  refine ⟨fun p asked cur => ?_, fun s addr d => ⟨fun h => ?_, ?_⟩⟩
  · have hplay : some (playing p asked 0) = some ⟨asked, 0, if asked = .rejectScan then p.toneB else p.toneA⟩ := by
      cases asked <;> rfl
    rw [← hplay]
    refine ⟨rfl, fun hr => ?_, fun hc ha => ?_, fun hr hc => ?_⟩
    · exact if_pos hr
    · subst ha
      simp [soundAfter, hc]
    · have hlow : ¬ cur.pattern.priority ≤ asked.priority := Nat.not_le.mpr hr
      have hother : (decide (cur.pattern = .alarm) && decide (asked = .accept)) = false := by simpa using hc
      simp [soundAfter, hlow, hother]
  · have hw : exec (.silence addr fullWord) s = _ := arriveWrite_command h (code := 3#32) (by decide)
    rw [hw]
    rfl
  · have hend (cur : Playing) (hs : s.events.sounder = some cur) : exec .sounderSegmentEnd s =
        .next (endAct (s.setEvents { s.events with
          sounder := if cur.segment + 1 < cur.pattern.segments then some (playing s.active cur.pattern (cur.segment + 1))
            else none })) := by
      show execSounderSegmentEnd s = _
      simp [execSounderSegmentEnd, actIf, hs, nextSegment_of_sounder hs, done]
    refine ⟨fun h => hend _ h, fun h => hend _ h, fun h => hend _ h, fun h => ?_, fun h => hend _ h, fun k hk hs => ?_,
      fun h => hend _ h⟩
    · have htone : playing s.active .lent 2 = ⟨.lent, 2, s.active.toneA⟩ := by simp [playing, Pattern.tone, dividerFor]
      rw [hend _ h, ← htone]
      rfl
    rw [hend _ hs]
    have hlt : k + 1 < Pattern.alarm.segments := by simp only [Pattern.segments]; omega
    have hpitch : playing s.active .alarm (k + 1) = ⟨.alarm, k + 1, if k % 2 = 0 then s.active.toneB else s.active.toneA⟩ := by
      by_cases hp : k % 2 = 0
      · have hp1 : (k + 1) % 2 ≠ 0 := by omega
        simp [playing, Pattern.tone, hp, hp1, dividerFor]
      · have hp1 : (k + 1) % 2 = 0 := by omega
        simp [playing, Pattern.tone, hp, hp1, dividerFor]
    simp only [hlt, if_true, hpitch]
    rfl

/-! ### Snooped words, the scan consumer and the event words -/

/-- Settles O33. -/
theorem consumerJudged : Obligations.ConsumerJudged := by
  intro s addr data m st h hm
  have hw : exec (.scanConsumerWrite addr data st) s = .next (endAct (consumerWrite ⟨true, addr, data, st⟩ s)) :=
    arriveWrite_status h
  rw [hw]
  simp only [consumerWrite, ← hm, Config.ringSize]
  constructor
  · intro hle
    rw [if_pos hle]
    rfl
  · intro hlt
    rw [if_neg (Nat.not_le.mpr hlt)]
    rfl

/-- Settles O34. -/
theorem snoopedWritesMerge : Obligations.SnoopedWritesMerge := by
  intro s addr data st
  refine ⟨fun h => ?_, fun h => ?_, fun n h hr => ?_, fun hl => ⟨fun h => ?_, fun h hq hg => ?_⟩⟩
  · exact arriveWrite_status h
  · exact arriveWrite_status h
  · have hw : exec (.calendarWrite addr data st) s = _ := arriveWrite_window (data := data) (st := st) h hr
    rw [hw]
    refine ⟨fun hn => ?_, fun hn => ?_⟩
    · simp only [windowWrite, snoopCalendar, if_pos hn]
      rfl
    · simp only [windowWrite, snoopCalendar, if_neg (Nat.not_le.mpr hn)]
      rfl
  · have hw : exec (.profileWordWrite addr data st) s = _ := arriveWrite_judged (data := data) (st := st) h
    have hreg : regionOf s.active addr = .profile addr.toNat := by simp [regionOf, Nat.lt_succ_of_lt hl]
    rw [hw]
    simp only [freeWrite, hreg, profileSnoop, Nat.lt_succ_of_lt hl, if_true, hl.ne, if_false]
    rfl
  · have hw : exec (.profileWordWrite addr data st) s = _ := arriveWrite_presented (data := data) (st := st) h hq
    rw [hw]
    simp only [treatWrite, hg, profileSnoop, Nat.lt_succ_of_lt hl, if_true, hl.ne, if_false]
    rfl

/-- Two words of latched events and enables share a bit when they are not disjoint. -/
theorem and_ne_zero_iff {n : Nat} (x y : BitVec n) : x &&& y ≠ 0#n ↔ ∃ k, x.getLsbD k = true ∧ y.getLsbD k = true := by
  constructor
  · intro h
    by_contra hk
    refine h (BitVec.eq_of_getLsbD_eq fun i _ => ?_)
    have := not_exists.mp hk i
    simpa using this
  · rintro ⟨k, hx, hy⟩ h
    have := congrArg (·.getLsbD k) h
    simp [hx, hy] at this

/-- Settles O35. -/
theorem eventWordAnswered : Obligations.EventWordAnswered := by
  refine ⟨fun s => ?_, fun s addr h => ?_⟩
  · simp only [State.attn, Bool.or_eq_true, decide_eq_true_eq, and_ne_zero_iff]
  · have hr : exec (.eventWordRead addr) s = _ := arriveRead_presented h
    rw [hr]
    refine ⟨fun h8 => ?_, fun h9 => ?_, fun h8 h9 => ?_⟩
    · simp only [treatRead, h8]
      rfl
    · simp only [treatRead, h9]
      rfl
    · have hpass : treatRead ⟨false, addr, 0#32, 0#4⟩ s = passRead ⟨false, addr, 0#32, 0#4⟩ s := by
        unfold treatRead
        split
        · contradiction
        · contradiction
        · rfl
      rw [hpass]
      refine ⟨fun d hd => ?_, fun hn => ?_⟩
      · simp only [passRead, hd]
        rfl
      · simp only [passRead, hn]
        rfl

/-! ### The store access of a judged access -/

/-- With fewer than 16 entries queued a forwarded access has its turn of the port. -/
theorem granted_upstream {s : State} {a : Access} (hu : s.path.upstream = .forwarded a) (hl : s.path.pwq.length < 16) :
    granted s = some .upstream := by
  have h1 : waitsFor s .pwqUrgent = false := by simpa [waitsFor, Config.pwqUrgent] using hl
  have h2 : waitsFor s .upstream = true := by simp [waitsFor, upstreamWaits, hu]
  simp [granted, Requester.order, h1, h2]

/-- Settles O38. -/
theorem storeAccessMade : Obligations.StoreAccessMade := by
  intro s a hu
  constructor
  · intro hw hl hs
    have hready : storeReady s = some a := by simp [storeReady, hu, granted_upstream hu hl]
    refine ⟨endAct (storeAccess a s), ?_, ?_, ?_, ?_, ?_⟩
    · show execForwardedUpstreamAccess s = _
      simp only [execForwardedUpstreamAccess, hready]
      rfl
    · intro b hb
      simp only [storeAccess, hw, if_true]
      cases b <;> simp at hb <;> rfl
    · simp only [storeAccess, hw, if_true]
      rfl
    · simp only [storeAccess, hw, if_true]
      exact wf_writeWord _ _ _ hs
    · intro b k hk
      simp only [storeAccess, hw, if_true]
      exact readLane_writeWord _ _ _ hs b hk
  · intro hw hl
    have hready : storeReady s = some a := by
      rcases hl with hl | hl
      · simp [storeReady, hu, granted_upstream hu hl]
      · simp [storeReady, hu, hl, hw]
    show execForwardedUpstreamAccess s = _
    simp only [execForwardedUpstreamAccess, hready, storeAccess, hw, Bool.false_eq_true, if_false]
    rfl

end Sys2Proof.Machine

/-! PROOFS. Guarded writes and held accesses (Chapter 9). -/

namespace Sys2Proof.Machine

/-! ### Guards (R159, R160, R161) -/

/-- A word that some window it lies in guards is guarded, whatever window it is decoded as (R157). -/
theorem guardAt_of_hits {s : State} {a : Addr} {k : WindowKind} (hh : s.active.hits k a = true)
    (hg : guardOf s k (s.active.wordIn k a) = .guarded) : guardAt s a = .guarded := by
  have hc : (guardsAt s a).contains .guarded = true := by
    simp only [guardsAt, List.contains_iff_mem, List.mem_map, List.mem_filter]
    exact ⟨k, ⟨by cases k <;> simp [WindowKind.order], hh⟩, hg⟩
  rw [guardAt, if_pos hc]

/-- The fields a window guards, as its guard. -/
theorem guardOf_of_windowGuards {s : State} {k : WindowKind} {n : Nat} (h : WindowGuards s k n) : guardOf s k n = .guarded := by
  cases k with
  | borrower =>
    obtain ⟨hs, hn⟩ := h
    rcases hn with hn | hn | hn <;> simp [guardOf, hs, hn]
  | loan =>
    obtain ⟨hs, hn | ⟨hn, hm⟩⟩ := h
    · rcases hn with hn | hn | hn | hn <;> simp [guardOf, hs, hn]
    · have hl : liveGuard s (n / 16) = .guarded := by rcases hm with hm | hm <;> simp [liveGuard, hm, LoanState.live]
      rcases hn with hn | hn | hn | hn <;> simp [guardOf, hs, hn, hl]
  | scan => rfl
  | journal => rfl
  | status =>
    obtain ⟨h5, h8, h9⟩ := h
    have hn : [0, 1, 2, 3, 4, 8, 9].contains n = false := by simp; omega
    simp only [guardOf, hn, Bool.false_eq_true, if_false]
  | calendar => exact h.elim

section
variable {s : State} {addr : Addr} {data : Word} {st : Strobes}

/-- A write to a word that its own window guards is suppressed. -/
theorem arriveWrite_guardedWindow {k : WindowKind} {n : Nat} (h : Presented s addr) (hq : queueHolds s addr = false)
    (hr : regionOf s.active addr = .window k n) (hg : WindowGuards s k n) :
    arriveWrite addr data st s = .next { s with path := pathCompleted s } :=
  arriveWrite_guarded h hq (guardAt_of_window hr (guardOf_of_windowGuards hg)) (not_profile_of_window hr)

/-- The words w1 to w4 of a loan slot that only the LOAN window covers are guarded as the slot's state says. -/
theorem guardAt_descriptive {n : Nat} (hs : s.service = true) (hr : regionOf s.active addr = .window .loan n)
    (hn : n % 16 = 1 ∨ n % 16 = 2 ∨ n % 16 = 3 ∨ n % 16 = 4) (hk : ∀ k, k ≠ .loan → s.active.hits k addr = false) :
    guardAt s addr = liveGuard s (n / 16) := by
  rw [guardAt_of_only hr hk]
  rcases hn with h | h | h | h <;> simp [guardOf, hs, h]

/-- An unguarded write to a descriptive word passes. -/
theorem arriveWrite_loan_forwarded {n : Nat} (h : WriteJudged s addr) (hr : regionOf s.active addr = .window .loan n)
    (hn : s.service = false ∨ n % 16 ≠ 0) :
    arriveWrite addr data st s = .next { s with path := pathForwarding s ⟨true, addr, data, st⟩ } := by
  have hc : (s.service && decide (n % 16 = 0)) = false := by rcases hn with hn | hn <;> simp [hn]
  rw [arriveWrite_window h hr]
  simp only [windowWrite, hc, Bool.false_eq_true, if_false]
  rfl

theorem arriveWrite_borrower_forwarded {n : Nat} (h : WriteJudged s addr) (hr : regionOf s.active addr = .window .borrower n)
    (hn : s.service = false ∨ n % 8 ≠ 5) :
    arriveWrite addr data st s = .next { s with path := pathForwarding s ⟨true, addr, data, st⟩ } := by
  have hc : (s.service && decide (n % 8 = 5)) = false := by rcases hn with hn | hn <;> simp [hn]
  rw [arriveWrite_window h hr]
  simp only [windowWrite, hc, Bool.false_eq_true, if_false]
  rfl

theorem arriveWrite_outside (h : WriteJudged s addr) (hr : regionOf s.active addr = .outside) :
    arriveWrite addr data st s = .next { s with path := pathForwarding s ⟨true, addr, data, st⟩ } := by
  rw [arriveWrite_judged h]
  simp only [freeWrite, hr]
  rfl

end

/-- The words at index 65,535 of a BORROWER window of size code 19, beyond the profile region. -/
theorem noBorrowerWord_of_index {p : Profile} {n : Nat} (he : p.borrowerWin.enable = true) (hs : p.borrowerWin.size = 19)
    (hn : n < 8) : noBorrowerWord p (p.borrowerAddr 65535 n) = true ∧ ¬ (p.borrowerAddr 65535 n).toNat < 128 := by
  have hb := p.borrowerWin.base.isLt
  have hal : (p.borrowerWin.aligned).toNat = p.borrowerWin.base.toNat / 2 ^ 19 * 2 ^ 19 := by
    simp only [Window.aligned, hs, BitVec.toNat_shiftLeft, BitVec.toNat_ushiftRight, Nat.shiftRight_eq_div_pow,
      Nat.shiftLeft_eq]
    omega
  have haddr : (p.borrowerAddr 65535 n).toNat = p.borrowerWin.base.toNat / 2 ^ 19 * 2 ^ 19 + (524280 + n) := by
    simp only [Profile.borrowerAddr, Window.at, BitVec.toNat_add, hal, BitVec.toNat_ofNat]
    omega
  have hoff : p.borrowerWin.offset (p.borrowerAddr 65535 n) = 524280 + n := by
    simp only [Window.offset, BitVec.toNat_sub, haddr, hal]
    omega
  have hhit : p.borrowerWin.hits (p.borrowerAddr 65535 n) = true := by
    simp only [Window.hits, he, hs, Bool.true_and, decide_eq_true_eq]
    refine BitVec.eq_of_toNat_eq ?_
    simp only [BitVec.toNat_ushiftRight, Nat.shiftRight_eq_div_pow, haddr]
    omega
  refine ⟨?_, by rw [haddr]; omega⟩
  simp only [noBorrowerWord, hhit, hs, hoff, Config.noIndex, Bool.and_eq_true, decide_eq_true_eq, true_and]
  omega

/-- A word of no borrower is outside every window, and no window guards it. -/
theorem outside_of_noBorrowerWord {s : State} {a : Addr} (h : noBorrowerWord s.active a = true) (hl : ¬ a.toNat < 128) :
    regionOf s.active a = .outside ∧ guardAt s a = .free := by
  have hh (k : WindowKind) : s.active.hits k a = false := by simp [Profile.hits, h]
  constructor
  · simp [regionOf, hl, WindowKind.order, hh]
  · simp [guardAt, guardsAt, WindowKind.order, hh]

/-- Settles O36. -/
theorem guardedWritesSuppressed : Obligations.GuardedWritesSuppressed := by
  intro s addr data st h hq
  have unguarded (hg : guardAt s addr = .free) : WriteJudged s addr := ⟨h, hq, hg⟩
  refine ⟨fun n hs hr hn hk => ⟨fun v hv => ⟨fun hlive => ?_, fun hlive => ?_⟩, fun hv => ?_⟩, fun he hs hx => ?_,
    fun k hl hh hg => ?_, fun n hs hr hn => ?_, fun n hs hr hn => ?_, fun n hr => ?_, fun n hr hn => ?_,
    fun n hg hr hn => ?_, fun hg hr => ?_⟩
  · exact arriveWrite_guardedWindow h hq hr ⟨hs, .inr ⟨hn, hlive.imp (by rintro rfl; exact hv) (by rintro rfl; exact hv)⟩⟩
  · have hg : guardAt s addr = .free := by
      have hl : v.live = false := by simpa using mt (LoanState.live_iff v).mp hlive
      rw [guardAt_descriptive hs hr hn hk]
      simp [liveGuard, hv, hl]
    exact arriveWrite_loan_forwarded (unguarded hg) hr (.inr (by omega))
  · have hg : guardAt s addr = .unknown := by
      rw [guardAt_descriptive hs hr hn hk]
      simp [liveGuard, hv]
    have hw : exec (.loanDescriptiveWrite addr data st) s = _ := arriveWrite_presented (data := data) (st := st) h hq
    rw [hw]
    simp only [treatWrite, hg]
    rfl
  · obtain ⟨n, hn, rfl⟩ := hx
    obtain ⟨hno, hl⟩ := noBorrowerWord_of_index he hs hn
    obtain ⟨hr, hg⟩ := outside_of_noBorrowerWord hno hl
    exact arriveWrite_outside (unguarded hg) hr
  · exact arriveWrite_guarded h hq (guardAt_of_hits hh (guardOf_of_windowGuards hg)) (Nat.not_lt.mpr hl)
  · exact arriveWrite_guardedWindow h hq hr ⟨hs, hn⟩
  · exact arriveWrite_guardedWindow h hq hr ⟨hs, .inl hn⟩
  · rcases hr with hr | hr <;> exact arriveWrite_guardedWindow h hq hr trivial
  · exact arriveWrite_guardedWindow h hq hr hn
  · have hw : exec (.guardedWrite addr data st) s = _ :=
      arriveWrite_status (data := data) (st := st) ⟨unguarded hg, hr⟩
    rw [hw]
    rcases hn with rfl | rfl <;> rfl
  · rcases hr with hr | ⟨n, ⟨hr, hn⟩ | ⟨hr, hn⟩⟩
    · exact arriveWrite_outside (unguarded hg) hr
    · exact arriveWrite_borrower_forwarded (unguarded hg) hr hn
    · exact arriveWrite_loan_forwarded (unguarded hg) hr hn

/-! ### Held accesses (R155, R166) -/

/-- A command that presents an access is its arrival. -/
theorem exec_of_accessOf {c : Instr} {a : Access} (h : accessOf c = some a) (s : State) : exec c s = arrive a s := by
  cases c <;> cases h <;> rfl

/-- A held access whose hold has ended is judged from the first step. -/
theorem exec_resume {s : State} {a : Access} {why : Hold} (hu : s.path.upstream = .held a why) (hr : holdEnded s a why = true) :
    exec .heldAccessResume s = .next (endAct (judge a s)) := by
  show execHeldAccessResume s = _
  simp [execHeldAccessResume, resumable, hu, hr, done]

/-- A held access whose hold lasts is left as it is. -/
theorem exec_resume_idle {s : State} {a : Access} {why : Hold} (hu : s.path.upstream = .held a why)
    (hr : holdEnded s a why = false) : exec .heldAccessResume s = .next s := by
  show execHeldAccessResume s = _
  simp [execHeldAccessResume, resumable, hu, hr, idle]

theorem queueHolds_iff {s : State} {a : Addr} : queueHolds s a = true ↔ ∃ e ∈ s.path.pwq, e.addr = a := by
  unfold queueHolds
  induction s.path.pwq with
  | nil => simp [queued]
  | cons e l ih =>
    simp only [queued, List.exists_mem_cons_iff, ← ih]
    cases queued l a
    · by_cases he : e.addr = a <;> simp [he]
    · simp

theorem judge_busy {a : Access} {s : State} (h : busyAt s a.addr = true) : judge a s = hold a .busy s := by simp [judge, h]

/-- An access to a word outside every window, unguarded and not queued, passes. -/
theorem judge_outside {a : Access} {s : State} (hb : busyAt s a.addr = false) (hq : queueHolds s a.addr = false)
    (hg : guardAt s a.addr = .free) (hr : regionOf s.active a.addr = .outside) : judge a s = forward a s := by
  have hn : queued s.path.pwq a.addr = none := by simpa [queueHolds] using hq
  unfold judge
  simp only [hb, hq, Bool.and_false, Bool.false_eq_true, if_false]
  split
  · simp only [treatWrite, hg, freeWrite, hr]
  · simp only [treatRead, hr, passRead, hn]

/-- A write to the status word of a loan slot, judged by the state the map holds. -/
theorem judge_loan {a : Access} {s : State} {i : Nat} (hb : busyAt s a.addr = false) (hq : queueHolds s a.addr = false)
    (hg : guardAt s a.addr = .free) (hs : s.service = true) (hr : regionOf s.active a.addr = .window .loan (16 * i))
    (hw : a.write = true) : judge a s = requestWrite a i s := by
  have hi : 16 * i / 16 = i := by omega
  simp [judge, hb, hq, hw, treatWrite, hg, freeWrite, hr, windowWrite, hs, hi]

theorem busyAt_of_loan {s : State} {a : Addr} (hs : s.service = true) (hh : s.active.hits .loan a = true)
    (hm : .loan (s.active.wordIn .loan a / 16) ∈ s.engine.busy) : busyAt s a = true := by
  simp [busyAt, hs, hh, State.claimed, hm]

theorem busyAt_of_borrower {s : State} {a : Addr} (hs : s.service = true) (hh : s.active.hits .borrower a = true)
    (hm : .borrower (s.active.wordIn .borrower a / 8) ∈ s.engine.busy) : busyAt s a = true := by
  simp [busyAt, hs, hh, State.claimed, hm]

/-- A hold ends in a running part when its reason has gone. -/
theorem holdEnded_of_running {s : State} {a : Access} {why : Hold} (hrun : s.path.state = .running)
    (h : why = .startStop ∨ (why = .busy ∧ busyAt s a.addr = false) ∨ (why = .ordering ∧ queueHolds s a.addr = false) ∨
      (why = .requestRoom ∧ s.engine.crq.length < 16)) : holdEnded s a why = true := by
  have hr : s.running = true := by simp [State.running, hrun]
  rcases h with rfl | ⟨rfl, h⟩ | ⟨rfl, h⟩ | ⟨rfl, h⟩
  · simp [holdEnded, hr]
  · simp [holdEnded, hr, h]
  · simp [holdEnded, hr, h]
  · simp [holdEnded, hr, crqFull_eq_false_iff.mpr h]

/-- Settles O37. -/
theorem heldAccessResumes : Obligations.HeldAccessResumes := by
  constructor
  · intro s a why hu hrun
    refine ⟨fun hend => ?_, fun hlast => ?_⟩
    · have hexec := exec_resume hu (holdEnded_of_running hrun hend)
      refine ⟨fun hb => ?_, fun hb hq hg hr => ?_, fun i hb hq hg hs hr hm hl ha => ?_⟩
      · rw [hexec, judge_busy hb]
        rfl
      · rw [hexec, judge_outside hb hq hg hr]
        rfl
      · have hw : a.write = true := by rw [ha]
        have hst : a.strobes = fullWord := by rw [ha]
        have hd : acceptance a.data .lent = .taken 2 := by
          rw [ha]
          exact acceptance_return_of_live rfl
        have haddr : (⟨true, a.addr, a.data, a.strobes⟩ : Access) = a := by rw [← hw]
        rw [hexec, judge_loan hb hq hg hs hr hw, requestWrite, hm]
        simp only [judgeRequest_taken hst hd, crqFull_eq_false_iff.mpr hl, Bool.false_eq_true, if_false]
        simp only [takeRequest, rewrite, hw]
        rfl
    · refine exec_resume_idle hu ?_
      rcases hlast with ⟨rfl, h⟩ | ⟨rfl, h⟩ | ⟨rfl, h⟩
      · simp [holdEnded, h]
      · simp [holdEnded, h]
      · simp [holdEnded, crqFull_eq_true_iff.mpr h]
  · intro s c a hc hp hu
    have harrive : exec c s = .next (endAct (if s.running then judge a s else hold a .startStop s)) := by
      rw [exec_of_accessOf hc]
      simp [arrive, actIf, hp, hu, done]
    refine ⟨fun hn => ?_, fun hrun => ?_⟩
    · rw [harrive]
      simp only [State.running, hn, decide_false, Bool.false_eq_true, if_false]
      rfl
    · have hjudge : exec c s = .next (endAct (judge a s)) := by
        rw [harrive]
        simp [State.running, hrun]
      refine ⟨fun i hs hh hi hm => ?_, fun b hs hh hi hm => ?_, fun hb hw hq => ?_, fun i hb hw hq hg hs hr hm => ?_⟩
      · rw [hjudge, judge_busy (busyAt_of_loan hs hh (hi ▸ hm))]
        rfl
      · rw [hjudge, judge_busy (busyAt_of_borrower hs hh (hi ▸ hm))]
        rfl
      · rw [hjudge]
        simp only [judge, hb, hw, queueHolds_iff.mpr hq, Bool.and_self, Bool.false_eq_true, if_false, if_true]
        rfl
      · rw [hjudge, judge_loan hb hq hg hs hr hw, requestWrite, hm]
        rfl

end Sys2Proof.Machine

/-! PROOFS. What an act posts: the STATUS words that its groups place in an open queue, composed act by act, and what else of
the Store Path stands. -/

namespace Sys2Proof.Machine

/-- From `s` to `t` the STATUS words `ws` are posted, in order: with no group waiting and room for all of them they enter the
queue at once; with the window disabled they go nowhere. -/
structure Posts (s t : State) (ws : List (Nat × Word)) : Prop where
  window : t.active.statusWin = s.active.statusWin
  state : t.path.state = s.path.state
  grown : Grown s t
  opened : Open s ws.length → t.path.pwq = s.path.pwq ++ statusEntries s ws ∧ t.path.waiting = []
  disabled : s.active.statusWin.enable = false → t.path.pwq = s.path.pwq ∧ t.path.waiting = s.path.waiting

section
variable {s t u : State} {ws vs : List (Nat × Word)}

/-- The addresses of STATUS words depend on the window alone. -/
theorem statusEntries_congr (h : t.active.statusWin = s.active.statusWin) (ws : List (Nat × Word)) :
    statusEntries t ws = statusEntries s ws := by
  simp only [statusEntries, Profile.statusAddr, h]

/-- A state whose queue, line and window are those of `s` has had nothing posted. -/
theorem Posts.of_path (hp : t.path.pwq = s.path.pwq) (hw : t.path.waiting = s.path.waiting) (hs : t.path.state = s.path.state)
    (ha : t.active.statusWin = s.active.statusWin) : Posts s t [] where
  window := ha
  state := hs
  grown := by rw [Grown, hp]
  opened := fun h => ⟨by simp [hp, statusEntries], by rw [hw, h.2.2.1]⟩
  disabled := fun _ => ⟨hp, hw⟩

theorem Posts.refl (s : State) : Posts s s [] := .of_path rfl rfl rfl rfl

/-- Words posted after words posted. -/
theorem Posts.trans (h : Posts s t ws) (k : Posts t u vs) : Posts s u (ws ++ vs) where
  window := k.window.trans h.window
  state := k.state.trans h.state
  grown := h.grown.trans k.grown
  opened := by
    rintro ⟨he, hst, hwait, hlen⟩
    rw [List.length_append] at hlen
    obtain ⟨hp, hw⟩ := h.opened ⟨he, hst, hwait, by omega⟩
    have hroom : Open t vs.length := by
      refine ⟨by rw [h.window]; exact he, by rw [h.state]; exact hst, hw, ?_⟩
      rw [hp, List.length_append, statusEntries, List.length_map]
      omega
    obtain ⟨hp', hw'⟩ := k.opened hroom
    refine ⟨?_, hw'⟩
    rw [hp', hp, statusEntries_congr h.window, List.append_assoc]
    simp [statusEntries]
  disabled := fun he => by
    obtain ⟨hp, hw⟩ := h.disabled he
    obtain ⟨hp', hw'⟩ := k.disabled (by rw [h.window]; exact he)
    exact ⟨hp'.trans hp, hw'.trans hw⟩

/-- Nothing posted behind words posted. -/
theorem Posts.keep (h : Posts s t ws) (k : Posts t u []) : Posts s u ws := by simpa using h.trans k

/-- Words posted from a state to which nothing had been posted. -/
theorem Posts.after (h : Posts s t []) (k : Posts t u ws) : Posts s u ws := h.trans k

/-- What a running part posts is what its act queues. -/
theorem Posts.queues (h : Posts s t ws) (hr : s.path.state = .running) : Queues s t ws :=
  ⟨fun he hw hl => h.opened ⟨he, .inr hr, hw, hl⟩, h.disabled⟩

theorem produce_posts (o : GroupOwner) (ws : List (Nat × Word)) (b : Bool) (s : State) : Posts s (produce o ws b s) ws where
  window := by simp [State.active]
  state := by simp
  grown := produce_grown o ws b s
  opened := fun h => by
    rw [produce_open h]
    exact ⟨by simp, by simpa using h.2.2.1⟩
  disabled := fun h => by
    rw [produce_disabled h]
    exact ⟨rfl, rfl⟩

theorem endAct_posts (s : State) : Posts s (endAct s) [] := .of_path (by simp) (by simp) (by simp) (by simp [State.active])

theorem stampEvent_posts (k d : Nat) (s : State) : Posts s (stampEvent k d s) (stampMirror (stampEvent k d s).events k) := by
  have he (u : EventUnit) : Posts s (s.setEvents u) [] := .of_path rfl rfl rfl rfl
  have hev : (stampEvent k d s).events =
      { s.events with stamps := s.events.stamps.set k ((s.events.stamp k).note s.active.stampLast s.reading d) } := by
    simp [stampEvent]
  rw [hev]
  exact (he _).after (produce_posts ..)

/-- An event without a stamp posts nothing. -/
theorem raise_posts {e : Event} {d : Nat} {s : State} (h : e.record = none) : Posts s (raise e d s) [] := by
  rw [raise_plain h]
  exact .of_path rfl rfl rfl rfl

/-- An event with a stamp posts the two words of its record. -/
theorem raise_posts_stamp {e : Event} {k : Nat} {d : Nat} {s : State} (h : e.record = some k) :
    Posts s (raise e d s) (stampMirror (raise e d s).events k) := by
  have he : Posts s (s.setEvents (s.events.latch e)) [] := .of_path rfl rfl rfl rfl
  simp only [raise, h]
  exact he.after (stampEvent_posts ..)

theorem badRequest_posts (a : Addr) (s : State) : Posts s (badRequest a s) (stampMirror (badRequest a s).events 2) :=
  raise_posts_stamp rfl

theorem reportVisit_posts (b s : State) : Posts s (reportVisit b s)
    (if visitWord s.visit = visitWord b.visit then [] else [(23, visitWord s.visit)]) := by
  unfold reportVisit
  split
  · exact .refl s
  · exact produce_posts ..

theorem reportUpload_posts (b s : State) : Posts s (reportUpload b s)
    (if uploadWord s.upload = uploadWord b.upload then [] else [(19, uploadWord s.upload)]) := by
  unfold reportUpload
  split
  · exact .refl s
  · exact produce_posts ..

theorem writeClockMirror_posts {s : State} (h : s.running = true) : Posts s (writeClockMirror s) (clockPair s.calendar) := by
  rw [writeClockMirror, if_pos h]
  exact produce_posts ..

/-! ### The Store Path but for the queue and the line -/

/-- The Store Path stands but for a queue that has at most grown, and the line. -/
theorem pathGrows_of_still (h : t.path.still = s.path.still) (hg : Grown s t) : PathGrows s t := by
  simp only [StorePath.still, Prod.mk.injEq] at h
  obtain ⟨h1, h2, h3, h4, h5, h6, h7, h8, h9⟩ := h
  exact ⟨⟨h1, h2, h3, h4, h5, h6, h7, hg.exists⟩, h8, h9⟩

/-- A Store Path whose upstream access has been judged, and then kept but for the queue and the line. -/
theorem PathGrows.keeps_of_upstream (h : PathGrows u t) (hp : u.path.pwq = s.path.pwq) (hs : u.path.state = s.path.state ∧
    u.path.stage = s.path.stage ∧ u.path.startKind = s.path.startKind ∧ u.path.resetSeen = s.path.resetSeen ∧
    u.path.repairedConsumer = s.path.repairedConsumer ∧ u.path.repairedTail = s.path.repairedTail ∧
    u.path.startReads = s.path.startReads) : PathKeeps s t := by
  obtain ⟨⟨h1, h2, h3, h4, h5, h6, h7, es, h8⟩, _, _⟩ := h
  obtain ⟨k1, k2, k3, k4, k5, k6, k7⟩ := hs
  exact ⟨h1.trans k1, h2.trans k2, h3.trans k3, h4.trans k4, h5.trans k5, h6.trans k6, h7.trans k7, es, by rw [h8, hp]⟩

end

/-! ### Events -/

theorem badRequest_events (a : Addr) (s : State) : (badRequest a s).events = eventsAfterBad s a := by
  simp [badRequest, raise, Event.record, stampEvent, eventsAfterBad, eventsBad, EventUnit.latch, Event.place, EventUnit.stamp,
    State.reading, State.active]

end Sys2Proof.Machine

/-! PROOFS. Requests and commands that only report, and the commands of the command word (Chapters 1, 7, 8, 9, 11). -/

namespace Sys2Proof.Machine

/-! ### What is refused -/

section
variable {s : State} {addr : Addr}

theorem badRequest_grows (a : Addr) (s : State) : PathGrows s (badRequest a s) :=
  pathGrows_of_still (raise_still ..) (raise_grown ..)

theorem endAct_grows (s : State) : PathGrows s (endAct s) := pathGrows_of_still rfl (endAct_grown s)

theorem PathGrows.trans {s t u : State} (h : PathGrows s t) (k : PathGrows t u) : PathGrows s u := by
  obtain ⟨⟨h1, h2, h3, h4, h5, h6, h7, es, h8⟩, h9, h10⟩ := h
  obtain ⟨⟨k1, k2, k3, k4, k5, k6, k7, fs, k8⟩, k9, k10⟩ := k
  exact ⟨⟨k1.trans h1, k2.trans h2, k3.trans h3, k4.trans h4, k5.trans h5, k6.trans h6, k7.trans h7, es ++ fs,
    by rw [k8, h8, List.append_assoc]⟩, k9.trans h9, k10.trans h10⟩

/-- What a suppressed write with BAD_REQUEST leaves. -/
def Suppressed (s : State) (addr : Addr) (t : State) : Prop :=
  OnlyChanges [.path, .events] s t ∧ PathKeeps s t ∧ t.path.upstream = .idle ∧ t.path.completion = .write ∧
    t.events = eventsAfterBad s addr ∧ Queues s t (stampMirror t.events 2)

/-- What a command word rewritten to 0 with BAD_REQUEST leaves. -/
def Zeroed (s : State) (addr : Addr) (t : State) : Prop :=
  OnlyChanges [.path, .events] s t ∧ PathKeeps s t ∧ t.path.upstream = .forwarded ⟨true, addr, 0#32, fullWord⟩ ∧
    t.path.completion = s.path.completion ∧ t.events = eventsAfterBad s addr ∧ Queues s t (stampMirror t.events 2)

/-- BAD_REQUEST raised over a Store Path whose access has been judged changes nothing but that path and the events. -/
theorem badRequest_onlyReports (p : StorePath) (hp : p.pwq = s.path.pwq ∧ p.waiting = s.path.waiting)
    (hs : p.state = s.path.state ∧ p.stage = s.path.stage ∧ p.startKind = s.path.startKind ∧
      p.resetSeen = s.path.resetSeen ∧ p.repairedConsumer = s.path.repairedConsumer ∧
      p.repairedTail = s.path.repairedTail ∧ p.startReads = s.path.startReads) (hr : s.path.state = .running) :
    let t := endAct (badRequest addr (s.setPath p))
    OnlyChanges [.path, .events] s t ∧ PathKeeps s t ∧ t.path.upstream = p.upstream ∧ t.path.completion = p.completion ∧
      t.events = eventsAfterBad s addr ∧ Queues s t (stampMirror t.events 2) := by
  intro t
  have hgrow : PathGrows (s.setPath p) t := (badRequest_grows ..).trans (endAct_grows _)
  have hev : t.events = (badRequest addr (s.setPath p)).events := by simp [t]
  refine ⟨fun b hb => ?_, hgrow.keeps_of_upstream hp.1 hs, hgrow.2.1, hgrow.2.2, ?_, ?_⟩
  · cases b <;> simp at hb <;> simp [t, SameBlock]
  · rw [hev]
    exact badRequest_events ..
  · have hpost : Posts s (s.setPath p) [] := .of_path hp.1 hp.2 hs.1 rfl
    rw [hev]
    exact ((hpost.after (badRequest_posts ..)).keep (endAct_posts _)).queues hr

theorem refuseWrite_suppressed {a : Access} (ha : a.addr = addr) (hr : s.path.state = .running) :
    Suppressed s addr (endAct (refuseWrite a s)) := by
  subst ha
  exact badRequest_onlyReports { s.path with upstream := .idle, completion := .write } ⟨rfl, rfl⟩
    ⟨rfl, rfl, rfl, rfl, rfl, rfl, rfl⟩ hr

theorem rewrite_zeroed {a : Access} (ha : a.addr = addr) (hw : a.write = true) (hr : s.path.state = .running) :
    Zeroed s addr (endAct (badRequest addr (rewrite a 0#32 s))) := by
  have h := badRequest_onlyReports (addr := addr) (s := s) { s.path with upstream := .forwarded ⟨true, addr, 0#32, fullWord⟩ }
    ⟨rfl, rfl⟩ ⟨rfl, rfl, rfl, rfl, rfl, rfl, rfl⟩ hr
  have he : rewrite a 0#32 s = s.setPath { s.path with upstream := .forwarded ⟨true, addr, 0#32, fullWord⟩ } := by
    simp only [rewrite, forward, ha, hw]
  rw [he]
  exact h

end

/-! ### The refused requests (Table 1-3) -/

section
variable {s : State} {addr : Addr} {i : Nat} {v : LoanState} {w : Word} {st : Strobes}

theorem judgeRequest_refused {a : Access} (h : a.strobes ≠ fullWord ∨ acceptance a.data v = .bad) :
    judgeRequest a i v s = refuseWrite a s := by
  unfold judgeRequest
  split
  · rfl
  · next hst => simp [h.resolve_left (by simpa using hst)]

theorem acceptance_loan_of_not_free (h : v.free = false) : acceptance 1#32 v = .bad ∧ acceptance 0#32 v = .bad := by
  simp [acceptance, h]

theorem acceptance_return_of_not_live (h : v.live = false) : acceptance 2#32 v = .bad ∧ acceptance 3#32 v = .bad := by
  simp [acceptance, h]

/-- A word above the four request values is not accepted in any state. -/
theorem acceptance_of_large (h : 3 < w.toNat) : acceptance w v = .bad := by
  have hne (k : Nat) (hk : k ≤ 3) : w ≠ BitVec.ofNat 32 k := by
    rintro rfl
    simp only [BitVec.toNat_ofNat] at h
    omega
  simp [acceptance, hne 0 (by decide), hne 1 (by decide), hne 2 (by decide), hne 3 (by decide)]

/-- A write to a loan slot's status word that Table 1-3 does not accept, or that is partial, only reports. -/
theorem arriveWrite_badRequest (h : LoanWriteJudged s addr i v) (hb : st ≠ fullWord ∨ acceptance w v = .bad) :
    ∃ t, arriveWrite addr w st s = .next t ∧ Suppressed s addr t := by
  refine ⟨_, ?_, refuseWrite_suppressed (a := ⟨true, addr, w, st⟩) rfl h.1.1.2.2.1⟩
  rw [arriveWrite_loan h, judgeRequest_refused hb]

/-- A partial command is suppressed. -/
theorem arriveWrite_partialCommand (h : StatusWriteJudged s addr 2) (hst : st ≠ fullWord) :
    ∃ t, arriveWrite addr w st s = .next t ∧ Suppressed s addr t := by
  refine ⟨_, ?_, refuseWrite_suppressed (a := ⟨true, addr, w, st⟩) rfl h.1.1.2.2.1⟩
  rw [arriveWrite_status h]
  simp [statusWrite, commandWrite, hst]

/-- A command that its owner refuses is rewritten to 0. -/
theorem arriveWrite_refusedCommand (h : StatusWriteJudged s addr 2) (hw : w ≠ 0#32)
    (hrun : ∀ t : State, t.upload = s.upload → t.visit = s.visit → t.calendar = s.calendar →
      runCommand addr w.toNat t = badRequest addr t) :
    ∃ t, arriveWrite addr w fullWord s = .next t ∧ Zeroed s addr t := by
  refine ⟨_, ?_, rewrite_zeroed (a := ⟨true, addr, w, fullWord⟩) rfl rfl h.1.1.2.2.1⟩
  rw [arriveWrite_command h hw, hrun (rewrite _ 0#32 s) rfl rfl rfl]

end

/-- The copies of a SET_CLOCK that is refused (R48). -/
theorem copiesGood_eq_false {c : Calendar} (h : c.mark3 = false ∨ c.mark4 = false ∨ 36524 < c.copy3.toNat ∨
    1439 < field c.copy4 0 16 ∨ 59 < field c.copy4 16 8) : copiesGood c = false := by
  simp only [copiesGood, timeInRange, Config.lastDay, Config.lastMinute]
  rcases h with h | h | h | h | h <;> simp [h]

/-- Settles O11. -/
theorem refusedWritesOnlyReport : Obligations.RefusedWritesOnlyReport := by
  intro s addr st suppressed zeroed
  refine ⟨fun i now h => ?_, fun b amount h hst => ?_, fun h => ⟨fun hst => ?_, fun hu => ?_, fun hl => ?_, fun hc => ?_, fun code hc => ?_⟩⟩
  · have notFree (hn : now = .lent ∨ now = .overdue ∨ now = .inProgress) : now.free = false := by
      rcases hn with rfl | rfl | rfl <;> rfl
    have notLive (hn : ¬ (now = .lent ∨ now = .overdue)) : now.live = false := by
      simpa using mt (LoanState.live_iff now).mp hn
    refine ⟨fun hb => ?_, fun hb => ?_, fun hb => ?_, fun hb => ?_, fun c code hc hb => ?_⟩
    · exact arriveWrite_badRequest h (hb.imp_right fun hn => (acceptance_loan_of_not_free (notFree hn)).1)
    · exact arriveWrite_badRequest h (hb.imp_right fun hn => (acceptance_loan_of_not_free (notFree hn)).2)
    · exact arriveWrite_badRequest h (hb.imp_right fun hn => (acceptance_return_of_not_live (notLive hn)).1)
    · exact arriveWrite_badRequest h (hb.imp_right fun hn => (acceptance_return_of_not_live (notLive hn)).2)
    · show ∃ t, exec c s = .next t ∧ Suppressed s addr t
      rw [exec_of_accessOf hc]
      exact arriveWrite_badRequest h (hb.imp_right acceptance_of_large)
  · refine ⟨_, (arriveWrite_payment (data := amount) (st := st) h).trans ?_,
      refuseWrite_suppressed (a := ⟨true, addr, amount, st⟩) rfl h.1.1.2.2.1⟩
    simp [paymentWrite, hst]
  · exact ⟨arriveWrite_partialCommand h hst, arriveWrite_partialCommand h hst, arriveWrite_partialCommand h hst,
      arriveWrite_partialCommand h hst, arriveWrite_partialCommand h hst, fun _ => arriveWrite_partialCommand h hst⟩
  · refine arriveWrite_refusedCommand h (w := 1#32) (by decide) fun t ht _ _ => ?_
    exact if_neg (by rw [ht]; exact hu)
  · refine arriveWrite_refusedCommand h (w := 2#32) (by decide) fun t _ ht _ => ?_
    show reprintCommand addr t = _
    unfold reprintCommand
    rw [ht]
    rcases hl with hl | hl
    · simp [hl]
    · cases s.visit.lastSlip
      · rfl
      · exact if_pos hl
  · refine arriveWrite_refusedCommand h (w := 5#32) (by decide) fun t _ _ ht => ?_
    show setClockCommand addr t = _
    simp only [setClockCommand, ht, copiesGood_eq_false hc, Bool.false_eq_true, if_false]
  · have hne : code ≠ 0#32 := by rintro rfl; simp at hc
    refine arriveWrite_refusedCommand h hne fun t _ _ _ => ?_
    obtain ⟨n, hn⟩ : ∃ n, code.toNat = n + 6 := ⟨code.toNat - 6, by omega⟩
    rw [hn]
    rfl

end Sys2Proof.Machine

/-! PROOFS. The commands that are accepted: UPLOAD_NOW, REPRINT, CLEAR_STAMPS and SET_CLOCK (Chapters 3, 7, 8, 9, 11). -/

namespace Sys2Proof.Machine

/-! ### The upload word (R152) -/

theorem produce_grows (o : GroupOwner) (ws : List (Nat × Word)) (b : Bool) (s : State) : PathGrows s (produce o ws b s) :=
  pathGrows_of_still (by simp [StorePath.still]) (produce_grown ..)

theorem raise_grows (e : Event) (d : Nat) (s : State) : PathGrows s (raise e d s) :=
  pathGrows_of_still (raise_still ..) (raise_grown ..)

theorem PathGrows.of_path {s t : State} (h : t.path = s.path) : PathGrows s t :=
  pathGrows_of_still (by rw [h]) (by rw [Grown, h])

theorem reportUpload_grows (b s : State) : PathGrows s (reportUpload b s) :=
  pathGrows_of_still (by simp [StorePath.still]) (reportUpload_grown ..)

theorem reportVisit_grows (b s : State) : PathGrows s (reportVisit b s) :=
  pathGrows_of_still (by simp [StorePath.still]) (reportVisit_grown ..)

/-- The three bits of the state in the upload word. -/
theorem uploadWord_state_bits (u : Upload) {k : Nat} (hk : k < 3) : (uploadWord u).getLsbD (17 + k) = u.state.code.testBit k := by
  have h1 : ¬ 17 + k < 16 := by omega
  have h2 : ¬ 17 + k < 17 := by omega
  have h3 : 17 + k < 20 := by omega
  have h4 : ¬ 20 ≤ 17 + k := by omega
  have h5 : 17 + k < 32 := by omega
  simp only [uploadWord, BitVec.getLsbD_or, put_getLsbD]
  simp [h1, h2, h3, h4, h5]

theorem UploadState.eq_of_bits {a b : UploadState} (h : ∀ k, k < 3 → a.code.testBit k = b.code.testBit k) : a = b := by
  have h0 := h 0 (by decide)
  have h1 := h 1 (by decide)
  have h2 := h 2 (by decide)
  revert h0 h1 h2
  cases a <;> cases b <;> decide

/-- A change of the upload state changes the upload word. -/
theorem uploadWord_ne {u v : Upload} (h : u.state ≠ v.state) : uploadWord u ≠ uploadWord v := fun he =>
  h (UploadState.eq_of_bits fun k hk => by rw [← uploadWord_state_bits u hk, ← uploadWord_state_bits v hk, he])

/-! ### The start of an upload (R142, R143) -/

/-- The fields of a HELLO are the profile's and the journal's. -/
theorem helloPayload_congr {s t : State} (hp : t.profile = s.profile) (hj : t.journal = s.journal) :
    helloPayload t = helloPayload s := by
  simp only [helloPayload, State.active, State.present, hp, hj]

/-- The HELLO frame of a state. -/
def helloFrame (s : State) : TxFrame := ⟨.hello, frameBytes typeHello (helloPayload s)⟩

/-- The Upload Engine that waits for the line. -/
def Upload.waiting (u : Upload) : Upload := { u with state := .waitLine, ackTimer := false }

/-- The Upload Engine that has sent HELLO. -/
def Upload.greeting (u : Upload) (s : State) : Upload :=
  { u with state := .helloSent, ackTimer := false, tx := u.tx ++ [helloFrame s] }

theorem sendHello_upload (s : State) : (sendHello s).upload = s.upload.greeting s := rfl

/-- WAIT_LINE is entered, and left at once with HELLO when UPL_READY is asserted. -/
theorem enterWaitLine_upload (before s : State) : (enterWaitLine before s).upload =
    if s.pins.uplReady then s.upload.greeting s else s.upload.waiting := by
  simp only [enterWaitLine]
  split
  · next h =>
    have hr : s.pins.uplReady = true := by simpa using h
    rw [if_pos hr, (reportUpload_keeps ..).2.2.2.2.2.2.2.1, sendHello_upload]
    simp only [Upload.greeting, helloFrame]
    rw [helloPayload_congr (s := s) (by simp) (by simp)]
    simp
  · next h =>
    have hr : ¬ s.pins.uplReady = true := by simpa using h
    rw [if_neg hr]
    simp [Upload.waiting]

/-- The upload word reports WAIT_LINE, and HELLO_SENT when it follows at once. -/
theorem enterWaitLine_posts {before s : State} (h : before.upload.state ≠ .waitLine) : Posts s (enterWaitLine before s)
    ((19, uploadWord s.upload.waiting) ::
      if s.pins.uplReady then [(19, uploadWord (enterWaitLine before s).upload)] else []) := by
  have h0 : Posts s (s.setUpload s.upload.waiting) [] := .of_path rfl rfl rfl rfl
  have h1 : Posts s (reportUpload before (s.setUpload s.upload.waiting)) [(19, uploadWord s.upload.waiting)] := by
    have hne : uploadWord s.upload.waiting ≠ uploadWord before.upload := uploadWord_ne fun he => h he.symm
    have := reportUpload_posts before (s.setUpload s.upload.waiting)
    rw [State.setUpload_upload, if_neg hne] at this
    exact h0.after this
  by_cases hr : s.pins.uplReady = true
  · have hready : (reportUpload before (s.setUpload s.upload.waiting)).pins.uplReady = true := by simpa using hr
    have he : enterWaitLine before s = reportUpload (reportUpload before (s.setUpload s.upload.waiting))
        (sendHello (reportUpload before (s.setUpload s.upload.waiting))) := by
      simp only [enterWaitLine]
      exact if_pos hready
    have hne : uploadWord (sendHello (reportUpload before (s.setUpload s.upload.waiting))).upload ≠
        uploadWord (reportUpload before (s.setUpload s.upload.waiting)).upload := by
      refine uploadWord_ne ?_
      rw [sendHello_upload, (reportUpload_keeps ..).2.2.2.2.2.2.2.1]
      exact fun hc => by cases hc
    have h2 := reportUpload_posts (reportUpload before (s.setUpload s.upload.waiting))
      (sendHello (reportUpload before (s.setUpload s.upload.waiting)))
    rw [if_neg hne] at h2
    have h3 : Posts (reportUpload before (s.setUpload s.upload.waiting))
        (sendHello (reportUpload before (s.setUpload s.upload.waiting))) [] := .of_path rfl rfl rfl rfl
    rw [if_pos hr, he, (reportUpload_keeps ..).2.2.2.2.2.2.2.1]
    exact h1.trans (h3.after h2)
  · have hready : ¬ (reportUpload before (s.setUpload s.upload.waiting)).pins.uplReady = true := by simpa using hr
    have he : enterWaitLine before s = reportUpload before (s.setUpload s.upload.waiting) := by
      simp only [enterWaitLine]
      exact if_neg hready
    rw [if_neg hr, he]
    exact h1

theorem setUpload_grows (u : Upload) (s : State) : PathGrows s (s.setUpload u) := .of_path rfl

theorem sendHello_grows (s : State) : PathGrows s (sendHello s) := .of_path rfl

theorem enterWaitLine_grows (before s : State) : PathGrows s (enterWaitLine before s) := by
  simp only [enterWaitLine]
  split
  · refine .trans ?_ (reportUpload_grows ..)
    exact ((setUpload_grows ..).trans (reportUpload_grows ..)).trans (sendHello_grows _)
  · exact (setUpload_grows ..).trans (reportUpload_grows ..)

/-- Settles O28. -/
theorem uploadNowStarts : Obligations.UploadNowStarts := by
  intro s addr h hi u begun
  have hexec : exec (.uploadNow addr fullWord) s =
      .next (endAct (startUpload (rewrite ⟨true, addr, 1#32, fullWord⟩ 0#32 s))) := by
    refine (arriveWrite_command h (code := 1#32) (by decide)).trans ?_
    have hc : runCommand addr (1#32).toNat (rewrite ⟨true, addr, 1#32, fullWord⟩ 0#32 s) =
        startUpload (rewrite ⟨true, addr, 1#32, fullWord⟩ 0#32 s) := if_pos hi
    rw [hc]
  obtain ⟨r, hr⟩ : ∃ r, r = (rewrite ⟨true, addr, 1#32, fullWord⟩ 0#32 s).setUpload (s.upload.begun s.active.upload) := ⟨_, rfl⟩
  have hstart : startUpload (rewrite ⟨true, addr, 1#32, fullWord⟩ 0#32 s) =
      enterWaitLine (rewrite ⟨true, addr, 1#32, fullWord⟩ 0#32 s) r := by rw [hr]; rfl
  have hup : (enterWaitLine (rewrite ⟨true, addr, 1#32, fullWord⟩ 0#32 s) r).upload = (if s.pins.uplReady then
      begun .helloSent (s.upload.tx ++ [⟨.hello, frameBytes 1#8 (helloPayload s)⟩]) else begun .waitLine s.upload.tx) := by
    rw [enterWaitLine_upload, hr]
    rfl
  have hposts := enterWaitLine_posts (before := rewrite ⟨true, addr, 1#32, fullWord⟩ 0#32 s) (s := r) (by
    show s.upload.state ≠ _
    rw [hi]
    decide)
  have hsr : Posts s r [] := by rw [hr]; exact .of_path rfl rfl rfl rfl
  have hgrow := (enterWaitLine_grows (rewrite ⟨true, addr, 1#32, fullWord⟩ 0#32 s) r).trans (endAct_grows _)
  rw [hstart] at hexec
  refine ⟨_, hexec, fun b hb => ?_, ?_, ?_, ?_, ?_, ?_⟩
  · cases b <;> simp at hb <;> simp [SameBlock, hr]
  · exact hgrow.keeps_of_upstream (by rw [hr]; rfl) (by rw [hr]; exact ⟨rfl, rfl, rfl, rfl, rfl, rfl, rfl⟩)
  · rw [hgrow.2.1, hr]
    rfl
  · rw [hgrow.2.2, hr]
    rfl
  · rw [(endAct_keeps _).2.2.2.2.2.2.2.1, hup]
  · have hq := ((hsr.after hposts).keep (endAct_posts _)).queues h.1.1.2.2.1
    rw [(endAct_keeps _).2.2.2.2.2.2.2.1]
    have hw : r.upload.waiting = begun .waitLine s.upload.tx := by rw [hr]; rfl
    have hpin : r.pins.uplReady = s.pins.uplReady := by rw [hr]; rfl
    rwa [hw, hpin] at hq

end Sys2Proof.Machine

/-! PROOFS. What the acts of the visits and of the command word report: REPRINT, CLEAR_STAMPS, SET_CLOCK and the
current-patron word (Chapters 3, 7, 11). -/

namespace Sys2Proof.Machine

/-- From `s` to `t` the STATUS words `ws` are posted, and the rest of the Store Path stands. -/
structure Reports (s t : State) (ws : List (Nat × Word)) : Prop where
  posts : Posts s t ws
  grows : PathGrows s t

section
variable {s r t u : State} {ws vs : List (Nat × Word)}

theorem Reports.trans (h : Reports s t ws) (k : Reports t u vs) : Reports s u (ws ++ vs) :=
  ⟨h.posts.trans k.posts, h.grows.trans k.grows⟩

theorem Reports.keep (h : Reports s t ws) (k : Reports t u []) : Reports s u ws := ⟨h.posts.keep k.posts, h.grows.trans k.grows⟩

theorem Reports.after (h : Reports s t []) (k : Reports t u ws) : Reports s u ws := h.trans k

/-- An act that leaves the Store Path and the window reports nothing. -/
theorem Reports.of_path (hp : t.path = s.path) (ha : t.active.statusWin = s.active.statusWin) : Reports s t [] :=
  ⟨.of_path (by rw [hp]) (by rw [hp]) (by rw [hp]) ha, .of_path hp⟩

theorem Reports.refl (s : State) : Reports s s [] := .of_path rfl rfl

/-- What an act reports once it has judged its upstream access. -/
theorem Reports.judged (h : Reports r t ws) {up : Upstream} (hp : r.path = { s.path with upstream := up })
    (ha : r.active.statusWin = s.active.statusWin) (hr : s.path.state = .running) :
    PathKeeps s t ∧ t.path.upstream = up ∧ t.path.completion = s.path.completion ∧ Queues s t ws := by
  have hsr : Posts s r [] := .of_path (by rw [hp]) (by rw [hp]) (by rw [hp]) ha
  refine ⟨h.grows.keeps_of_upstream (by rw [hp]) (by rw [hp]; exact ⟨rfl, rfl, rfl, rfl, rfl, rfl, rfl⟩), ?_, ?_,
    (hsr.after h.posts).queues hr⟩
  · rw [h.grows.2.1, hp]
  · rw [h.grows.2.2, hp]

theorem endAct_reports (s : State) : Reports s (endAct s) [] := ⟨endAct_posts s, endAct_grows s⟩

theorem produce_reports (o : GroupOwner) (ws : List (Nat × Word)) (b : Bool) (s : State) : Reports s (produce o ws b s) ws :=
  ⟨produce_posts .., produce_grows ..⟩

theorem raise_reports {e : Event} (h : e.record = none) (d : Nat) (s : State) : Reports s (raise e d s) [] :=
  ⟨raise_posts h, raise_grows ..⟩

theorem raise_reports_stamp {e : Event} {k : Nat} (h : e.record = some k) (d : Nat) (s : State) :
    Reports s (raise e d s) (stampMirror (raise e d s).events k) := ⟨raise_posts_stamp h, raise_grows ..⟩

theorem badRequest_reports (a : Addr) (s : State) : Reports s (badRequest a s) (stampMirror (badRequest a s).events 2) :=
  ⟨badRequest_posts .., badRequest_grows ..⟩

theorem reportVisit_reports (b s : State) : Reports s (reportVisit b s)
    (if visitWord s.visit = visitWord b.visit then [] else [(23, visitWord s.visit)]) :=
  ⟨reportVisit_posts .., reportVisit_grows ..⟩

theorem reportUpload_reports (b s : State) : Reports s (reportUpload b s)
    (if uploadWord s.upload = uploadWord b.upload then [] else [(19, uploadWord s.upload)]) :=
  ⟨reportUpload_posts .., reportUpload_grows ..⟩

/-- A change of the visit word that is known to be one is reported. -/
theorem reportVisit_reports_of_ne {b s : State} (h : visitWord s.visit ≠ visitWord b.visit) :
    Reports s (reportVisit b s) [(23, visitWord s.visit)] := by
  have := reportVisit_reports b s
  rwa [if_neg h] at this

theorem writeClockMirror_grows (s : State) : PathGrows s (writeClockMirror s) := by
  unfold writeClockMirror
  split
  · exact produce_grows ..
  · exact .of_path rfl

theorem writeClockMirror_reports {s : State} (h : s.running = true) :
    Reports s (writeClockMirror s) (clockPair s.calendar) := ⟨writeClockMirror_posts h, writeClockMirror_grows s⟩

theorem setVisit_reports (v : VisitUnit) (s : State) : Reports s (s.setVisit v) [] := .of_path rfl rfl

theorem setEngine_reports (e : Engine) (s : State) : Reports s (s.setEngine e) [] := .of_path rfl rfl

theorem setUpload_reports (u : Upload) (s : State) : Reports s (s.setUpload u) [] := .of_path rfl rfl

theorem setEvents_reports (u : EventUnit) (s : State) : Reports s (s.setEvents u) [] := .of_path rfl rfl

theorem loadTimer_reports (s : State) : Reports s (loadTimer s) [] := setVisit_reports ..

theorem setPatronCopy_reports (w : Word) (s : State) : Reports s (setPatronCopy w s) [] := setVisit_reports ..

theorem queuePatronOpen_reports (b : Nat) (s : State) : Reports s (queuePatronOpen b s) [] := .of_path rfl rfl

theorem askSlip_reports (v : Visit) (b : Bool) (s : State) : Reports s (askSlip v b s) [] := by
  unfold askSlip
  split
  · exact raise_reports rfl ..
  · exact setVisit_reports ..

theorem askSlipIfEnabled_reports (v : Visit) (b : Bool) (s : State) : Reports s (askSlipIfEnabled v b s) [] := by
  unfold askSlipIfEnabled
  split
  · exact askSlip_reports ..
  · exact .refl s

theorem startPrinter_reports (s : State) : Reports s (startPrinter s) [] := by
  unfold startPrinter
  split
  · split
    · exact .refl s
    · split
      · exact (setVisit_reports ..).after (raise_reports rfl ..)
      · exact setVisit_reports ..
  · exact .refl s

end

/-! ### The printer (R126, R127) and REPRINT (R129) -/

/-- The three bits of the slips queued in the visit word. -/
theorem visitWord_slips_bits (v : VisitUnit) {k : Nat} (hk : k < 3) :
    (visitWord v).getLsbD (8 + k) = v.slips.length.testBit k := by
  have h1 : ¬ 8 + k < 2 := by omega
  have h2 : ¬ 8 + k < 2 + 5 := by omega
  have h3 : ¬ 8 + k < 7 + 1 := by omega
  have h4 : 8 + k < 8 + 3 := by omega
  have h5 : ¬ 11 ≤ 8 + k := by omega
  have h6 : ¬ 12 ≤ 8 + k := by omega
  have h7 : 8 + k < 32 := by omega
  simp only [visitWord, BitVec.getLsbD_or, put_getLsbD]
  simp [h1, h2, h3, h4, h5, h6, h7]

/-- The visit word tells the numbers of slips of the queue apart. -/
theorem visitWord_ne_of_slips {v w : VisitUnit} (hv : v.slips.length < 8) (hw : w.slips.length < 8)
    (h : v.slips.length ≠ w.slips.length) : visitWord v ≠ visitWord w := by
  intro he
  refine h (Nat.eq_of_testBit_eq fun k => ?_)
  by_cases hk : k < 3
  · rw [← visitWord_slips_bits v hk, ← visitWord_slips_bits w hk, he]
  · have hpow : 2 ^ 3 ≤ 2 ^ k := Nat.pow_le_pow_right (by decide) (Nat.not_lt.mp hk)
    rw [Nat.testBit_lt_two_pow (Nat.lt_of_lt_of_le hv hpow), Nat.testBit_lt_two_pow (Nat.lt_of_lt_of_le hw hpow)]

/-- The printer of a running part goes on from IDLE. -/
theorem startPrinter_goesOn {s : State} (h : s.running = true) : PrinterGoesOn s (startPrinter s) s.visit := by
  refine ⟨fun text rest hi hs => ⟨fun hp => ?_, fun hp => ?_⟩, fun hn => ?_⟩
  · simp [startPrinter, hi, hs, h, hp]
  · simp [startPrinter, hi, hs, h, hp, raise_plain (e := .paperOut) rfl, EventUnit.latch, Event.place]
  · unfold startPrinter
    split
    · next hi hs => exact absurd hs (hn.resolve_left (by simpa using hi) _ _)
    · exact ⟨rfl, rfl⟩

/-- What the printer goes on from is the lines, the rate and the events. -/
theorem PrinterGoesOn.congr {s r t u : State} {v : VisitUnit} (h : PrinterGoesOn r t v) (hp : r.pins = s.pins)
    (ha : r.profile = s.profile) (he : r.events = s.events) (hv : u.visit = t.visit) (hu : u.events = t.events) :
    PrinterGoesOn s u v := by
  simpa only [PrinterGoesOn, State.active, hp, ha, he, hv, hu] using h

/-- Settles O29. -/
theorem reprintQueuesLastSlip : Obligations.ReprintQueuesLastSlip := by
  intro s addr text h hlast hl
  obtain ⟨r, hr⟩ : ∃ r, r = rewrite ⟨true, addr, 2#32, fullWord⟩ 0#32 s := ⟨_, rfl⟩
  have hexec : exec (.reprint addr fullWord) s = .next (endAct (queueReady text r)) := by
    refine (arriveWrite_command h (code := 2#32) (by decide)).trans ?_
    rw [← hr]
    have hc : runCommand addr (2#32).toNat r = reprintCommand addr r := rfl
    have hv : r.visit = s.visit := by rw [hr]; rfl
    rw [hc, reprintCommand, hv, hlast]
    exact congrArg (fun t => Host.Outcome.next (endAct t)) (if_neg (Nat.not_le.mpr hl))
  have hrun : s.path.state = .running := h.1.1.2.2.1
  obtain ⟨v, hv⟩ : ∃ v : VisitUnit, v = { s.visit with slips := s.visit.slips ++ [.ready text] } := ⟨_, rfl⟩
  obtain ⟨m, hm⟩ : ∃ m, m = reportVisit r (r.setVisit v) := ⟨_, rfl⟩
  have hready : queueReady text r = reportVisit m (startPrinter m) := by rw [hm, hv, hr]; rfl
  have hne : visitWord v ≠ visitWord s.visit := by
    have hlen : v.slips.length = s.visit.slips.length + 1 := by rw [hv]; simp
    exact visitWord_ne_of_slips (by omega) (by omega) (by omega)
  have hrm : Reports r m [(23, visitWord v)] := by
    have : Reports (r.setVisit v) m [(23, visitWord v)] := by
      rw [hm]
      exact reportVisit_reports_of_ne (by rw [hr]; exact hne)
    exact (setVisit_reports ..).after this
  have hmv : m.visit = v := by rw [hm]; simp
  have hall : Reports r (endAct (reportVisit m (startPrinter m))) ([(23, visitWord v)] ++
      if visitWord (startPrinter m).visit = visitWord m.visit then [] else [(23, visitWord (startPrinter m).visit)]) :=
    ((hrm.trans ((startPrinter_reports m).after (reportVisit_reports m _)))).keep (endAct_reports _)
  rw [hready] at hexec
  obtain ⟨hkeeps, hup, hcomp, hq⟩ := hall.judged (s := s) (up := .forwarded ⟨true, addr, 0#32, fullWord⟩) (by rw [hr]; rfl)
    (by rw [hr]; rfl) hrun
  refine ⟨_, hexec, fun b hb => ?_, hkeeps, hup, hcomp, ?_⟩
  · cases b <;> simp at hb <;> simp [SameBlock, hm, hr]
  · intro queued
    have hqueued : queued = v := hv.symm
    rw [hqueued]
    constructor
    · have hgo := startPrinter_goesOn (s := m) (by rw [hm, hr]; simp [State.running, hrun])
      rw [hmv] at hgo
      exact hgo.congr (by simp [hm, hr]) (by simp [hm, hr]) (by simp [hm, hr]) (by simp) (by simp)
    · have hvis : (endAct (reportVisit m (startPrinter m))).visit = (startPrinter m).visit := by simp
      rw [hvis]
      rw [hmv] at hq
      exact hq

/-- The mirror words of a cleared record. -/
theorem stampMirror_cleared {u : EventUnit} (h : u.stamps = EventUnit.fresh.stamps) {k : Nat} (hk : k < 4) :
    stampMirror u k = [(24 + 2 * k, 0#32), (25 + 2 * k, 0#32)] := by
  have hs : u.stamp k = clearedStamp := by
    rw [EventUnit.stamp, h]
    interval_cases k <;> rfl
  have h0 : nth clearedStamp.words 0 = 0#32 := by decide
  have h1 : nth clearedStamp.words 1 = 0#32 := by decide
  rw [stampMirror, hs, h0, h1]

/-- CLEAR_STAMPS posts eight words of 0 (R186). -/
theorem clearStamps_eq (s : State) : clearStamps s = produce .clearStamps ((List.range 8).map fun k => (24 + k, 0#32)) false
    (s.setEvents { s.events with stamps := EventUnit.fresh.stamps }) := by
  have hm (k : Nat) (hk : k < 4) := stampMirror_cleared (u := { s.events with stamps := EventUnit.fresh.stamps }) rfl hk
  simp only [clearStamps, hm 0 (by decide), hm 1 (by decide), hm 2 (by decide), hm 3 (by decide)]
  rfl

/-- Settles O31. -/
theorem clearStampsClears : Obligations.ClearStampsClears := by
  intro s addr h
  obtain ⟨r, hr⟩ : ∃ r, r = rewrite ⟨true, addr, 4#32, fullWord⟩ 0#32 s := ⟨_, rfl⟩
  have hexec : exec (.clearStamps addr fullWord) s = .next (endAct (clearStamps r)) := by
    rw [hr]
    exact arriveWrite_command h (code := 4#32) (by decide)
  have hwords : Reports r (clearStamps r) ((List.range 8).map fun k => (24 + k, 0#32)) := by
    rw [clearStamps_eq]
    exact (setEvents_reports ..).after (produce_reports ..)
  obtain ⟨hkeeps, hup, hcomp, hq⟩ := (hwords.keep (endAct_reports _)).judged (s := s)
    (up := .forwarded ⟨true, addr, 0#32, fullWord⟩) (by rw [hr]; rfl) (by rw [hr]; rfl) h.1.1.2.2.1
  refine ⟨_, hexec, fun b hb => ?_, hkeeps, hup, hcomp, ?_, hq⟩
  · cases b <;> simp at hb <;> simp [SameBlock, hr]
  · simp [clearStamps_eq, hr]
    rfl

end Sys2Proof.Machine

/-! PROOFS. The desk clock: a set, its entry and its rollover notice, and the advance by a second (Chapter 3). -/

namespace Sys2Proof.Machine

/-! ### JOURNAL_LOST and the system entries (R134, R136) -/

/-- JOURNAL_LOST sets its latch bit and its stamp. -/
theorem raise_journalLost_events (d : Nat) (s : State) : (raise .journalLost d s).events =
    { s.events with
      latchB := s.events.latchB ||| 128#12
      stamps := s.events.stamps.set 3 ((s.events.stamp 3).note s.active.stampLast s.reading d) } := by
  simp [raise, Event.record, stampEvent, EventUnit.latch, Event.place, EventUnit.stamp, State.reading, State.active]

theorem systemEntry_room {e : JEntry} {s : State} (h : s.journal.systemQueue.length < 4) : systemEntry e s =
    beginWait .systemEntry [] false (s.setJournal { s.journal with systemQueue := s.journal.systemQueue ++ [e] }) :=
  if_pos h

theorem systemEntry_full {e : JEntry} {s : State} (h : 4 ≤ s.journal.systemQueue.length) : systemEntry e s =
    raise .journalLost (lostAddress s) (produce .lossCount [(20, lossWord (countLoss s).journal)] false (countLoss s)) :=
  if_neg (Nat.not_lt.mpr h)

/-- A system entry joins its queue, or raises the loss count when the queue is full. -/
theorem systemEntry_journal (e : JEntry) (s : State) : (systemEntry e s).journal =
    if s.journal.systemQueue.length < 4 then { s.journal with systemQueue := s.journal.systemQueue ++ [e] }
    else { s.journal with lossCount := min (s.journal.lossCount + 1) 65535 } := by
  by_cases h : s.journal.systemQueue.length < 4
  · rw [systemEntry_room h, if_pos h]
    simp
  · rw [systemEntry_full (Nat.not_lt.mp h), if_neg h]
    simp [countLoss]

/-- A system entry changes no latch, but for JOURNAL_LOST when its queue is full. -/
theorem systemEntry_latches (e : JEntry) (s : State) : (systemEntry e s).events.latchA = s.events.latchA ∧
    (systemEntry e s).events.latchB =
      s.events.latchB ||| (if 4 ≤ s.journal.systemQueue.length then 128#12 else 0#12) := by
  by_cases h : s.journal.systemQueue.length < 4
  · rw [systemEntry_room h, if_neg (Nat.not_le.mpr h)]
    simp
  · rw [systemEntry_full (Nat.not_lt.mp h), raise_journalLost_events, if_pos (Nat.not_lt.mp h)]
    simp

/-! ### Sweeps that start (R81, R87) -/

/-- A sweep that has slots left does not end. -/
theorem endIfDone_of_lt {s : State} (h : s.engine.sweep.cursor < s.active.loanCount) : endIfDone s = s := by
  simp [endIfDone, Nat.not_le.mpr h]

/-- A running sweep whose cursor has reached the slot count ends. -/
theorem endIfDone_of_le {s : State} (hr : s.engine.sweep.state = .running) (h : s.active.loanCount ≤ s.engine.sweep.cursor) :
    endIfDone s = sweepEnd s := by
  simp [endIfDone, hr, h]

/-- The end of a sweep raises SWEEP_DONE. -/
theorem sweepEnd_events (s : State) : (sweepEnd s).events = { s.events with latchA := s.events.latchA ||| 16384#15 } := by
  simp [sweepEnd, raise_plain (e := .sweepDone) rfl, EventUnit.latch, Event.place]

/-- The sweep record that a notice leaves while slots are to be swept. -/
def Sweep.noticed (sw : Sweep) (i : Instant) : Sweep :=
  { sw with
    state := .running
    cursor := 0
    target := some i
    marks := if sw.state = .idle then 0 else sw.marks
    recovery := if sw.state = .idle then false else sw.recovery
    restarted := decide (sw.state ≠ .idle) }

/-- A notice starts or restarts the sweep, which over no loan slot ends in the same act. -/
theorem rolloverNotice_eq (i : Instant) (s : State) :
    rolloverNotice i s = endIfDone (setSweep (s.engine.sweep.noticed i) s) := by
  unfold rolloverNotice
  split
  · next h => simp [sweepBegin, Sweep.noticed, h]
  · next h => simp [sweepRestart, Sweep.noticed, h]

/-- A notice is heeded (R51). -/
def Heeds (s : State) (i : Instant) : Prop := s.running = true ∧ s.service = true ∧ s.engine.sweep.lastSwept < i.day

theorem sendNotice_heeded {i : Instant} {s : State} (h : Heeds s i) : sendNotice i s = rolloverNotice i s := by
  obtain ⟨h1, h2, h3⟩ := h
  simp [sendNotice, h1, h2, h3]

theorem sendNotice_unheeded {i : Instant} {s : State} (h : ¬ Heeds s i) : sendNotice i s = s := by
  unfold sendNotice
  split
  · next hc => exact absurd (by simpa [Heeds, and_assoc] using hc) h
  · rfl

/-- A notice heeded while slots are to be swept changes the sweep record alone. -/
theorem sendNotice_sweeps {i : Instant} {s : State} (h : Heeds s i) (hl : 0 < s.active.loanCount) :
    sendNotice i s = setSweep (s.engine.sweep.noticed i) s := by
  rw [sendNotice_heeded h, rolloverNotice_eq]
  exact endIfDone_of_lt hl

/-- A notice heeded over no loan slot raises SWEEP_DONE. -/
theorem sendNotice_ends {i : Instant} {s : State} (h : Heeds s i) (hl : s.active.loanCount = 0) :
    (sendNotice i s).events = { s.events with latchA := s.events.latchA ||| 16384#15 } := by
  rw [sendNotice_heeded h, rolloverNotice_eq,
    endIfDone_of_le (s := setSweep (s.engine.sweep.noticed i) s) rfl (Nat.le_of_eq hl), sweepEnd_events]
  rfl

/-- The latches once a notice has been sent. -/
theorem sendNotice_latches (i : Instant) (s : State) [Decidable (Heeds s i)] :
    (sendNotice i s).events.latchA = s.events.latchA ||| (if Heeds s i ∧ s.active.loanCount = 0 then 16384#15 else 0#15) ∧
      (sendNotice i s).events.latchB = s.events.latchB := by
  by_cases h : Heeds s i
  · by_cases hl : s.active.loanCount = 0
    · simp [sendNotice_ends h hl, h, hl]
    · simp [sendNotice_sweeps h (Nat.pos_of_ne_zero hl), hl, setSweep]
  · simp [sendNotice_unheeded h, h]

/-! ### A set of the clock (R48 to R51) -/

/-- The Store Path once a set of the clock is done: the mirror stands first (log entry 3). -/
theorem setClock_grows (d m k : Nat) (src : SetSource) (s : State) : PathGrows s (setClock d m k src s) :=
  pathGrows_of_still (by simp [StorePath.still]) (setClock_grown ..)

/-- The state of a set before its notice. -/
def clockPlaced (d m k : Nat) (src : SetSource) (s : State) : State :=
  let s1 := writeClockMirror (placeClock d m k s)
  raise .clockSet 0 (systemEntry (clockSetEntry s1.reading s.reading src) s1)

theorem setClock_eq (d m k : Nat) (src : SetSource) (s : State) : setClock d m k src s =
    if s.calendar.day < d then sendNotice ⟨d, m⟩ (clockPlaced d m k src s) else clockPlaced d m k src s := rfl

section
variable (d m k : Nat) (src : SetSource) (s : State)

theorem setClock_calendar : (setClock d m k src s).calendar =
    { s.calendar with day := d, minute := m, second := k, prescaler := 0, valid := true } := by
  rw [setClock_eq]
  split <;> simp [clockPlaced, placeClock]

theorem setClock_journal : (setClock d m k src s).journal =
    (systemEntry (clockSetEntry ⟨d, m, k, true⟩ s.reading src) s).journal := by
  have h : (setClock d m k src s).journal = (clockPlaced d m k src s).journal := by
    rw [setClock_eq]
    split <;> simp
  rw [h]
  simp [clockPlaced, systemEntry_journal, placeClock, State.reading]

theorem clockPlaced_keeps : (clockPlaced d m k src s).engine = s.engine ∧ (clockPlaced d m k src s).profile = s.profile ∧
    (clockPlaced d m k src s).path.state = s.path.state := by
  simp [clockPlaced, placeClock]

theorem clockPlaced_latches : (clockPlaced d m k src s).events.latchA = s.events.latchA ∧
    (clockPlaced d m k src s).events.latchB =
      s.events.latchB ||| 4#12 ||| (if 4 ≤ s.journal.systemQueue.length then 128#12 else 0#12) := by
  simp only [clockPlaced, raise_plain (e := .clockSet) rfl, EventUnit.latch, Event.place, State.setEvents_events]
  simp [systemEntry_latches, placeClock]
  rw [BitVec.or_assoc, BitVec.or_assoc, BitVec.or_comm (4#12)]

theorem heeds_clockPlaced (i : Instant) : Heeds (clockPlaced d m k src s) i ↔ Heeds s i := by
  have hs : (clockPlaced d m k src s).service = s.service :=
    congrArg (fun p : ProfileUnit => decide (p.active.mode = .service)) (clockPlaced_keeps d m k src s).2.1
  simp only [Heeds, State.running, hs, clockPlaced_keeps]

end

/-- The clock mirror of a set enters an open queue before everything else the set posts. -/
theorem setClock_mirrorFirst {d m k : Nat} {src : SetSource} {s : State} (ho : Open s 2) (hr : s.running = true) :
    ∃ es, (setClock d m k src s).path.pwq =
      s.path.pwq ++ statusEntries s (clockPair (setClock d m k src s).calendar) ++ es := by
  have h1 : Posts (placeClock d m k s) (writeClockMirror (placeClock d m k s)) (clockPair (placeClock d m k s).calendar) :=
    writeClockMirror_posts hr
  have hq := (h1.opened ho).1
  have h2 : Grown (writeClockMirror (placeClock d m k s)) (setClock d m k src s) := by
    have hp : Grown (writeClockMirror (placeClock d m k s)) (clockPlaced d m k src s) :=
      (systemEntry_grown ..).trans (raise_grown ..)
    rw [setClock_eq]
    split
    · exact hp.trans (sendNotice_grown ..)
    · exact hp
  obtain ⟨es, he⟩ := h2.exists
  refine ⟨es, ?_⟩
  rw [he, hq, setClock_calendar]
  rfl

theorem sweepNoticed_engine (i : Instant) (s : State) : (setSweep (s.engine.sweep.noticed i) s).engine =
    { s.engine with sweep := s.engine.sweep.noticed i } := rfl

theorem copiesGood_of_range {c : Calendar} (h3 : c.mark3 = true) (h4 : c.mark4 = true) (hd : c.copy3.toNat ≤ 36524)
    (hm : field c.copy4 0 16 ≤ 1439) (hs : field c.copy4 16 8 ≤ 59) : copiesGood c = true := by
  simp [copiesGood, timeInRange, Config.lastDay, Config.lastMinute, h3, h4, hd, hm, hs]

/-- Settles O32. -/
theorem setClockSets : Obligations.SetClockSets := by
  intro s addr h h3 h4 hd hm hs day minute second entry noticed
  obtain ⟨r, hr⟩ : ∃ r, r = rewrite ⟨true, addr, 5#32, fullWord⟩ 0#32 s := ⟨_, rfl⟩
  have hexec : exec (.setClock addr fullWord) s = .next (endAct (setClock day minute second .command r)) := by
    refine (arriveWrite_command h (code := 5#32) (by decide)).trans ?_
    have hc : runCommand addr (5#32).toNat r = setClockCommand addr r := rfl
    have hcal : r.calendar = s.calendar := by rw [hr]; rfl
    rw [← hr, hc, setClockCommand, hcal]
    exact congrArg (fun t => Host.Outcome.next (endAct t)) (if_pos (copiesGood_of_range h3 h4 hd hm hs))
  have hrun : s.path.state = .running := h.1.1.2.2.1
  have hheeds : s.calendar.day < day → (Heeds (clockPlaced day minute second .command r) ⟨day, minute⟩ ↔
      s.service = true ∧ s.engine.sweep.lastSwept < day) := fun _ => by
    rw [heeds_clockPlaced, hr]
    exact ⟨fun hh => hh.2, fun hh => ⟨by simp [State.running, hrun], hh⟩⟩
  have hset : setClock day minute second .command r = if s.calendar.day < day then
      sendNotice ⟨day, minute⟩ (clockPlaced day minute second .command r) else clockPlaced day minute second .command r := by
    rw [setClock_eq, hr]
    rfl
  have hlc : (clockPlaced day minute second .command r).active.loanCount = s.active.loanCount := by
    simp [State.active, clockPlaced_keeps, hr]
  have hunnoticed (hn : ¬ noticed) :
      setClock day minute second .command r = clockPlaced day minute second .command r := by
    rw [hset]
    split
    · next hlt => exact sendNotice_unheeded (fun hh => hn ⟨hlt, (hheeds hlt).mp hh⟩)
    · rfl
  have hnoticed (hn : noticed) : setClock day minute second .command r =
        sendNotice ⟨day, minute⟩ (clockPlaced day minute second .command r) ∧
      Heeds (clockPlaced day minute second .command r) ⟨day, minute⟩ := by
    rw [hset, if_pos hn.1]
    exact ⟨rfl, (hheeds hn.1).mpr hn.2⟩
  have hj : (setClock day minute second .command r).journal = (systemEntry entry s).journal := by
    have he : entry = clockSetEntry ⟨day, minute, second, true⟩ s.reading .command := by
      cases hv : s.calendar.valid <;> simp [entry, clockSetEntry, plainEntry, SetSource.bit, State.reading, hv, flag] <;> rfl
    rw [setClock_journal, systemEntry_journal, systemEntry_journal, he, hr]
    rfl
  obtain ⟨hA, hB⟩ := clockPlaced_latches day minute second .command r
  have hrev : r.events = s.events ∧ r.journal = s.journal := by rw [hr]; exact ⟨rfl, rfl⟩
  rw [hrev.1] at hA
  rw [hrev.1, hrev.2] at hB
  have hgrow : PathGrows r (endAct (setClock day minute second .command r)) :=
    (setClock_grows ..).trans (endAct_grows _)
  refine ⟨_, hexec, fun b hb => ?_, ?_, ?_, ?_, ?_, ?_, ?_, ?_, ?_, ?_, ?_, ?_⟩
  · cases b <;> simp at hb <;> simp [SameBlock, hr]
  · exact hgrow.keeps_of_upstream (by rw [hr]; rfl) (by rw [hr]; exact ⟨rfl, rfl, rfl, rfl, rfl, rfl, rfl⟩)
  · rw [hgrow.2.1, hr]
    rfl
  · rw [hgrow.2.2, hr]
    rfl
  · simp only [(endAct_keeps _).2.2.2.1, setClock_calendar, hr]
    rfl
  · intro he hw hl
    have ho : Open r 2 := by rw [hr]; exact ⟨he, .inr hrun, hw, by simpa [rewrite, forward] using by omega⟩
    obtain ⟨es, hes⟩ := setClock_mirrorFirst (d := day) (m := minute) (k := second) (src := .command) ho
      (by rw [hr]; simp [State.running, hrun])
    refine ⟨es, ?_⟩
    have hp : r.path.pwq = s.path.pwq := by rw [hr]; rfl
    rw [endAct_pwq, hes, hp, statusEntries_congr (s := s) (by rw [hr]; rfl), (endAct_keeps _).2.2.2.1]
    rfl
  · intro hl
    simp only [(endAct_keeps _).2.2.2.2.2.2.1, hj, systemEntry_journal, if_pos hl]
  · intro hl
    simp only [(endAct_keeps _).2.2.2.2.2.2.1, hj, systemEntry_journal, if_neg (Nat.not_lt.mpr hl)]
  · simp only [(endAct_keeps _).2.2.2.2.2.2.2.2.2.1]
    by_cases hn : noticed
    · obtain ⟨hs, hh⟩ := hnoticed hn
      by_cases hl : s.active.loanCount = 0
      · rw [hs, sendNotice_ends hh (hlc.trans hl), if_pos ⟨hn, hl⟩]
        simp only [hA]
      · rw [hs, sendNotice_sweeps hh (by rw [hlc]; exact Nat.pos_of_ne_zero hl), if_neg (fun hc => hl hc.2)]
        simp [setSweep, hA]
    · rw [hunnoticed hn, if_neg (fun hc => hn hc.1), hA]
      simp
  · simp only [(endAct_keeps _).2.2.2.2.2.2.2.2.2.1]
    by_cases hn : noticed
    · obtain ⟨hs, hh⟩ := hnoticed hn
      by_cases hl : s.active.loanCount = 0
      · rw [hs, sendNotice_ends hh (hlc.trans hl)]
        exact hB
      · rw [hs, sendNotice_sweeps hh (by rw [hlc]; exact Nat.pos_of_ne_zero hl)]
        exact hB
    · rw [hunnoticed hn]
      exact hB
  · intro hn
    rw [(endAct_keeps _).2.2.1, hunnoticed hn, (clockPlaced_keeps ..).1, hr]
    rfl
  · intro hn hl
    obtain ⟨hs, hh⟩ := hnoticed hn
    rw [(endAct_keeps _).2.2.1, hs, sendNotice_sweeps hh (by rw [hlc]; exact hl), sweepNoticed_engine,
      (clockPlaced_keeps ..).1, hr]
    rfl

end Sys2Proof.Machine

/-! PROOFS. The advance of the desk clock, its rollover notice and its alarm (Chapter 3). -/

namespace Sys2Proof.Machine

/-! ### The mirror of the clock (R46) -/

theorem writeClockMirror_stopped {s : State} (h : s.running = false) : writeClockMirror s = s := by simp [writeClockMirror, h]

/-- The mirror of a clock that has moved is posted while the part runs. -/
def ClockMirrored (s t : State) : Prop :=
  (s.path.state = .running → Queues s t (clockPair t.calendar)) ∧
    (s.path.state ≠ .running → t.path = { s.path with fresh := 0 })

/-- The clock placed and its mirror written is an act of the Calendar Unit. -/
theorem clockMirrored (c : Calendar) (s : State) : let t := endAct (writeClockMirror (s.setCalendar c))
    OnlyChanges [.path, .calendar] s t ∧ PathGrows s t ∧ t.calendar = c ∧ ClockMirrored s t := by
  intro t
  have hcal : t.calendar = c := by simp [t]
  refine ⟨fun b hb => ?_, ?_, hcal, fun hr => ?_, fun hr => ?_⟩
  · cases b <;> simp at hb <;> simp [SameBlock, t]
  · exact ((writeClockMirror_grows (s.setCalendar c)).trans (endAct_grows _))
  · rw [hcal]
    have hp : Posts s (s.setCalendar c) [] := .of_path rfl rfl rfl rfl
    have hm := writeClockMirror_posts (s := s.setCalendar c) (by simp [State.running, hr])
    exact ((hp.after hm).keep (endAct_posts _)).queues hr
  · have hn : (s.setCalendar c).running = false := by simp [State.running, hr]
    simp only [t, writeClockMirror_stopped hn]
    rfl

/-! ### The alarm (R60) -/

/-- The clock stands at second 0 of a minute that the alarm names. -/
def AlarmDue (s : State) : Prop :=
  s.path.state = .running ∧ s.calendar.valid = true ∧ s.calendar.second = 0 ∧
    s.active.alarm.weekdays.getLsbD (weekday s.calendar.day) = true ∧
    (s.active.alarm.minuteEnable = true → s.calendar.minute % 60 = s.active.alarm.minute) ∧
    (s.active.alarm.hourEnable = true → s.calendar.minute / 60 = s.active.alarm.hour)

theorem alarmMatches_iff {f : AlarmFields} {c : Calendar} : alarmMatches f c = true ↔
    f.weekdays.getLsbD (weekday c.day) = true ∧ (f.minuteEnable = true → c.minute % 60 = f.minute) ∧
      (f.hourEnable = true → c.minute / 60 = f.hour) := by
  simp only [alarmMatches, Bool.and_eq_true, Bool.or_eq_true, decide_eq_true_eq, Bool.not_eq_true', and_assoc]
  cases f.minuteEnable <;> cases f.hourEnable <;> simp

theorem evaluateAlarm_due {s : State} (h : AlarmDue s) : evaluateAlarm s = alarmFires s := by
  obtain ⟨hr, hv, h0, hw, hm⟩ := h
  have hne : s.active.alarm.weekdays ≠ 0#7 := by
    intro h
    simp [h] at hw
  simp [evaluateAlarm, State.running, hr, hv, h0, hne, alarmMatches_iff.mpr ⟨hw, hm⟩]

theorem evaluateAlarm_not_due {s : State} (h : ¬ AlarmDue s) : evaluateAlarm s = s := by
  unfold evaluateAlarm
  split
  · next hc =>
    simp only [Bool.and_eq_true, decide_eq_true_eq, State.running, alarmMatches_iff] at hc
    exact absurd ⟨hc.1.1.1.1, hc.1.1.1.2, hc.1.1.2, hc.2⟩ h
  · rfl

theorem alarmFires_keeps (s : State) : (alarmFires s).store = s.store ∧ (alarmFires s).pins = s.pins ∧
    (alarmFires s).engine = s.engine ∧ (alarmFires s).calendar = s.calendar ∧ (alarmFires s).wand = s.wand ∧
    (alarmFires s).visit = s.visit ∧ (alarmFires s).journal = s.journal ∧ (alarmFires s).profile = s.profile ∧
    (alarmFires s).pending = s.pending := by
  unfold alarmFires
  split <;> simp

theorem startUpload_grows (s : State) : PathGrows s (startUpload s) := (setUpload_grows ..).trans (enterWaitLine_grows ..)

theorem alarmFires_grows (s : State) : PathGrows s (alarmFires s) := by
  unfold alarmFires
  split
  · exact startUpload_grows s
  · exact raise_grows ..

/-- The alarm of an idle Upload Engine starts an upload. -/
theorem alarmFires_idle {s : State} (h : s.upload.state = .idle) :
    (alarmFires s).upload.state = (if s.pins.uplReady then .helloSent else .waitLine) ∧ (alarmFires s).events = s.events := by
  rw [alarmFires, if_pos h]
  refine ⟨?_, by simp⟩
  rw [startUpload, enterWaitLine_upload]
  cases hr : s.pins.uplReady <;> simp [hr, Upload.greeting, Upload.waiting]

/-- The alarm of a busy Upload Engine is missed. -/
theorem alarmFires_busy {s : State} (h : s.upload.state ≠ .idle) :
    (alarmFires s).upload = s.upload ∧ (alarmFires s).events = { s.events with latchB := s.events.latchB ||| 2048#12 } := by
  rw [alarmFires, if_neg h]
  simp [raise_plain (e := .alarmMissed) rfl, EventUnit.latch, Event.place]

/-- The alarm evaluated is an act of the Upload Engine and its events. -/
theorem evaluateAlarm_keeps (s : State) : (evaluateAlarm s).store = s.store ∧ (evaluateAlarm s).pins = s.pins ∧
    (evaluateAlarm s).engine = s.engine ∧ (evaluateAlarm s).calendar = s.calendar ∧ (evaluateAlarm s).wand = s.wand ∧
    (evaluateAlarm s).visit = s.visit ∧ (evaluateAlarm s).journal = s.journal ∧ (evaluateAlarm s).profile = s.profile ∧
    (evaluateAlarm s).pending = s.pending := by
  by_cases h : AlarmDue s
  · rw [evaluateAlarm_due h]
    exact alarmFires_keeps s
  · simp [evaluateAlarm_not_due h]

theorem evaluateAlarm_grows (s : State) : PathGrows s (evaluateAlarm s) := by
  by_cases h : AlarmDue s
  · rw [evaluateAlarm_due h]
    exact alarmFires_grows s
  · rw [evaluateAlarm_not_due h]
    exact .of_path rfl

/-! ### The turn of a day (R51) -/

theorem sendNotice_grows (i : Instant) (s : State) : PathGrows s (sendNotice i s) :=
  pathGrows_of_still (by simp [StorePath.still]) (sendNotice_grown ..)

theorem rollover_grows (d : Nat) (s : State) : PathGrows s (rollover d s) := by
  unfold rollover
  split
  · exact sendNotice_grows ..
  · exact .of_path rfl

theorem rollover_keeps (d : Nat) (s : State) : (rollover d s).store = s.store ∧ (rollover d s).pins = s.pins ∧
    (rollover d s).calendar = s.calendar ∧ (rollover d s).wand = s.wand ∧ (rollover d s).visit = s.visit ∧
    (rollover d s).journal = s.journal ∧ (rollover d s).upload = s.upload ∧ (rollover d s).profile = s.profile ∧
    (rollover d s).pending = s.pending ∧ (rollover d s).path.state = s.path.state ∧
    (rollover d s).events.latchB = s.events.latchB := by
  classical
  unfold rollover
  split <;> simp [sendNotice_latches]

theorem rollover_same {d : Nat} {s : State} (h : s.calendar.day ≤ d) : rollover d s = s := by
  simp [rollover, Nat.not_lt.mpr h]

/-! ### The advance of a second (R43, R44) -/

/-- The clock after the prescaler's return, with the mirror written. -/
def clockMoved (c : Calendar) (s : State) : State := writeClockMirror (s.setCalendar c)

theorem clockMoved_keeps (c : Calendar) (s : State) : (clockMoved c s).store = s.store ∧ (clockMoved c s).pins = s.pins ∧
    (clockMoved c s).engine = s.engine ∧ (clockMoved c s).calendar = c ∧ (clockMoved c s).wand = s.wand ∧
    (clockMoved c s).visit = s.visit ∧ (clockMoved c s).journal = s.journal ∧ (clockMoved c s).upload = s.upload ∧
    (clockMoved c s).profile = s.profile ∧ (clockMoved c s).events = s.events ∧ (clockMoved c s).pending = s.pending ∧
    (clockMoved c s).path.state = s.path.state := by
  simp [clockMoved]

theorem clockMoved_grows (c : Calendar) (s : State) : PathGrows s (clockMoved c s) :=
  writeClockMirror_grows (s.setCalendar c)

/-- What a turn of a minute leaves: the mirror stands before everything else, and the alarm is evaluated at the new minute. -/
theorem turned_keeps (c : Calendar) (d : Nat) (s : State) :
    let t := endAct (evaluateAlarm (rollover d (clockMoved c s)))
    OnlyChanges [.path, .calendar, .engine, .upload, .events] s t ∧ PathGrows s t ∧ t.calendar = c := by
  intro t
  refine ⟨fun b hb => ?_, ?_, ?_⟩
  · cases b <;> simp at hb <;> simp [SameBlock, t, evaluateAlarm_keeps, rollover_keeps, clockMoved_keeps]
  · exact ((clockMoved_grows c s).trans (rollover_grows ..)).trans ((evaluateAlarm_grows _).trans (endAct_grows _))
  · simp [t, evaluateAlarm_keeps, rollover_keeps, clockMoved_keeps]

theorem turned_mirrorFirst {c : Calendar} {d : Nat} {s : State} (hr : s.path.state = .running)
    (he : s.active.statusWin.enable = true) (hw : s.path.waiting = []) (hl : s.path.pwq.length ≤ 22) :
    ∃ es, (endAct (evaluateAlarm (rollover d (clockMoved c s)))).path.pwq =
      s.path.pwq ++ statusEntries s (clockPair c) ++ es := by
  have hm : Posts (s.setCalendar c) (clockMoved c s) (clockPair c) :=
    writeClockMirror_posts (s := s.setCalendar c) (by simp [State.running, hr])
  have hlen : (clockPair c).length = 2 := rfl
  have hq := (hm.opened ⟨he, .inr hr, hw, by rw [hlen]; exact Nat.add_le_add_right hl 2⟩).1
  obtain ⟨-, -, -, -, -, -, -, es, hes⟩ := ((rollover_grows d (clockMoved c s)).trans (evaluateAlarm_grows _)).1
  refine ⟨es, ?_⟩
  rw [endAct_pwq, hes, hq]
  rfl

/-- What the alarm makes of a turn of a minute. -/
theorem turned_alarm (c : Calendar) (d : Nat) (s : State) :
    let u := rollover d (clockMoved c s)
    let t := endAct (evaluateAlarm u)
    (AlarmDue u → s.upload.state = .idle →
        t.upload.state = (if s.pins.uplReady then .helloSent else .waitLine) ∧ t.events.latchB = s.events.latchB) ∧
      (AlarmDue u → s.upload.state ≠ .idle →
        t.upload = s.upload ∧ t.events.latchB = s.events.latchB ||| 2048#12) ∧
      (¬ AlarmDue u → t.upload = s.upload ∧ t.events.latchB = s.events.latchB) := by
  intro u t
  have hup : u.upload = s.upload := by simp [u, rollover_keeps, clockMoved_keeps]
  have hpin : u.pins = s.pins := by simp [u, rollover_keeps, clockMoved_keeps]
  have hB : u.events.latchB = s.events.latchB := by simp [u, rollover_keeps, clockMoved_keeps]
  refine ⟨fun ha hi => ?_, fun ha hi => ?_, fun ha => ?_⟩
  · obtain ⟨h1, h2⟩ := alarmFires_idle (s := u) (by rw [hup]; exact hi)
    simp only [t, (endAct_keeps _).2.2.2.2.2.2.2.1, (endAct_keeps _).2.2.2.2.2.2.2.2.2.1, evaluateAlarm_due ha, h1, h2, hpin, hB,
      and_self]
  · obtain ⟨h1, h2⟩ := alarmFires_busy (s := u) (by rw [hup]; exact hi)
    simp only [t, (endAct_keeps _).2.2.2.2.2.2.2.1, (endAct_keeps _).2.2.2.2.2.2.2.2.2.1, evaluateAlarm_due ha, h1, h2, hup, hB,
      and_self]
  · simp only [t, (endAct_keeps _).2.2.2.2.2.2.2.1, (endAct_keeps _).2.2.2.2.2.2.2.2.2.1, evaluateAlarm_not_due ha, hup, hB,
      and_self]

theorem alarmDue_turned {c : Calendar} {d : Nat} {s : State} (h0 : c.second = 0) :
    AlarmDue (rollover d (clockMoved c s)) ↔ s.path.state = .running ∧ c.valid = true ∧
      s.active.alarm.weekdays.getLsbD (weekday c.day) = true ∧
      (s.active.alarm.minuteEnable = true → c.minute % 60 = s.active.alarm.minute) ∧
      (s.active.alarm.hourEnable = true → c.minute / 60 = s.active.alarm.hour) := by
  simp [AlarmDue, rollover_keeps, clockMoved_keeps, State.active, h0]

theorem clockAdvance_held {s : State} (h : s.calendar.atHold = true) :
    clockAdvance s = clockMoved { s.calendar with prescaler := 0 } s := if_pos h

theorem clockAdvance_moved {s : State} {c : Calendar} (h : s.calendar.atHold = false)
    (hc : Calendar.advanced { s.calendar with prescaler := 0 } = c) :
    clockAdvance s = evaluateAlarm (rollover s.calendar.day (clockMoved c s)) := by
  subst hc
  exact if_neg (by simpa [Calendar.atHold] using h)

theorem atHold_eq_false {c : Calendar} (h : c.second ≠ 59 ∨ c.minute ≠ 1439 ∨ c.day ≠ 36524) : c.atHold = false := by
  simp only [Calendar.atHold, Config.lastDay, Config.lastMinute]
  rcases h with h | h | h <;> simp [h]

/-- A second that ends no minute: the clock moves, and nothing else is evaluated. -/
theorem clockAdvance_second {s : State} (h : s.calendar.second < 59) : clockAdvance s =
    clockMoved { s.calendar with prescaler := 0, second := s.calendar.second + 1 } s := by
  have hadv : Calendar.advanced { s.calendar with prescaler := 0 } =
      { s.calendar with prescaler := 0, second := s.calendar.second + 1 } :=
    if_pos (show s.calendar.second + 1 < 60 by omega)
  rw [clockAdvance_moved (atHold_eq_false (by omega)) hadv, rollover_same, evaluateAlarm_not_due]
  · rintro ⟨-, -, h0, -⟩
    simp [clockMoved_keeps] at h0
  · simp [clockMoved_keeps]

/-- The rollover notice of the turn of a day. -/
theorem turned_engine {c : Calendar} {d : Nat} {s : State} (hd : d < c.day) :
    let t := endAct (evaluateAlarm (rollover d (clockMoved c s)))
    let noticed : Prop := s.path.state = .running ∧ c.valid = true ∧ s.service = true ∧ s.engine.sweep.lastSwept < c.day
    (¬ noticed → t.engine = s.engine) ∧ (noticed → 0 < s.active.loanCount →
      (t.engine.sweep.state, t.engine.sweep.cursor, t.engine.sweep.target) = (.running, 0, some ⟨c.day, 0⟩)) := by
  intro t noticed
  have ht : t.engine = (rollover d (clockMoved c s)).engine := by simp [t, evaluateAlarm_keeps]
  have hservice : (clockMoved c s).service = s.service :=
    congrArg (fun p : ProfileUnit => decide (p.active.mode = .service)) (clockMoved_keeps c s).2.2.2.2.2.2.2.2.1
  have hheeds : Heeds (clockMoved c s) ⟨c.day, 0⟩ ↔
      s.path.state = .running ∧ s.service = true ∧ s.engine.sweep.lastSwept < c.day := by
    simp only [Heeds, State.running, hservice, clockMoved_keeps, decide_eq_true_eq]
  rw [ht]
  simp only [rollover, clockMoved_keeps, hd, decide_true, Bool.true_and]
  refine ⟨fun hn => ?_, fun hn hl => ?_⟩
  · split
    · next hv =>
      rw [sendNotice_unheeded fun hh => hn ?_]
      · exact (clockMoved_keeps c s).2.2.1
      · obtain ⟨h1, h2⟩ := hheeds.mp hh
        exact ⟨h1, hv, h2⟩
    · exact (clockMoved_keeps c s).2.2.1
  · obtain ⟨h1, hv, h2⟩ := hn
    have hlc : (clockMoved c s).active.loanCount = s.active.loanCount := by simp only [State.active, clockMoved_keeps]
    rw [if_pos hv, sendNotice_sweeps (hheeds.mpr ⟨h1, h2⟩) (by rw [hlc]; exact hl)]
    rfl

/-- Settles O40. -/
theorem clockAdvances : Obligations.ClockAdvances := by
  intro s day minute second hc placed mirrored mirroredFirst alarmAt alarmed
  obtain ⟨hd, hm, hk⟩ : s.calendar.day = day ∧ s.calendar.minute = minute ∧ s.calendar.second = second := by simpa using hc
  have hexec : exec .clockAdvance s = .next (endAct (clockAdvance s)) := rfl
  refine ⟨fun hlt => ?_, fun hlast => ?_, fun hs hlt => ?_, fun hs hmin hlt => ?_⟩
  · rw [hexec, clockAdvance_second (by omega)]
    have hp : placed day minute (second + 1) =
        { s.calendar with prescaler := 0, second := s.calendar.second + 1 } := by simp only [placed, ← hd, ← hm, ← hk]
    rw [← hp]
    exact ⟨_, rfl, clockMirrored ..⟩
  · obtain ⟨rfl, rfl, rfl⟩ : day = 36524 ∧ minute = 1439 ∧ second = 59 := by simpa using hlast
    have hp : placed 36524 1439 59 = { s.calendar with prescaler := 0 } := by simp only [placed, ← hd, ← hm, ← hk]
    rw [hexec, clockAdvance_held (by simp [Calendar.atHold, Config.lastDay, Config.lastMinute, hd, hm, hk]), hp]
    exact ⟨_, rfl, clockMirrored ..⟩
  · have hadv : Calendar.advanced { s.calendar with prescaler := 0 } = placed day (minute + 1) 0 := by
      simp only [Calendar.advanced, hk, hm, if_neg (show ¬ second + 1 < 60 by omega),
        if_pos (show minute + 1 < 1440 by omega), placed, hd]
    have hmoved := clockAdvance_moved (s := s) (atHold_eq_false (by omega)) hadv
    obtain ⟨hchg, hgrow, hcal⟩ := turned_keeps (placed day (minute + 1) 0) s.calendar.day s
    have hsame : rollover s.calendar.day (clockMoved (placed day (minute + 1) 0) s) =
        clockMoved (placed day (minute + 1) 0) s := rollover_same (by simp [clockMoved_keeps, placed, hd])
    rw [hexec, hmoved]
    refine ⟨_, rfl, fun b hb => ?_, hgrow, hcal, fun hr he hw hl => ?_, ?_⟩
    · cases b <;> simp at hb <;>
        simp [SameBlock, hsame, evaluateAlarm_keeps, clockMoved_keeps]
    · rw [hcal]
      exact turned_mirrorFirst hr he hw hl
    · have ha := turned_alarm (placed day (minute + 1) 0) s.calendar.day s
      simp only [alarmDue_turned (c := placed day (minute + 1) 0) rfl] at ha
      exact ha
  · have hadv : Calendar.advanced { s.calendar with prescaler := 0 } = placed (day + 1) 0 0 := by
      simp only [Calendar.advanced, hk, hm, if_neg (show ¬ second + 1 < 60 by omega),
        if_neg (show ¬ minute + 1 < 1440 by omega), placed, hd]
    have hmoved := clockAdvance_moved (s := s) (atHold_eq_false (by omega)) hadv
    obtain ⟨hchg, hgrow, hcal⟩ := turned_keeps (placed (day + 1) 0 0) s.calendar.day s
    rw [hexec, hmoved]
    refine ⟨_, rfl, hchg, hgrow, hcal, fun hr he hw hl => ?_, ?_, ?_⟩
    · rw [hcal]
      exact turned_mirrorFirst hr he hw hl
    · have ha := turned_alarm (placed (day + 1) 0 0) s.calendar.day s
      simp only [alarmDue_turned (c := placed (day + 1) 0 0) rfl] at ha
      exact ha
    · exact turned_engine (c := placed (day + 1) 0 0) (by simp only [placed, hd]; omega)

end Sys2Proof.Machine

/-! PROOFS. A candidate that waits: what an act does without it, and what its judgement adds (Chapter 10). -/

namespace Sys2Proof.Machine

/-! ### Acts that do not look at the candidate -/

section
variable (s : State)

@[simp] theorem withoutCandidate_store : (withoutCandidate s).store = s.store := rfl
@[simp] theorem withoutCandidate_pins : (withoutCandidate s).pins = s.pins := rfl
@[simp] theorem withoutCandidate_path : (withoutCandidate s).path = s.path := rfl
@[simp] theorem withoutCandidate_engine : (withoutCandidate s).engine = s.engine := rfl
@[simp] theorem withoutCandidate_calendar : (withoutCandidate s).calendar = s.calendar := rfl
@[simp] theorem withoutCandidate_wand : (withoutCandidate s).wand = s.wand := rfl
@[simp] theorem withoutCandidate_visit : (withoutCandidate s).visit = s.visit := rfl
@[simp] theorem withoutCandidate_journal : (withoutCandidate s).journal = s.journal := rfl
@[simp] theorem withoutCandidate_upload : (withoutCandidate s).upload = s.upload := rfl
@[simp] theorem withoutCandidate_events : (withoutCandidate s).events = s.events := rfl
@[simp] theorem withoutCandidate_pending : (withoutCandidate s).pending = s.pending := rfl
@[simp] theorem withoutCandidate_active : (withoutCandidate s).active = s.active := rfl
@[simp] theorem withoutCandidate_reading : (withoutCandidate s).reading = s.reading := rfl
@[simp] theorem withoutCandidate_running : (withoutCandidate s).running = s.running := rfl
@[simp] theorem withoutCandidate_service : (withoutCandidate s).service = s.service := rfl
@[simp] theorem withoutCandidate_candidate : (withoutCandidate s).profile.candidate = none := rfl

@[simp] theorem setPath_withoutCandidate (p : StorePath) :
    (withoutCandidate s).setPath p = withoutCandidate (s.setPath p) := rfl
@[simp] theorem setEngine_withoutCandidate (e : Engine) :
    (withoutCandidate s).setEngine e = withoutCandidate (s.setEngine e) := rfl
@[simp] theorem setVisit_withoutCandidate (v : VisitUnit) :
    (withoutCandidate s).setVisit v = withoutCandidate (s.setVisit v) := rfl
@[simp] theorem setJournal_withoutCandidate (j : Journal) :
    (withoutCandidate s).setJournal j = withoutCandidate (s.setJournal j) := rfl
@[simp] theorem setUpload_withoutCandidate (u : Upload) :
    (withoutCandidate s).setUpload u = withoutCandidate (s.setUpload u) := rfl
@[simp] theorem setEvents_withoutCandidate (e : EventUnit) :
    (withoutCandidate s).setEvents e = withoutCandidate (s.setEvents e) := rfl

@[simp] theorem enqueue_withoutCandidate (es : List QEntry) :
    enqueue es (withoutCandidate s) = withoutCandidate (enqueue es s) := rfl
@[simp] theorem endAct_withoutCandidate : endAct (withoutCandidate s) = withoutCandidate (endAct s) := rfl
@[simp] theorem forward_withoutCandidate (a : Access) : forward a (withoutCandidate s) = withoutCandidate (forward a s) := rfl
@[simp] theorem rewrite_withoutCandidate (a : Access) (w : Word) :
    rewrite a w (withoutCandidate s) = withoutCandidate (rewrite a w s) := rfl

/-- A group produced does not depend on a candidate that waits. -/
@[simp] theorem produce_withoutCandidate (o : GroupOwner) (ws : List (Nat × Word)) (b : Bool) :
    produce o ws b (withoutCandidate s) = withoutCandidate (produce o ws b s) := by
  unfold produce
  simp only [apply_ite withoutCandidate]
  rfl

@[simp] theorem stampEvent_withoutCandidate (k d : Nat) :
    stampEvent k d (withoutCandidate s) = withoutCandidate (stampEvent k d s) := by
  simp [stampEvent]

@[simp] theorem raise_withoutCandidate (e : Event) (d : Nat) :
    raise e d (withoutCandidate s) = withoutCandidate (raise e d s) := by
  cases h : e.record <;> simp [raise, h]

@[simp] theorem reportVisit_withoutCandidate (b : State) :
    reportVisit (withoutCandidate b) (withoutCandidate s) = withoutCandidate (reportVisit b s) := by
  unfold reportVisit
  split
  · next h => rw [if_pos (show visitWord s.visit = visitWord b.visit from h)]
  · next h =>
    rw [if_neg (show ¬ visitWord s.visit = visitWord b.visit from h)]
    simp

@[simp] theorem reportUpload_withoutCandidate (b : State) :
    reportUpload (withoutCandidate b) (withoutCandidate s) = withoutCandidate (reportUpload b s) := by
  unfold reportUpload
  split
  · next h => rw [if_pos (show uploadWord s.upload = uploadWord b.upload from h)]
  · next h =>
    rw [if_neg (show ¬ uploadWord s.upload = uploadWord b.upload from h)]
    simp

@[simp] theorem writePatronStatus_withoutCandidate (o : GroupOwner) (a b : Word) :
    writePatronStatus o a b (withoutCandidate s) = withoutCandidate (writePatronStatus o a b s) := by
  simp [writePatronStatus]

@[simp] theorem badRequest_withoutCandidate (a : Addr) :
    badRequest a (withoutCandidate s) = withoutCandidate (badRequest a s) := raise_withoutCandidate ..

end

/-! ### The judgement (R174, R175) -/

/-- The judgement of a candidate in `u` may go on. -/
structure Judges (u : State) : Prop where
  running : u.path.state = .running
  visit : u.visit.visit = none
  crq : u.engine.crq = []
  op : u.engine.op = none

section
variable {u : State} {ws : List Word}

theorem candidateReady_iff (h : Judges u) : candidateReady u ws = true ↔
    ((readProfile ws).clamp.journalWin ≠ u.active.journalWin → u.upload.state = .idle) := by
  simp only [candidateReady, State.running, h.running, h.visit, h.crq, h.op, changesJournal]
  by_cases hc : (readProfile ws).clamp.journalWin = u.active.journalWin <;> simp [hc]

/-- A journal change waits for the end of an upload. -/
theorem judgeCandidate_waits (h : Judges u) (hm : (readProfile ws).clamp.journalWin ≠ u.active.journalWin)
    (hi : u.upload.state ≠ .idle) (hc : u.profile.candidate = some ws) : judgeCandidate u = u := by
  have hr : candidateReady u ws = false := by
    rw [Bool.eq_false_iff]
    exact fun hr => hi ((candidateReady_iff h).mp hr hm)
  simp [judgeCandidate, hc, hr]

/-- A journal change over a ring that is not empty is rejected. -/
theorem judgeCandidate_rejects (h : Judges u) (hm : (readProfile ws).clamp.journalWin ≠ u.active.journalWin)
    (hi : u.upload.state = .idle) (hj : u.journal.head ≠ u.journal.tail) (hc : u.profile.candidate = some ws) :
    judgeCandidate u = rejectProfile .rejectedJournal u := by
  have hr : candidateReady u ws = true := (candidateReady_iff h).mpr fun _ => hi
  simp [judgeCandidate, hc, hr, changesJournal, hm, hj]

/-- Any other candidate is adopted. -/
theorem judgeCandidate_adopts (h : Judges u) (hm : (readProfile ws).clamp.journalWin ≠ u.active.journalWin →
    u.upload.state = .idle ∧ u.journal.head = u.journal.tail) (hc : u.profile.candidate = some ws) :
    judgeCandidate u = adopt ws u := by
  have hr : candidateReady u ws = true := (candidateReady_iff h).mpr fun hne => (hm hne).1
  by_cases hne : (readProfile ws).clamp.journalWin = u.active.journalWin
  · simp [judgeCandidate, hc, hr, changesJournal, hne]
  · simp [judgeCandidate, hc, hr, (hm hne).2]

end

/-! ### A rejection and an adoption -/

theorem reportProfile_grows (b s : State) : PathGrows s (reportProfile b s) :=
  pathGrows_of_still (by simp [StorePath.still]) (reportProfile_grown ..)

theorem rejectProfile_grows (o : AdoptionOutcome) (s : State) : PathGrows s (rejectProfile o s) := by
  refine .trans (.trans ?_ (reportProfile_grows ..)) (raise_grows ..)
  exact .of_path rfl

theorem rejectProfile_profile (o : AdoptionOutcome) (s : State) :
    (rejectProfile o s).profile = { s.profile with candidate := none, outcome := o } := by simp [rejectProfile]

theorem rejectProfile_events (o : AdoptionOutcome) (s : State) :
    (rejectProfile o s).events = { s.events with latchB := s.events.latchB ||| 16#12 } := by
  simp [rejectProfile, raise_plain (e := .profileRejected) rfl, EventUnit.latch, Event.place]

theorem rejectProfile_keeps (o : AdoptionOutcome) (s : State) : (rejectProfile o s).store = s.store ∧
    (rejectProfile o s).pins = s.pins ∧ (rejectProfile o s).engine = s.engine ∧ (rejectProfile o s).calendar = s.calendar ∧
    (rejectProfile o s).wand = s.wand ∧ (rejectProfile o s).visit = s.visit ∧ (rejectProfile o s).journal = s.journal ∧
    (rejectProfile o s).upload = s.upload ∧ (rejectProfile o s).pending = s.pending := by simp [rejectProfile]

theorem adoptWaiting_grown (w : Window) (s : State) : Grown s (adoptWaiting w s) := by
  unfold adoptWaiting
  split
  · exact .refl s
  · exact List.prefix_refl _

theorem recoveryPass_grown (s : State) : Grown s (recoveryPass s) := (endIfDone_grown _).from rfl

theorem adoptSweep_grown (old new : Profile) (s : State) : Grown s (adoptSweep old new s) := by
  unfold adoptSweep
  split
  · unfold sweepStop
    split
    · exact .refl s
    · exact List.prefix_refl _
  · split
    · exact recoveryPass_grown s
    · split
      · exact (endIfDone_grown _).from rfl
      · exact .refl s

theorem adoptCalendar_path (old new : Window) (s : State) : (adoptCalendar old new s).path = s.path := by
  unfold adoptCalendar
  split
  · split <;> rfl
  · split <;> rfl

theorem adoptJournal_path (old new : Window) (s : State) : (adoptJournal old new s).path = s.path := by
  unfold adoptJournal reportRoom
  split
  · split <;> rfl
  · rfl

theorem adoptMap_path (old new : Profile) (s : State) : (adoptMap old new s).path = s.path := by
  unfold adoptMap
  split <;> rfl

theorem raiseClamped_grown (b : Bool) (s : State) : Grown s (raiseClamped b s) := by
  unfold raiseClamped
  split
  · exact raise_grown ..
  · exact .refl s

theorem adoptEffects_grown (old new : Profile) (s : State) : Grown s (adoptEffects old new s) := by
  refine (adoptWaiting_grown new.statusWin s).trans ?_
  have h : Grown (adoptMap old new (adoptWaiting new.statusWin s))
      (adoptSweep old new (adoptMap old new (adoptWaiting new.statusWin s))) := adoptSweep_grown ..
  simp only [Grown, adoptMap_path] at h
  simpa only [Grown, adoptEffects, adoptJournal_path, adoptCalendar_path] using h

theorem adoptStatus_grown (old new : Window) (s : State) : Grown s (adoptStatus old new s) := by
  unfold adoptStatus
  split
  · exact (produce_grown ..).trans (produce_grown ..)
  · exact .refl s

theorem adoptSounder_grown (p : Profile) (s : State) : Grown s (adoptSounder p s) := by
  unfold adoptSounder
  split
  · exact .refl s
  · exact List.prefix_refl _

theorem adopt_grown (ws : List Word) (s : State) : Grown s (adopt ws s) := by
  simp only [adopt]
  refine .trans ?_ ((adoptSounder_grown ..).trans (adoptStatus_grown ..))
  refine .trans ?_ ((systemEntry_grown ..).trans ((raise_grown ..).trans (judgeLow_grown _)))
  exact ((raiseClamped_grown ..).trans ((adoptEffects_grown ..).trans (reportProfile_grown ..))).from rfl

theorem adopt_grows (ws : List Word) (s : State) : PathGrows s (adopt ws s) := by
  refine pathGrows_of_still ?_ (adopt_grown ws s)
  have h := adopt_unadopted ws s
  simp only [State.unadopted, Prod.mk.injEq] at h
  exact h.2.1

/-! ### The low mark (R135) -/

/-- The low mark judged: the mark is armed again above the reserve, and JOURNAL_LOW raised at its crossing. -/
theorem judgeLow_journal (s : State) :
    (judgeLow s).journal = { s.journal with lowArmed := decide (s.active.reserve < s.freeEntries) } := by
  unfold judgeLow
  by_cases h : s.freeEntries ≤ s.active.reserve
  · rw [if_pos h]
    have hd : decide (s.active.reserve < s.freeEntries) = false := by simpa using h
    by_cases ha : s.journal.lowArmed = true
    · simp [ha, hd]
    · rw [if_neg ha, hd]
      simp only [Bool.not_eq_true] at ha
      rw [← ha]
  · rw [if_neg h]
    simp [Nat.not_le.mp h]

theorem judgeLow_events (s : State) : (judgeLow s).events = { s.events with latchB := s.events.latchB |||
    (if s.freeEntries ≤ s.active.reserve ∧ s.journal.lowArmed = true then 64#12 else 0#12) } := by
  unfold judgeLow
  by_cases h : s.freeEntries ≤ s.active.reserve
  · rw [if_pos h]
    cases ha : s.journal.lowArmed
    · simp
    · simp [h, raise_plain (e := .journalLow) rfl, EventUnit.latch, Event.place]
  · simp [h]

/-! ### The profile in force and the event of an adoption -/

theorem raiseClamped_profile (b : Bool) (s : State) : (raiseClamped b s).profile = s.profile := by
  unfold raiseClamped
  split <;> simp

theorem adoptEffects_profile (old new : Profile) (s : State) : (adoptEffects old new s).profile = s.profile := by
  have h1 : (adoptWaiting new.statusWin s).profile = s.profile := by
    unfold adoptWaiting
    split <;> rfl
  have h2 (u : State) : (adoptMap old new u).profile = u.profile := by
    unfold adoptMap
    split <;> rfl
  have h3 (u : State) : (adoptSweep old new u).profile = u.profile := by
    unfold adoptSweep
    split
    · simp
    · split
      · simp
      · split <;> simp
  have h4 (o n : Window) (u : State) : (adoptCalendar o n u).profile = u.profile := by
    unfold adoptCalendar
    split
    · split <;> rfl
    · split <;> rfl
  have h5 (o n : Window) (u : State) : (adoptJournal o n u).profile = u.profile := by
    unfold adoptJournal
    split <;> simp
  rw [adoptEffects, h5, h4, h3, h2, h1]

theorem adoptStatus_keeps (old new : Window) (s : State) : (adoptStatus old new s).profile = s.profile ∧
    (adoptStatus old new s).events = s.events := by
  unfold adoptStatus
  split <;> simp

theorem adoptSounder_keeps (p : Profile) (s : State) : (adoptSounder p s).profile = s.profile ∧
    (adoptSounder p s).events.latchB = s.events.latchB := by
  unfold adoptSounder
  split
  · exact ⟨rfl, rfl⟩
  · simp [silenceSounder]

/-- The profile unit once a candidate is adopted. -/
theorem adopt_profile (ws : List Word) (s : State) :
    (adopt ws s).profile = ⟨s.profile.shadow, (readProfile ws).clamp, none, .adopted, false⟩ := by
  simp [adopt, adoptStatus_keeps, adoptSounder_keeps, adoptEffects_profile, raiseClamped_profile]

/-- An adoption raises PROFILE_ADOPTED. -/
theorem adopt_raised (ws : List Word) (s : State) : (adopt ws s).events.latchB.getLsbD 3 = true := by
  simp only [adopt, adoptStatus_keeps, adoptSounder_keeps, judgeLow_events, raise_plain (e := .profileAdopted) rfl,
    State.setEvents_events]
  simp [EventUnit.latch, Event.place]

/-! ### An act that ends with the judgement -/

/-- What a judgement may leave of the Store Path of `u`. -/
theorem judgeCandidate_grows (u : State) : PathGrows u (judgeCandidate u) := by
  unfold judgeCandidate
  split
  · exact .of_path rfl
  · split
    · exact .of_path rfl
    · split
      · exact rejectProfile_grows ..
      · exact adopt_grows ..

/-- An act that ends with the judgement of the candidate, and would end as it is without one. -/
theorem judgedAfter_of_judgeCandidate {c : Instr} {s u : State} {ws : List Word} (hu : Judges u)
    (hp : u.profile = s.profile) (hc : s.profile.candidate = some ws) (hexec : exec c s = .next (endAct (judgeCandidate u)))
    (hexec0 : exec c (withoutCandidate s) = .next (endAct (withoutCandidate u))) : JudgedAfter PathGrows c s ws := by
  unfold JudgedAfter
  intro new moves
  have hcu : u.profile.candidate = some ws := by rw [hp]; exact hc
  have hactive : u.active = s.active := by rw [State.active, hp]; rfl
  have hgrow : PathGrows (endAct (withoutCandidate u)) (endAct (judgeCandidate u)) :=
    (PathGrows.of_path (s := withoutCandidate u) rfl).trans ((judgeCandidate_grows u).trans (endAct_grows _))
  refine ⟨_, _, hexec0, hexec, fun hm hi => ?_, fun hm hi hj => ?_, fun hm => ?_⟩
  · rw [judgeCandidate_waits hu (by rw [hactive]; exact hm) hi hcu, ← hp]
    rfl
  · have hj := judgeCandidate_rejects hu (by rw [hactive]; exact hm) hi hj hcu
    rw [hj] at hgrow ⊢
    refine ⟨fun b hb => ?_, hgrow, ?_, ?_⟩
    · cases b <;> simp at hb <;> simp [SameBlock, rejectProfile_keeps]
    · simp only [(endAct_keeps _).2.2.2.2.2.2.2.2.1, rejectProfile_profile, hp]
    · simp only [(endAct_keeps _).2.2.2.2.2.2.2.2.2.1, rejectProfile_events, withoutCandidate_events]
  · have ha := judgeCandidate_adopts hu (by rw [hactive]; exact hm) hcu
    obtain ⟨⟨h1, h2, h3, h4, h5, h6⟩, -, h7, h8⟩ : _ ∧ _ := by
      simpa only [State.unadopted, Prod.mk.injEq] using adopt_unadopted ws u
    rw [ha] at hgrow ⊢
    refine ⟨fun b hb => ?_, hgrow, ?_, ?_, ?_, ?_⟩
    · cases b <;> simp at hb <;> simp [SameBlock, h1, h2, h3, h4, h5, h6]
    · simp only [(endAct_keeps _).2.2.2.2.2.2.2.2.1, adopt_profile, hp]
      rfl
    · simp only [(endAct_keeps _).2.2.2.2.2.2.2.2.2.1, adopt_raised]
    · simp only [(endAct_keeps _).2.2.2.2.2.2.1, h8]
      rfl
    · simp only [Engine.work, Prod.mk.injEq] at h7
      simp only [(endAct_keeps _).2.2.1, h7]
      rfl

end Sys2Proof.Machine

/-! PROOFS. The close, the opening and the refresh of a visit, with the candidate that a close may let in (Chapters 7 and 10).
-/

namespace Sys2Proof.Machine

/-! ### The close of a visit (R120) -/

section
variable {s r : State} {v : Visit} {b : Bool}

theorem clearVisit_reports (s : State) : Reports s (clearVisit s) [] := setVisit_reports ..

theorem writePatronStatus_reports (o : GroupOwner) (w10 w14 : Word) (s : State) :
    Reports s (writePatronStatus o w10 w14 s) [(10, w10), (14, w14)] := (setVisit_reports ..).after (produce_reports ..)

theorem closeWord_reports (b : Bool) (s : State) : Reports s (closeWord b s) (if b then [(0, 65535#32)] else []) := by
  cases b
  · exact .refl s
  · exact (setVisit_reports ..).after (produce_reports ..)

/-- A close of a visit changes the visit word. -/
theorem visitWord_ne_of_close (hv : s.visit.visit = some v) (u : VisitUnit) (hu : u.visit = none) :
    visitWord u ≠ visitWord s.visit := by
  refine visitWord_ne ?_
  rw [hu, hv]
  show (0 : Nat) ≠ v.standing.code
  cases v.standing <;> decide

theorem visitAfterClose_none (hv : s.visit.visit = some v) : (visitAfterClose s).visit = none := by simp [visitAfterClose, hv]

/-- The words that the close of an open visit posts. -/
theorem closeAct_reports (hv : s.visit.visit = some v) :
    Reports s (closeAct b v s) (wordsAfterClose s (if b then [(0, 65535#32)] else [])) := by
  have hvis := closeAct_visit (b := b) hv
  simp only [closeAct] at hvis ⊢
  rw [(reportVisit_keeps _ _).2.2.2.2.2.1] at hvis
  have hask : Reports s (if v.list.isEmpty then s else askSlipIfEnabled v false s) [] := by
    split
    · exact .refl s
    · exact askSlipIfEnabled_reports ..
  have hwritten := (hask.after (clearVisit_reports _)).after ((writePatronStatus_reports .visitClose closedVerdict 0#32 _).trans
    (closeWord_reports b _))
  have hraised := hwritten.keep (raise_reports (e := .visitClosed) rfl 0 _)
  have hreport := hraised.trans (reportVisit_reports_of_ne
    (visitWord_ne_of_close (s := s) hv _ (by rw [hvis]; exact visitAfterClose_none hv)))
  rw [hvis] at hreport
  have hcv : closedVerdict = 65535#32 := by decide
  rw [hcv] at hreport
  simp only [wordsAfterClose, hv, List.append_assoc]
  exact hreport

@[simp] theorem askSlipIfEnabled_withoutCandidate (v : Visit) (c : Bool) (s : State) :
    askSlipIfEnabled v c (withoutCandidate s) = withoutCandidate (askSlipIfEnabled v c s) := by
  simp only [askSlipIfEnabled, askSlip, raise_withoutCandidate, apply_ite withoutCandidate]
  rfl

@[simp] theorem closeWord_withoutCandidate (b : Bool) (s : State) :
    closeWord b (withoutCandidate s) = withoutCandidate (closeWord b s) := by
  cases b
  · rfl
  · exact produce_withoutCandidate (s.setVisit { s.visit with patronCopy := 65535#32 }) ..

@[simp] theorem closeAct_withoutCandidate (b : Bool) (v : Visit) (s : State) :
    closeAct b v (withoutCandidate s) = withoutCandidate (closeAct b v s) := by
  have hask : (if v.list.isEmpty then withoutCandidate s else askSlipIfEnabled v false (withoutCandidate s)) =
      withoutCandidate (if v.list.isEmpty then s else askSlipIfEnabled v false s) := by
    rw [apply_ite withoutCandidate, askSlipIfEnabled_withoutCandidate]
  have hclear (u : State) : clearVisit (withoutCandidate u) = withoutCandidate (clearVisit u) := rfl
  simp only [closeAct, hask, hclear, writePatronStatus_withoutCandidate, closeWord_withoutCandidate, raise_withoutCandidate,
    reportVisit_withoutCandidate]

/-- A close by a write, where no candidate is adopted. -/
theorem closeVisit_reports (h : s.visit.visit = none ∨ NoAdoption s) :
    Reports s (closeVisit false s) (wordsAfterClose s []) ∧ (closeVisit false s).visit = visitAfterClose s ∧
      (closeVisit false s).events = eventsAfterClose s := by
  cases hv : s.visit.visit with
  | none =>
    have hc : closeVisit false s = s := by simp [closeVisit, hv]
    rw [hc]
    simp only [wordsAfterClose, visitAfterClose, eventsAfterClose, hv, and_self, and_true]
    exact .refl s
  | some v =>
    have hno : NoAdoption s := h.resolve_left (by simp [hv])
    rw [closeVisit_some hv, judgeCandidate_none hno.close]
    refine ⟨closeAct_reports hv, ?_, closeAct_events hv⟩
    rw [closeAct_visit hv]
    simp [visitAfterClose, hv]

/-- What a close by a write keeps where no candidate is adopted. -/
theorem closeVisit_keeps_blocks (h : s.visit.visit = none ∨ NoAdoption s) : (closeVisit false s).store = s.store ∧
    (closeVisit false s).pins = s.pins ∧ (closeVisit false s).engine = s.engine ∧
    (closeVisit false s).calendar = s.calendar ∧ (closeVisit false s).wand = s.wand ∧
    (closeVisit false s).journal = s.journal ∧ (closeVisit false s).upload = s.upload ∧
    (closeVisit false s).profile = s.profile ∧ (closeVisit false s).pending = s.pending := by
  cases hv : s.visit.visit with
  | none => simp [closeVisit, hv]
  | some v =>
    have hno : NoAdoption s := h.resolve_left (by simp [hv])
    rw [closeVisit_some hv, judgeCandidate_none hno.close]
    simp

/-- The close of the visit of a state whose patron copy alone has been written. -/
theorem visitAfterClose_copy {m : Word} (hv : r.visit = { s.visit with patronCopy := m }) (hp : r.profile = s.profile)
    (hc : r.calendar = s.calendar) : visitAfterClose r = { visitAfterClose s with patronCopy := m } := by
  simp only [visitAfterClose, slipsAfterClose, slipsAsked, State.active, State.reading, hv, hp, hc]
  split <;> rfl

theorem eventsAfterClose_copy {m : Word} (hv : r.visit = { s.visit with patronCopy := m }) (hp : r.profile = s.profile)
    (he : r.events = s.events) : eventsAfterClose r = eventsAfterClose s := by
  simp only [eventsAfterClose, State.active, hv, hp, he]
  rfl

theorem wordsAfterClose_copy {m : Word} {ws : List (Nat × Word)} (hv : r.visit = { s.visit with patronCopy := m })
    (hp : r.profile = s.profile) (hc : r.calendar = s.calendar) : wordsAfterClose r ws = wordsAfterClose s ws := by
  simp only [wordsAfterClose, visitAfterClose_copy hv hp hc]
  rw [hv]
  rfl

/-- An open visit whose close finds no work of the engine lets the candidate be judged. -/
theorem judges_closeAct (hr : s.path.state = .running) (hv : s.visit.visit = some v) (hcrq : s.engine.crq = [])
    (hop : s.engine.op = none) : Judges (closeAct b v s) where
  running := by simpa using hr
  visit := by rw [closeAct_visit hv]; exact visitAfterClose_none hv
  crq := by simpa using hcrq
  op := by simpa using hop

end

/-! ### The idle timer (R119) -/

/-- Settles O27. -/
theorem idleTimerClosesVisit : Obligations.IdleTimerClosesVisit := by
  intro s v n hr hv hn
  have hfires (u : State) (h1 : u.path = s.path) (h2 : u.visit = s.visit) :
      exec .idleTimerExpire u = .next (endAct (judgeCandidate (closeAct true v u))) := by
    show execIdleTimerExpire u = _
    simp [execIdleTimerExpire, actIf, State.running, h1, h2, hr, hv, hn, closeVisit, done]
  constructor
  · intro ws hc hcrq hop
    refine judgedAfter_of_judgeCandidate (u := closeAct true v s) (judges_closeAct hr hv hcrq hop) (by simp) hc
      (hfires s rfl rfl) ?_
    rw [hfires (withoutCandidate s) rfl rfl, judgeCandidate_none (.inl (by simp)), closeAct_withoutCandidate]
  · intro hno
    rw [hfires s rfl rfl, judgeCandidate_none hno.close]
    have hrep := (closeAct_reports (b := true) hv).keep (endAct_reports _)
    refine ⟨_, rfl, fun b hb => ?_, hrep.grows, ?_, ?_, hrep.posts.queues hr⟩
    · cases b <;> simp at hb <;> simp [SameBlock]
    · rw [(endAct_keeps _).2.2.2.2.2.1, closeAct_visit hv]
      rfl
    · rw [(endAct_keeps _).2.2.2.2.2.2.2.2.2.1, closeAct_events hv]

/-! ### The current-patron word (R114 to R117) -/

section
variable {s : State} {addr : Addr} {data m : Word} {st : Strobes}

/-- A write to STATUS w0 is judged on the merged copy. -/
theorem arriveWrite_patron (h : StatusWriteJudged s addr 0) :
    arriveWrite addr data st s = .next (endAct (patronWrite ⟨true, addr, data, st⟩ s)) := arriveWrite_status h

theorem patronWrite_closes {a : Access} (hm : mergeLanes s.visit.patronCopy a.data a.strobes = 65535#32)
    (hb : s.active.borrowerCount ≤ 65535) : patronWrite a s = closeVisit false (forward a (setPatronCopy 65535#32 s)) := by
  have h : ¬ (65535#32 : Word).toNat < s.active.borrowerCount := Nat.not_lt.mpr hb
  simp only [patronWrite, hm, if_neg h, if_true]

theorem patronWrite_refuses {a : Access} (hm : mergeLanes s.visit.patronCopy a.data a.strobes = m)
    (hb : s.active.borrowerCount ≤ m.toNat) (hne : m ≠ 65535#32) : patronWrite a s = refusePatron a s := by
  simp only [patronWrite, hm, if_neg (Nat.not_lt.mpr hb), if_neg hne]

/-- The state in which a refused value closes the visit. -/
def refusing (a : Access) (s : State) : State := rewrite a 65535#32 (setPatronCopy 65535#32 s)

/-- What a refusal reports once the visit is closed. -/
def reportRefusal (addr : Addr) (s : State) : State :=
  badRequest addr (writePatronStatus .badBorrower (verdictWordOf Config.noIndex 3 0) 0#32 s)

theorem refusePatron_eq (a : Access) (s : State) : refusePatron a s = reportRefusal a.addr (closeVisit false (refusing a s)) := rfl

theorem reportRefusal_reports (addr : Addr) (s : State) : Reports s (reportRefusal addr s)
    ([(10, 262143#32), (14, 0#32)] ++ stampMirror (reportRefusal addr s).events 2) := by
  have hw : verdictWordOf Config.noIndex 3 0 = 262143#32 := by decide
  rw [reportRefusal, hw]
  exact (writePatronStatus_reports ..).trans (badRequest_reports ..)

theorem reportRefusal_keeps (addr : Addr) (s : State) : (reportRefusal addr s).store = s.store ∧
    (reportRefusal addr s).pins = s.pins ∧ (reportRefusal addr s).engine = s.engine ∧
    (reportRefusal addr s).calendar = s.calendar ∧ (reportRefusal addr s).wand = s.wand ∧
    (reportRefusal addr s).journal = s.journal ∧ (reportRefusal addr s).upload = s.upload ∧
    (reportRefusal addr s).profile = s.profile ∧ (reportRefusal addr s).pending = s.pending ∧
    (reportRefusal addr s).visit = { s.visit with verdictWord := 262143#32, finesWord := 0#32 } := by
  have hw : verdictWordOf Config.noIndex 3 0 = 262143#32 := by decide
  simp [reportRefusal, hw, writePatronStatus]

theorem reportRefusal_events (addr : Addr) (s : State) : (reportRefusal addr s).events = eventsBad s.events s addr := by
  rw [reportRefusal, badRequest_events]
  simp [eventsAfterBad, eventsBad, writePatronStatus, State.active, State.reading]

@[simp] theorem reportRefusal_withoutCandidate (addr : Addr) (s : State) :
    reportRefusal addr (withoutCandidate s) = withoutCandidate (reportRefusal addr s) := by simp [reportRefusal]

/-- The close of a refusal judged: the report of the refusal stands over either end. -/
theorem judgedAfter_of_refusal {c : Instr} {s u : State} {ws : List Word} {addr : Addr} (hu : Judges u)
    (hp : u.profile = s.profile) (hc : s.profile.candidate = some ws)
    (hexec : exec c s = .next (endAct (reportRefusal addr (judgeCandidate u))))
    (hexec0 : exec c (withoutCandidate s) = .next (endAct (withoutCandidate (reportRefusal addr u)))) :
    JudgedAfter (fun t0 t => PathKeeps u t ∧ t.path.upstream = t0.path.upstream ∧ t.path.completion = t0.path.completion)
      c s ws := by
  unfold JudgedAfter
  intro new moves
  have hcu : u.profile.candidate = some ws := by rw [hp]; exact hc
  have hactive : u.active = s.active := by rw [State.active, hp]; rfl
  have hgrow := (judgeCandidate_grows u).trans ((reportRefusal_reports addr _).grows.trans (endAct_grows _))
  have hgrow0 := (reportRefusal_reports addr u).grows
  have hpath : PathKeeps u (endAct (reportRefusal addr (judgeCandidate u))) ∧
      (endAct (reportRefusal addr (judgeCandidate u))).path.upstream =
        (endAct (withoutCandidate (reportRefusal addr u))).path.upstream ∧
      (endAct (reportRefusal addr (judgeCandidate u))).path.completion =
        (endAct (withoutCandidate (reportRefusal addr u))).path.completion :=
    ⟨hgrow.1, hgrow.2.1.trans hgrow0.2.1.symm, hgrow.2.2.trans hgrow0.2.2.symm⟩
  refine ⟨_, _, hexec0, hexec, fun hm hi => ?_, fun hm hi hj => ?_, fun hm => ?_⟩
  · have hi' : u.upload.state ≠ .idle := by simpa [reportRefusal_keeps] using hi
    have hprofile : (endAct (reportRefusal addr u)).profile = s.profile := by simp [reportRefusal_keeps, hp]
    rw [judgeCandidate_waits hu (by rw [hactive]; exact hm) hi' hcu, ← hprofile]
    rfl
  · have hi' : u.upload.state = .idle := by simpa [reportRefusal_keeps] using hi
    have hj' : u.journal.head ≠ u.journal.tail := by simpa [reportRefusal_keeps] using hj
    rw [judgeCandidate_rejects hu (by rw [hactive]; exact hm) hi' hj' hcu] at hpath ⊢
    refine ⟨fun b hb => ?_, hpath, ?_, ?_⟩
    · cases b <;> simp at hb <;> simp [SameBlock, rejectProfile_keeps, reportRefusal_keeps]
    · simp only [(endAct_keeps _).2.2.2.2.2.2.2.2.1, reportRefusal_keeps, rejectProfile_profile, hp]
    · simp only [(endAct_keeps _).2.2.2.2.2.2.2.2.2.1, reportRefusal_events, rejectProfile_events, withoutCandidate_events,
        eventsBad, State.active, State.reading, rejectProfile_profile, rejectProfile_keeps]
      rfl
  · have hm' : (readProfile ws).clamp.journalWin ≠ u.active.journalWin →
        u.upload.state = .idle ∧ u.journal.head = u.journal.tail := fun hne => by
      simpa [reportRefusal_keeps] using hm (by rw [hactive] at hne; exact hne)
    obtain ⟨⟨h1, h2, h3, h4, h5, h6⟩, -, h7, h8⟩ : _ ∧ _ := by
      simpa only [State.unadopted, Prod.mk.injEq] using adopt_unadopted ws u
    rw [judgeCandidate_adopts hu hm' hcu] at hpath ⊢
    refine ⟨fun b hb => ?_, hpath, ?_, ?_, ?_, ?_⟩
    · cases b <;> simp at hb <;> simp [SameBlock, reportRefusal_keeps, h1, h2, h3, h4, h5, h6]
    · simp only [(endAct_keeps _).2.2.2.2.2.2.2.2.1, reportRefusal_keeps, adopt_profile, hp]
      rfl
    · simp only [(endAct_keeps _).2.2.2.2.2.2.2.2.2.1, reportRefusal_events, eventsBad, adopt_raised]
    · simp only [(endAct_keeps _).2.2.2.2.2.2.1, reportRefusal_keeps, h8, withoutCandidate_journal]
    · simp only [Engine.work, Prod.mk.injEq] at h7
      simp only [(endAct_keeps _).2.2.1, reportRefusal_keeps, h7, withoutCandidate_engine]

/-- Settles O26. -/
theorem patronClosedOrRefused : Obligations.PatronClosedOrRefused := by
  intro s addr data m st h hm hb
  have hr : s.path.state = .running := h.1.1.2.2.1
  have hcloses (hd : data = 65535#32) (h5 : m = 65535#32) :
      exec (.currentPatronClose addr st) s =
          .next (endAct (closeVisit false (forward ⟨true, addr, data, st⟩ (setPatronCopy m s)))) ∧
        exec (.currentPatronClose addr st) (withoutCandidate s) =
          .next (endAct (closeVisit false (withoutCandidate (forward ⟨true, addr, data, st⟩ (setPatronCopy m s))))) := by
    have hb' : s.active.borrowerCount ≤ 65535 := by
      rw [h5] at hb
      exact hb
    have hw (u : State) (hv : u.visit = s.visit) (ha : u.active = s.active) : patronWrite ⟨true, addr, data, st⟩ u =
        closeVisit false (forward ⟨true, addr, data, st⟩ (setPatronCopy m u)) := by
      rw [h5]
      exact patronWrite_closes (a := ⟨true, addr, data, st⟩) (by rw [hv, ← h5]; exact hm.symm) (by rw [ha]; exact hb')
    rw [← hw s rfl rfl, hd]
    exact ⟨arriveWrite_patron h, (arriveWrite_patron (s := withoutCandidate s) h).trans
      (congrArg (fun t => Host.Outcome.next (endAct t)) (by rw [← hd]; exact hw (withoutCandidate s) rfl rfl))⟩
  have hrefuses (hne : m ≠ 65535#32) :
      exec (.currentPatronRefused addr data st) s = .next (endAct (refusePatron ⟨true, addr, data, st⟩ s)) ∧
        exec (.currentPatronRefused addr data st) (withoutCandidate s) =
          .next (endAct (refusePatron ⟨true, addr, data, st⟩ (withoutCandidate s))) :=
    ⟨(arriveWrite_patron h).trans (congrArg (fun t => Host.Outcome.next (endAct t))
        (patronWrite_refuses (a := ⟨true, addr, data, st⟩) hm.symm hb hne)),
      (arriveWrite_patron (s := withoutCandidate s) h).trans (congrArg (fun t => Host.Outcome.next (endAct t))
        (patronWrite_refuses (a := ⟨true, addr, data, st⟩) (s := withoutCandidate s) hm.symm hb hne))⟩
  refine ⟨fun ws hv hc hcrq hop => ⟨fun hd h5 => ?_, fun hne => ?_⟩, fun hno hd h5 => ?_, fun hno hne => ?_⟩
  · obtain ⟨v, hv⟩ := Option.ne_none_iff_exists'.mp hv
    obtain ⟨hx, hx0⟩ := hcloses hd h5
    obtain ⟨r, hrdef⟩ : ∃ r, r = forward ⟨true, addr, data, st⟩ (setPatronCopy m s) := ⟨_, rfl⟩
    have hrv : r.visit.visit = some v := by rw [hrdef]; exact hv
    rw [← hrdef] at hx hx0
    refine judgedAfter_of_judgeCandidate (u := closeAct false v r) (judges_closeAct (by rw [hrdef]; exact hr) hrv
      (by rw [hrdef]; exact hcrq) (by rw [hrdef]; exact hop)) (by simp [hrdef]) hc (by rw [hx, closeVisit_some hrv]) ?_
    rw [hx0, closeVisit_some (s := withoutCandidate r) hrv, judgeCandidate_none (.inl (by simp)), closeAct_withoutCandidate]
  · obtain ⟨v, hv⟩ := Option.ne_none_iff_exists'.mp hv
    obtain ⟨hx, hx0⟩ := hrefuses hne
    obtain ⟨r, hrdef⟩ : ∃ r, r = refusing ⟨true, addr, data, st⟩ s := ⟨_, rfl⟩
    have hr0 : refusing ⟨true, addr, data, st⟩ (withoutCandidate s) = withoutCandidate r := by rw [hrdef]; rfl
    have hrv : r.visit.visit = some v := by rw [hrdef]; exact hv
    rw [refusePatron_eq, ← hrdef, closeVisit_some hrv] at hx
    rw [refusePatron_eq, hr0, closeVisit_some (s := withoutCandidate r) hrv, judgeCandidate_none (.inl (by simp)),
      closeAct_withoutCandidate, reportRefusal_withoutCandidate] at hx0
    have hj := judgedAfter_of_refusal (u := closeAct false v r) (judges_closeAct (by rw [hrdef]; exact hr) hrv
      (by rw [hrdef]; exact hcrq) (by rw [hrdef]; exact hop)) (by simp [hrdef]; rfl) hc hx hx0
    have hkeep (t : State) (hk : PathKeeps (closeAct false v r) t) : PathKeeps s t := by
      obtain ⟨k1, k2, k3, k4, k5, k6, k7, es, k8⟩ := hk
      obtain ⟨fs, hfs⟩ := (closeAct_grown false v r).exists
      exact ⟨k1.trans (by simp [hrdef, refusing]), k2.trans (by simp [hrdef, refusing]), k3.trans (by simp [hrdef, refusing]),
        k4.trans (by simp [hrdef, refusing]), k5.trans (by simp [hrdef, refusing]), k6.trans (by simp [hrdef, refusing]),
        k7.trans (by simp [hrdef, refusing]), fs ++ es, by rw [k8, hfs, List.append_assoc, hrdef]; rfl⟩
    obtain ⟨t0, t, ht0, ht, hwait, hreject, hadopt⟩ := hj
    exact ⟨t0, t, ht0, ht, hwait,
      fun h1 h2 h3 => let ⟨k1, ⟨k2, k3⟩, k4⟩ := hreject h1 h2 h3; ⟨k1, ⟨hkeep t k2, k3⟩, k4⟩,
      fun h1 => let ⟨k1, ⟨k2, k3⟩, k4⟩ := hadopt h1; ⟨k1, ⟨hkeep t k2, k3⟩, k4⟩⟩
  · rw [(hcloses hd h5).1]
    obtain ⟨r, hrdef⟩ : ∃ r, r = forward ⟨true, addr, data, st⟩ (setPatronCopy m s) := ⟨_, rfl⟩
    rw [← hrdef]
    have hnor : r.visit.visit = none ∨ NoAdoption r := by rw [hrdef]; exact hno
    obtain ⟨hrep, hvis, hev⟩ := closeVisit_reports hnor
    have hk := closeVisit_keeps_blocks hnor
    have hrv : r.visit = { s.visit with patronCopy := m } := by rw [hrdef]; rfl
    have hrp : r.profile = s.profile := by rw [hrdef]; rfl
    have hrc : r.calendar = s.calendar := by rw [hrdef]; rfl
    obtain ⟨hkeeps, hup, hcomp, hq⟩ := (hrep.keep (endAct_reports _)).judged (s := s) (up := .forwarded ⟨true, addr, data, st⟩)
      (by rw [hrdef]; rfl) (by rw [hrdef]; rfl) hr
    refine ⟨_, rfl, fun b hb => ?_, hkeeps, hup, hcomp, ?_, ?_, ?_⟩
    · cases b <;> simp at hb <;> simp [SameBlock, hk] <;> simp [hrdef, setPatronCopy]
    · rw [(endAct_keeps _).2.2.2.2.2.1, hvis, visitAfterClose_copy hrv hrp hrc]
    · rw [(endAct_keeps _).2.2.2.2.2.2.2.2.2.1, hev, eventsAfterClose_copy hrv hrp (by rw [hrdef]; rfl)]
    · rwa [wordsAfterClose_copy hrv hrp hrc] at hq
  · rw [(hrefuses hne).1, refusePatron_eq]
    obtain ⟨r, hrdef⟩ : ∃ r, r = refusing ⟨true, addr, data, st⟩ s := ⟨_, rfl⟩
    rw [← hrdef]
    have hnor : r.visit.visit = none ∨ NoAdoption r := by rw [hrdef]; exact hno
    obtain ⟨hrep, hvis, hev⟩ := closeVisit_reports hnor
    have hk := closeVisit_keeps_blocks hnor
    have hrv : r.visit = { s.visit with patronCopy := 65535#32 } := by rw [hrdef]; rfl
    have hrp : r.profile = s.profile := by rw [hrdef]; rfl
    have hrc : r.calendar = s.calendar := by rw [hrdef]; rfl
    have hre : r.events = s.events := by rw [hrdef]; rfl
    obtain ⟨hkeeps, hup, hcomp, hq⟩ := ((hrep.trans (reportRefusal_reports addr _)).keep (endAct_reports _)).judged (s := s)
      (up := .forwarded ⟨true, addr, 65535#32, fullWord⟩) (by rw [hrdef]; rfl) (by rw [hrdef]; rfl) hr
    refine ⟨_, rfl, fun b hb => ?_, hkeeps, hup, hcomp, ?_, ?_, ?_⟩
    · cases b <;> simp at hb <;> simp [SameBlock, hk, reportRefusal_keeps] <;> simp [hrdef, refusing, setPatronCopy]
    · simp only [(endAct_keeps _).2.2.2.2.2.1, reportRefusal_keeps, hvis, visitAfterClose_copy hrv hrp hrc]
    · rw [(endAct_keeps _).2.2.2.2.2.2.2.2.2.1, reportRefusal_events, hev, eventsAfterClose_copy hrv hrp hre]
      simp only [eventsBad, State.active, State.reading, hk, hrp, hrc]
    · rw [wordsAfterClose_copy hrv hrp hrc] at hq
      rw [List.append_assoc]
      exact hq

end

end Sys2Proof.Machine

/-! PROOFS. The refresh and the opening of a visit (Chapter 7). -/

namespace Sys2Proof.Machine

section
variable {s r t : State} {addr : Addr} {data m : Word} {st : Strobes} {v : Visit} {a : Access}

/-! ### The refresh (R116) -/

theorem visiting_iff {b : Nat} : s.visiting b = true ↔ ∃ v, s.visit.visit = some v ∧ v.patron = b := by
  cases hv : s.visit.visit <;> simp [State.visiting, hv]

theorem patronWrite_refreshes (hm : mergeLanes s.visit.patronCopy a.data a.strobes = m)
    (hb : m.toNat < s.active.borrowerCount) (hl : s.engine.crq.length < 16) (hv : s.visiting m.toNat = true) :
    patronWrite a s = refreshVisit m.toNat (forward a (setPatronCopy m s)) := by
  simp only [patronWrite, hm, if_pos hb, crqFull_eq_false_iff.mpr hl, Bool.false_eq_true, if_false, hv, if_true]

theorem setStanding_open {x : Standing} (hv : s.visit.visit = some v) : setStanding x s =
    reportVisit s (s.setVisit { s.visit with visit := some { v with standing := x } }) := by
  simp [setStanding, hv]

/-- A visit refreshed: its standing is PENDING, and the timer is loaded. -/
theorem refreshVisit_visit {b : Nat} (hv : s.visit.visit = some v) : (refreshVisit b s).visit = { s.visit with
    visit := some { v with standing := .pending }, idleTimer := timerLoad s.active } := by
  simp [refreshVisit, queuePatronOpen, loadTimer, setStanding_open hv, State.active]

theorem refreshVisit_reports {b : Nat} (hv : s.visit.visit = some v) :
    Reports s (refreshVisit b s) (visitReport s (refreshVisit b s)) := by
  have hw : visitWord (refreshVisit b s).visit =
      visitWord { s.visit with visit := some { v with standing := .pending } } := by
    rw [refreshVisit_visit hv]
    rfl
  have h1 := (setVisit_reports { s.visit with visit := some { v with standing := .pending } } s).after
    (reportVisit_reports s _)
  rw [← setStanding_open hv] at h1
  have h2 := (h1.keep (loadTimer_reports _)).keep (queuePatronOpen_reports b _)
  rw [visitReport, hw]
  exact h2

theorem queuePatronOpen_engine (b : Nat) (s : State) : (queuePatronOpen b s).engine =
    { s.engine with crq := s.engine.crq ++ [.patronOpen b], busy := s.engine.busy ++ [.borrower b] } := rfl

theorem refreshVisit_engine (b : Nat) (s : State) : (refreshVisit b s).engine =
    { s.engine with crq := s.engine.crq ++ [.patronOpen b], busy := s.engine.busy ++ [.borrower b] } := by
  simp [refreshVisit, queuePatronOpen_engine, loadTimer]

/-- Settles O25. -/
theorem patronRefreshed : Obligations.PatronRefreshed := by
  intro s addr data m st v h hm hb hl hv hp
  have hexec : exec (.currentPatronRefresh addr data st) s =
      .next (endAct (refreshVisit m.toNat (forward ⟨true, addr, data, st⟩ (setPatronCopy m s)))) :=
    (arriveWrite_patron h).trans (congrArg (fun t => Host.Outcome.next (endAct t))
      (patronWrite_refreshes (a := ⟨true, addr, data, st⟩) hm.symm hb hl (visiting_iff.mpr ⟨v, hv, hp⟩)))
  obtain ⟨r, hr⟩ : ∃ r, r = forward ⟨true, addr, data, st⟩ (setPatronCopy m s) := ⟨_, rfl⟩
  rw [← hr] at hexec
  have hrv : r.visit.visit = some v := by rw [hr]; exact hv
  obtain ⟨hkeeps, hup, hcomp, hq⟩ := ((refreshVisit_reports (b := m.toNat) hrv).keep (endAct_reports _)).judged (s := s)
    (up := .forwarded ⟨true, addr, data, st⟩) (by rw [hr]; rfl) (by rw [hr]; rfl) h.1.1.2.2.1
  refine ⟨_, hexec, fun b hb => ?_, hkeeps, hup, hcomp, ?_, ?_, ?_⟩
  · cases b <;> simp at hb <;> simp [SameBlock, refreshVisit_keeps] <;> simp [hr, setPatronCopy]
  · rw [(endAct_keeps _).2.2.2.2.2.1, refreshVisit_visit hrv, hr]
    rfl
  · simp only [(endAct_keeps _).2.2.1, refreshVisit_engine, hr]
    rfl
  · have hw : visitWord r.visit = visitWord s.visit := by rw [hr]; rfl
    simp only [visitReport, (endAct_keeps _).2.2.2.2.2.1, hw] at hq ⊢
    exact hq

/-! ### The opening (R115) -/

theorem patronWrite_opens (hm : mergeLanes s.visit.patronCopy a.data a.strobes = m)
    (hb : m.toNat < s.active.borrowerCount) (hl : s.engine.crq.length < 16) (hv : s.visiting m.toNat = false) :
    patronWrite a s = openingWrite a m s := by
  simp only [patronWrite, hm, if_pos hb, crqFull_eq_false_iff.mpr hl, Bool.false_eq_true, if_false, hv]

/-- The guards of an address are those of the profile in force and the slot state map. -/
theorem guardAt_congr (hp : t.profile = s.profile) (he : t.engine.stateMap = s.engine.stateMap) (x : Addr) :
    guardAt t x = guardAt s x := by
  have hg (k : WindowKind) (n : Nat) : guardOf t k n = guardOf s k n := by
    have hs : t.service = s.service := congrArg (fun p : ProfileUnit => decide (p.active.mode = .service)) hp
    cases k <;> simp only [guardOf, liveGuard, hs, he]
  have ha : t.active = s.active := congrArg ProfileUnit.active hp
  simp only [guardAt, guardsAt, hg, ha]
  rfl

theorem visitWord_ne_of_open (hn : s.visit.visit = none) (u : VisitUnit) (hu : u.visit = some v) :
    visitWord u ≠ visitWord s.visit := by
  refine visitWord_ne ?_
  rw [hu, hn]
  show v.standing.code ≠ 0
  cases v.standing <;> decide

theorem openVisit_visit (b : Nat) (s : State) : (openVisit b s).visit = { s.visit with
    visit := some ⟨b, .pending, s.reading, [], false⟩, idleTimer := timerLoad s.active } := by
  simp [openVisit, queuePatronOpen, loadTimer, newVisit, State.active]

theorem openVisit_reports {b : Nat} (hn : s.visit.visit = none) :
    Reports s (openVisit b s) [(23, visitWord (openVisit b s).visit)] := by
  have hvis : (loadTimer (s.setVisit { s.visit with visit := some (newVisit b s.reading) })).visit = (openVisit b s).visit := by
    rw [openVisit_visit]
    rfl
  have h := ((setVisit_reports ..).after (loadTimer_reports
    (s.setVisit { s.visit with visit := some (newVisit b s.reading) }))).after (reportVisit_reports_of_ne (b := s)
      (visitWord_ne_of_open hn _ rfl))
  rw [hvis] at h
  exact h.keep (queuePatronOpen_reports b _)

theorem openVisit_engine (b : Nat) (s : State) : (openVisit b s).engine =
    { s.engine with crq := s.engine.crq ++ [.patronOpen b], busy := s.engine.busy ++ [.borrower b] } := by
  simp [openVisit, queuePatronOpen_engine, loadTimer]

/-! ### An opening whose close disables the STATUS window (log entry 29) -/

/-- No window is hit while it is disabled. -/
theorem regionOf_ne_status {p : Profile} {x : Addr} {n : Nat} (h : p.statusWin.enable = false) :
    regionOf p x ≠ .window .status n := by
  intro hr
  obtain ⟨hh, -⟩ := hits_of_window hr
  simp [Profile.hits, Profile.window, Window.hits, h] at hh

/-- What a write that opens no visit leaves: the Visit Unit, the profile in force, and a CRQ with no PATRON_OPEN but those
that were there. -/
def OpensNone (s t : State) : Prop :=
  t.visit = s.visit ∧ t.profile.active = s.profile.active ∧ ∀ b, .patronOpen b ∈ t.engine.crq → .patronOpen b ∈ s.engine.crq

theorem refuseWrite_opensNone (a : Access) (s : State) : OpensNone s (refuseWrite a s) := by
  simp [OpensNone, refuseWrite, badRequest]

theorem takeRequest_opensNone (a : Access) (i k : Nat) (p : LoanState) (s : State) : OpensNone s (takeRequest a i k p s) := by
  refine ⟨rfl, rfl, fun b hb => ?_⟩
  have he : requestEntry k i p ≠ .patronOpen b := by
    unfold requestEntry
    split
    · exact fun h => by cases h
    · split <;> exact fun h => by cases h
  simp only [takeRequest, rewrite, forward, joinCrq, recordState, claim, State.setPath_engine, State.setEngine_engine,
    List.mem_append, List.mem_singleton] at hb
  exact hb.resolve_right fun h => he h.symm

theorem requestWrite_opensNone (a : Access) (i : Nat) (s : State) : OpensNone s (requestWrite a i s) := by
  unfold requestWrite
  split
  · exact ⟨rfl, rfl, fun _ h => h⟩
  · unfold judgeRequest
    split
    · exact refuseWrite_opensNone ..
    · split
      · exact refuseWrite_opensNone ..
      · exact ⟨rfl, rfl, fun _ h => h⟩
      · split
        · exact ⟨rfl, rfl, fun _ h => h⟩
        · exact takeRequest_opensNone ..

theorem paymentWrite_opensNone (a : Access) (b : Nat) (s : State) : OpensNone s (paymentWrite a b s) := by
  unfold paymentWrite
  split
  · exact refuseWrite_opensNone ..
  · split
    · exact ⟨rfl, rfl, fun _ h => h⟩
    · split
      · exact ⟨rfl, rfl, fun _ h => h⟩
      · refine ⟨rfl, rfl, fun c hc => ?_⟩
        simp only [rewrite, forward, joinCrq, claim, State.setPath_engine, State.setEngine_engine, List.mem_append,
          List.mem_singleton] at hc
        exact hc.resolve_right fun h => by cases h

theorem snoopCalendar_opensNone (a : Access) (n : Nat) (s : State) : OpensNone s (forward a (snoopCalendar a n s)) := by
  unfold snoopCalendar
  split <;> exact ⟨rfl, rfl, fun _ h => h⟩

theorem windowWrite_opensNone {patron : Access → State → State} {a : Access} {k : WindowKind} {n : Nat} {s : State}
    (hk : k ≠ .status) : OpensNone s (windowWrite patron a k n s) := by
  cases k with
  | borrower =>
    simp only [windowWrite]
    split
    · exact paymentWrite_opensNone ..
    · exact ⟨rfl, rfl, fun _ h => h⟩
  | loan =>
    simp only [windowWrite]
    split
    · exact requestWrite_opensNone ..
    · exact ⟨rfl, rfl, fun _ h => h⟩
  | scan => exact ⟨rfl, rfl, fun _ h => h⟩
  | journal => exact ⟨rfl, rfl, fun _ h => h⟩
  | status => exact absurd rfl hk
  | calendar => exact snoopCalendar_opensNone ..

/-- A write treated while the STATUS window is disabled opens no visit. -/
theorem treatWrite_opensNone {patron : Access → State → State} {a : Access} {s : State}
    (hd : s.active.statusWin.enable = false) (hl : ¬ a.addr.toNat < 128) : OpensNone s (treatWrite patron a s) := by
  unfold treatWrite
  split
  · rw [profileSnoop_outside hl]
    exact ⟨rfl, rfl, fun _ h => h⟩
  · exact ⟨rfl, rfl, fun _ h => h⟩
  · unfold freeWrite
    split
    · rw [profileSnoop_outside hl]
      exact ⟨rfl, rfl, fun _ h => h⟩
    · next hr => exact windowWrite_opensNone fun hk => regionOf_ne_status hd (hk ▸ hr)
    · exact ⟨rfl, rfl, fun _ h => h⟩

/-- A word outside every region lies in no window. -/
theorem hits_outside {p : Profile} {x : Addr} (h : regionOf p x = .outside) (k : WindowKind) : p.hits k x = false := by
  simp only [regionOf] at h
  split at h
  · cases h
  · split at h
    · cases h
    · next hf =>
      have := List.find?_eq_none.mp hf k (by cases k <;> simp [WindowKind.order])
      simpa using this

/-- Outside every window no write is guarded. -/
theorem guardAt_outside {x : Addr} (h : regionOf s.active x = .outside) : guardAt s x = .free := by
  have hg : guardsAt s x = [] := by simp [guardsAt, hits_outside h]
  simp [guardAt, hg]

/-- Outside every window no word is claimed. -/
theorem busyAt_outside {x : Addr} (h : regionOf s.active x = .outside) : busyAt s x = false := by
  simp [busyAt, hits_outside h]

/-- An opening write to a word that the close leaves in STATUS w0 opens the visit. -/
theorem openingWrite_status (hg : guardAt (closeVisit false (setPatronCopy 65535#32 s)) a.addr = .free)
    (hr : regionOf (closeVisit false (setPatronCopy 65535#32 s)).active a.addr = .window .status 0)
    (hb : m.toNat < (closeVisit false (setPatronCopy 65535#32 s)).active.borrowerCount) : openingWrite a m s =
      openVisit m.toNat (forward a (setPatronCopy m (closeVisit false (setPatronCopy 65535#32 s)))) := by
  simp only [openingWrite, treatWrite, hg, freeWrite, hr, windowWrite, statusWrite, openOrRefuse, if_pos hb]

/-- Settles O24. -/
theorem patronOpens : Obligations.PatronOpens := by
  intro s addr data m st h hm hb hl hv
  have hrun : s.path.state = .running := h.1.1.2.2.1
  have hl128 : ¬ addr.toNat < 128 := not_profile_of_window h.2
  have hexec : exec (.currentPatronOpen addr data st) s = .next (endAct (openingWrite ⟨true, addr, data, st⟩ m s)) :=
    (arriveWrite_patron h).trans (congrArg (fun t => Host.Outcome.next (endAct t))
      (patronWrite_opens (a := ⟨true, addr, data, st⟩) hm.symm hb hl hv))
  obtain ⟨r, hr⟩ : ∃ r, r = setPatronCopy 65535#32 s := ⟨_, rfl⟩
  refine ⟨fun ws hopen hc hcrq hop hj hoff => ?_, fun hno => ?_⟩
  · obtain ⟨v, hopen⟩ := Option.ne_none_iff_exists'.mp hopen
    have hrv : r.visit.visit = some v := by rw [hr]; exact hopen
    have hju : Judges (closeAct false v r) := judges_closeAct (by rw [hr]; exact hrun) hrv (by rw [hr]; exact hcrq)
      (by rw [hr]; exact hop)
    have hprofile : (closeAct false v r).profile = s.profile := by simp [hr]
    have hactive : (closeAct false v r).active = s.active := congrArg ProfileUnit.active hprofile
    have hclose : closeVisit false r = adopt ws (closeAct false v r) := by
      rw [closeVisit_some hrv, judgeCandidate_adopts hju (fun hne => absurd (hj.trans (by rw [hactive])) hne)
        (by rw [hprofile]; exact hc)]
    have hadopted : (closeVisit false r).profile.active = (readProfile ws).clamp := by rw [hclose, adopt_profile]
    have hk := judgeCandidate_keeps (closeAct false v r)
    rw [← closeVisit_some hrv] at hk
    obtain ⟨-, -, -, hkv, -, -, -, -, -, -, hkcrq, -⟩ := hk
    have hvis : (closeVisit false r).visit.visit = none ∧ (closeVisit false r).visit.patronCopy = 65535#32 := by
      rw [hkv, closeAct_visit hrv]
      exact ⟨visitAfterClose_none hrv, by rw [hr]; rfl⟩
    have hempty : (closeVisit false r).engine.crq = [] := by rw [hkcrq]; exact hju.crq
    obtain ⟨hv1, hv2, hv3⟩ := treatWrite_opensNone (patron := openOrRefuse m) (a := ⟨true, addr, data, st⟩)
      (s := closeVisit false r) (by rw [State.active, hadopted]; exact hoff) hl128
    have hopening : openingWrite ⟨true, addr, data, st⟩ m s =
        treatWrite (openOrRefuse m) ⟨true, addr, data, st⟩ (closeVisit false r) := by rw [hr]; rfl
    rw [hopening] at hexec
    refine ⟨_, hexec, ?_, ?_, ?_, fun b hmem => ?_, fun hout => ?_⟩
    · rw [(endAct_keeps _).2.2.2.2.2.1, hv1, hvis.1]
    · rw [(endAct_keeps _).2.2.2.2.2.1, hv1, hvis.2]
    · rw [(endAct_keeps _).2.2.2.2.2.2.2.2.1, hv2, hadopted]
    · rw [(endAct_keeps _).2.2.1] at hmem
      have hin := hv3 b hmem
      rw [hempty] at hin
      exact List.not_mem_nil hin
    · have hreg : regionOf (closeVisit false r).active addr = .outside := by rw [State.active, hadopted]; exact hout
      have hpass : treatWrite (openOrRefuse m) ⟨true, addr, data, st⟩ (closeVisit false r) =
          forward ⟨true, addr, data, st⟩ (closeVisit false r) := by
        simp only [treatWrite, guardAt_outside hreg, freeWrite, hreg]
      rw [hpass]
      exact ⟨hempty, rfl⟩
  · have hnor : r.visit.visit = none ∨ NoAdoption r := by rw [hr]; exact hno
    obtain ⟨hrep, hvis, hev⟩ := closeVisit_reports hnor
    obtain ⟨k1, k2, k3, k4, k5, k6, k7, k8, k9⟩ := closeVisit_keeps_blocks hnor
    have hrv : r.visit = { s.visit with patronCopy := 65535#32 } := by rw [hr]; rfl
    have hrp : r.profile = s.profile := by rw [hr]; rfl
    have hrc : r.calendar = s.calendar := by rw [hr]; rfl
    have hactive : (closeVisit false r).active = s.active := congrArg ProfileUnit.active (k8.trans hrp)
    have hopening : openingWrite ⟨true, addr, data, st⟩ m s =
        openVisit m.toNat (forward ⟨true, addr, data, st⟩ (setPatronCopy m (closeVisit false r))) := by
      rw [hr]
      refine openingWrite_status ?_ ?_ ?_
      · rw [← hr, guardAt_congr (s := s) (k8.trans hrp) (by rw [k3, hr]; rfl)]
        exact h.1.2.2
      · rw [← hr, hactive]
        exact h.2
      · rw [← hr, hactive]
        exact hb
    rw [hopening] at hexec
    obtain ⟨w, hw⟩ : ∃ w, w = forward ⟨true, addr, data, st⟩ (setPatronCopy m (closeVisit false r)) := ⟨_, rfl⟩
    rw [← hw] at hexec
    have hwv : w.visit = { visitAfterClose s with patronCopy := m } := by
      have : w.visit = { (closeVisit false r).visit with patronCopy := m } := by rw [hw]; rfl
      rw [this, hvis, visitAfterClose_copy hrv hrp hrc]
    have hnone : w.visit.visit = none := by
      rw [hwv]
      cases hx : s.visit.visit <;> simp [visitAfterClose, hx]
    have hgrow : PathGrows w (endAct (openVisit m.toNat w)) := (openVisit_reports hnone).grows.trans (endAct_grows _)
    have hpost : Posts s (endAct (openVisit m.toNat w)) (wordsAfterClose s [] ++ [(23, visitWord (openVisit m.toNat w).visit)]) := by
      have h1 : Posts s r [] := .of_path (by rw [hr]; rfl) (by rw [hr]; rfl) (by rw [hr]; rfl) (by rw [hr]; rfl)
      have h2 := hrep.posts
      rw [wordsAfterClose_copy hrv hrp hrc] at h2
      have h3 : Posts (closeVisit false r) w [] := by rw [hw]; exact .of_path rfl rfl rfl rfl
      exact (((h1.after h2).keep h3).trans (openVisit_reports hnone).posts).keep (endAct_posts _)
    have hwk : PathKeeps s w := by
      obtain ⟨⟨g1, g2, g3, g4, g5, g6, g7, es, g8⟩, -, -⟩ := hrep.grows
      rw [hw]
      exact ⟨g1.trans (by rw [hr]; rfl), g2.trans (by rw [hr]; rfl), g3.trans (by rw [hr]; rfl), g4.trans (by rw [hr]; rfl),
        g5.trans (by rw [hr]; rfl), g6.trans (by rw [hr]; rfl), g7.trans (by rw [hr]; rfl), es, g8.trans (by rw [hr]; rfl)⟩
    have hwup : w.path.upstream = .forwarded ⟨true, addr, data, st⟩ := by rw [hw]; rfl
    have hwcomp : w.path.completion = s.path.completion := by
      have : w.path.completion = (closeVisit false r).path.completion := by rw [hw]; rfl
      rw [this, hrep.grows.2.2, hr]
      rfl
    have hvw : (endAct (openVisit m.toNat w)).visit = (openVisit m.toNat w).visit := by simp
    refine ⟨_, hexec, fun b hb => ?_, ?_, hgrow.2.1.trans hwup, hgrow.2.2.trans hwcomp, ?_, ?_, ?_, ?_⟩
    · cases b <;> simp at hb <;> simp [SameBlock, hw, setPatronCopy, forward, k4, k6, k8] <;> rw [hr] <;> rfl
    · obtain ⟨e1, e2, e3, e4, e5, e6, e7, es, e8⟩ := hgrow.1
      obtain ⟨f1, f2, f3, f4, f5, f6, f7, fs, f8⟩ := hwk
      exact ⟨e1.trans f1, e2.trans f2, e3.trans f3, e4.trans f4, e5.trans f5, e6.trans f6, e7.trans f7, fs ++ es,
        by rw [e8, f8, List.append_assoc]⟩
    · have hwr : w.reading = s.reading := by
        have : w.calendar = s.calendar := by rw [hw]; exact k4.trans hrc
        rw [State.reading, this]
        rfl
      have hwa : w.active = s.active := by rw [hw]; exact hactive
      rw [hvw, openVisit_visit, hwv, hwr, hwa]
      rfl
    · rw [(endAct_keeps _).2.2.1, openVisit_engine]
      have : w.engine = s.engine := by
        rw [hw]
        exact k3.trans (by rw [hr]; rfl)
      rw [this]
    · have : w.events = (closeVisit false r).events := by rw [hw]; rfl
      rw [(endAct_keeps _).2.2.2.2.2.2.2.2.2.1, (openVisit_keeps _ _).2.2.2.2.2.2.2.1, this, hev,
        eventsAfterClose_copy hrv hrp (by rw [hr]; rfl)]
    · rw [hvw]
      exact hpost.queues hrun

end

end Sys2Proof.Machine

/-! PROOFS. The wand: its edges, the times it reaches and the passes that are decoded (Chapter 6). -/

namespace Sys2Proof.Machine

/-! ### Edges (R91 to R94) -/

section
variable {s : State} {n : Nat}

/-- Time that passes before the quiet time and the bar limit only counts. -/
theorem passTime_counts (hq : ∀ d, ticksToQuiet s = some d → n < d) (hb : ∀ d, ticksToBarLimit s = some d → n < d) :
    passTime n s = onWand (fun w => w.tick n) s := by
  unfold passTime
  split
  · next d hd => exact if_neg (Nat.not_le.mpr (hq d hd))
  · next d _ hd => exact if_neg (Nat.not_le.mpr (hb d hd))
  · rfl

theorem ticksToQuiet_bar (h : s.pins.wandBar = true) : ticksToQuiet s = none := by simp [ticksToQuiet, h]

theorem ticksToQuiet_armed (h : s.wand.capture = .armed) : ticksToQuiet s = none := by simp [ticksToQuiet, h]

theorem ticksToBarLimit_space (h : s.pins.wandBar = false) : ticksToBarLimit s = none := by simp [ticksToBarLimit, h]

theorem ticksToBarLimit_outside (h : s.wand.capture ≠ .capture) : ticksToBarLimit s = none := by simp [ticksToBarLimit, h]

/-- The state after an edge that leaves the wand as `w`. -/
def afterEdge (s : State) (w : Wand) : State := { s with
  path := { s.path with fresh := 0 }
  pins := { s.pins with wandBar := !s.pins.wandBar }
  wand := w }

/-- An edge ends the element under way, when nothing else happens before it. -/
theorem exec_wandEdge (hr : s.path.state = .running) (hn : 1 ≤ n) (hq : ∀ d, ticksToQuiet s = some d → n < d)
    (hb : ∀ d, ticksToBarLimit s = some d → n < d) :
      exec (.wandEdge n) s = .next (afterEdge s ((s.wand.tick n).edge s.active s.pins.wandBar)) := by
  have hmax : max n (1 - s.wand.counter) = n := by omega
  show execWandEdge n s = _
  rw [execWandEdge, if_pos (by simp [State.running, hr]), wandEdge, hmax]
  simp only [passTime_counts hq hb]
  rfl

/-- The element under way after `n` more ticks. -/
theorem tick_width (w : Wand) (n : Nat) : (w.tick n).width = w.base + min 65535 (w.counter + n) := rfl

/-- An edge in CAPTURE. -/
theorem edge_capture {w : Wand} (p : Profile) (b : Bool) (h : w.capture = .capture) :
    w.edge p b = { w.element with counter := 0 } := by simp [Wand.edge, h]

theorem edge_outside {w : Wand} (p : Profile) (b : Bool) (h : w.capture ≠ .capture) :
    w.edge p b = { w.outside p b with counter := 0 } := by simp [Wand.edge, h]

/-- Settles O43. -/
theorem wandEdgeEndsElement : Obligations.WandEdgeEndsElement := by
  intro s n hn w width after inTime
  refine ⟨fun hr => ?_, fun hr => ⟨fun hc hb => ?_, fun hc ht => ?_, fun hc hb hq => ?_, fun hc hb => ?_⟩⟩
  · have hstopped : s.running = false := by simp [State.running, hr]
    show execWandEdge n s = _
    rw [execWandEdge, if_neg (by simp [hstopped])]
    rfl
  · have hne : s.wand.capture ≠ .capture := by rw [hc]; exact fun h => by cases h
    have hw : exec (.wandEdge n) s = .next (afterEdge s ((s.wand.tick n).edge s.active s.pins.wandBar)) := exec_wandEdge hr hn (by simp [ticksToQuiet_armed hc])
      (by simp [ticksToBarLimit_space hb])
    have hout : (s.wand.tick n).outside s.active s.pins.wandBar = (s.wand.tick n).begin s.active := by
      rw [hb]
      simp only [Wand.outside, Wand.tick, hc]
    rw [edge_outside (w := s.wand.tick n) _ _ hne, hout] at hw
    exact hw
  · have hw : exec (.wandEdge n) s = .next (afterEdge s ((s.wand.tick n).edge s.active s.pins.wandBar)) := by
      refine exec_wandEdge hr hn (fun d hd => ?_) (fun d hd => ?_)
      · cases hb : s.pins.wandBar
        · have := ht.2 hb
          simp only [ticksToQuiet, hb, hc, Bool.false_eq_true, if_false, Option.some.injEq, Config.ticksPerMs, Wand.width] at hd
          omega
        · simp [ticksToQuiet_bar hb] at hd
      · cases hb : s.pins.wandBar
        · simp [ticksToBarLimit_space hb] at hd
        · have := ht.1 hb
          simp only [ticksToBarLimit, hb, hc, decide_true, Bool.and_self, if_true, Option.some.injEq, Config.barLimit,
            Wand.width] at hd
          omega
    rw [edge_capture (w := s.wand.tick n) _ _ hc] at hw
    have hshort (h : width < s.wand.passGlitch) :
        w.element = if s.wand.count = 0 then w.enter .armed else w.absorb := if_pos h
    have hlong (h : s.wand.passGlitch ≤ width) : w.element = w.store := if_neg (Nat.not_lt.mpr h)
    refine ⟨fun h h0 => ?_, fun h h0 hle => ?_, fun h hlt => ?_, fun h hlt => ?_, fun h hle => ?_⟩
    · rw [hshort h, if_pos h0] at hw
      exact hw
    · have ha : w.absorb = _ := if_pos hle
      rw [hshort h, if_neg (Nat.ne_of_gt h0), ha] at hw
      exact hw
    · have ha : w.absorb = _ := if_neg (Nat.not_le.mpr hlt)
      rw [hshort h, if_neg (by omega), ha] at hw
      exact hw
    · have hb : (if w.count < Config.bufferMax then w.width :: w.buffer else w.buffer) = width :: s.wand.buffer := if_pos hlt
      rw [hlong h, Wand.store, hb] at hw
      exact hw
    · have hb : (if w.count < Config.bufferMax then w.width :: w.buffer else w.buffer) = s.wand.buffer :=
        if_neg (Nat.not_lt.mpr hle)
      rw [hlong h, Wand.store, hb] at hw
      exact hw
  · have hne : s.wand.capture ≠ .capture := by rw [hc]; exact fun h => by cases h
    have hw : exec (.wandEdge n) s = .next (afterEdge s ((s.wand.tick n).edge s.active s.pins.wandBar)) := by
      refine exec_wandEdge hr hn (fun d hd => ?_) (by simp [ticksToBarLimit_space hb])
      simp only [ticksToQuiet, hb, hc, Bool.false_eq_true, if_false, Option.some.injEq, Config.ticksPerMs, Wand.width] at hd
      omega
    have hout : (s.wand.tick n).outside s.active s.pins.wandBar = { w with spaceBefore := width, base := 0 } := by
      have hcw : w.capture = .quietWait := hc
      rw [hb]
      show w.outside _ _ = _
      simp only [Wand.outside, hcw]
      rfl
    rw [edge_outside (w := s.wand.tick n) _ _ hne, hout] at hw
    exact hw
  · have hne : s.wand.capture ≠ .capture := by rw [hc]; exact fun h => by cases h
    have hw : exec (.wandEdge n) s = .next (afterEdge s ((s.wand.tick n).edge s.active s.pins.wandBar)) := exec_wandEdge hr hn (by simp [ticksToQuiet_bar hb])
      (by simp [ticksToBarLimit_outside hne])
    have hout : (s.wand.tick n).outside s.active s.pins.wandBar = { w with
        spaceBefore := 0
        base := if min 65535 (s.wand.counter + n) < s.active.glitchLimit then
          s.wand.spaceBefore + min 65535 (s.wand.counter + n) else 0 } := by
      have hcw : w.capture = .quietWait := hc
      rw [hb]
      show w.outside _ _ = _
      simp only [Wand.outside, hcw]
      rfl
    rw [edge_outside (w := s.wand.tick n) _ _ hne, hout] at hw
    exact hw

/-! ### A scan error (R98) -/

theorem requestTone_grows (p : Pattern) (s : State) : PathGrows s (requestTone p s) := .of_path (by simp)

theorem requestTone_reports (p : Pattern) (s : State) : Reports s (requestTone p s) [] :=
  .of_path (by simp) (by simp [State.active])

/-- The events once a tone has been requested of a running part. -/
theorem requestTone_events {p : Pattern} {s : State} (hr : s.path.state = .running) : (requestTone p s).events =
    { s.events with
      sounder := if s.active.sounderEnable then soundAfter s.active s.events.sounder p else s.events.sounder } := by
  unfold requestTone
  cases he : s.active.sounderEnable <;> simp [State.running, hr]

theorem scanBad_events {code : Nat} {s : State} (hr : s.path.state = .running) :
    (scanBad code s).events = eventsAfterScanBad s code := by
  rw [scanBad, requestTone_events (by simpa using hr)]
  simp [raise, Event.record, stampEvent, eventsAfterScanBad, EventUnit.latch, Event.place, EventUnit.stamp, State.reading,
    State.active]
  rfl

theorem scanBad_reports {code : Nat} {s : State} :
    Reports s (scanBad code s) (stampMirror (raise .scanBad code s).events 1) :=
  (raise_reports_stamp rfl ..).keep (requestTone_reports ..)

/-- A request of a tone leaves the stamps. -/
theorem stampMirror_scanBad (code : Nat) (s : State) :
    stampMirror (scanBad code s).events 1 = stampMirror (raise .scanBad code s).events 1 := by
  unfold scanBad requestTone
  split <;> rfl

/-- A pass discarded with a scan error: a change of the wand, the event, its stamp and its tone. -/
theorem scanBad_discards {code : Nat} {s : State} (hr : s.path.state = .running) (w : Wand) :
    let t := endAct (scanBad code (s.setWand w))
    OnlyChanges [.path, .wand, .events] s t ∧ PathGrows s t ∧ t.wand = w ∧ t.events = eventsAfterScanBad s code ∧
      Queues s t (stampMirror t.events 1) := by
  intro t
  have hrep : Reports s (endAct (scanBad code (s.setWand w))) (stampMirror (scanBad code (s.setWand w)).events 1) := by
    have h0 : Reports s (s.setWand w) [] := .of_path rfl rfl
    rw [stampMirror_scanBad]
    exact (h0.after scanBad_reports).keep (endAct_reports _)
  have hev : t.events = eventsAfterScanBad s code := by
    simp only [t, (endAct_keeps _).2.2.2.2.2.2.2.2.2.1]
    rw [scanBad_events (by exact hr)]
    rfl
  refine ⟨fun b hb => ?_, hrep.grows, by simp [t], hev, ?_⟩
  · cases b <;> simp at hb <;> simp [SameBlock, t]
  · simp only [t, (endAct_keeps _).2.2.2.2.2.2.2.2.2.1]
    exact hrep.posts.queues hr

end

end Sys2Proof.Machine

/-! PROOFS. The times that the wand reaches (Chapter 6). -/

namespace Sys2Proof.Machine

/-! ### Ticks (R91, R107) -/

/-- A guard memory past its life is empty, and one within it stands. -/
theorem guardAfter_dead {w : Wand} {g : GuardMemory} {ms : Nat} (hg : w.guard = some g)
    (h : 2000 ≤ (w.ms - g.endStamp).toNat + ms) : guardAfter w ms = none := by
  simp only [guardAfter, hg]
  exact if_pos h

theorem guardAfter_live {w : Wand} {g : GuardMemory} {ms : Nat} (hg : w.guard = some g)
    (h : ¬ 2000 ≤ (w.ms - g.endStamp).toNat + ms) : guardAfter w ms = some g := by
  simp only [guardAfter, hg]
  exact if_neg h

/-- The guard memory after two stretches of time is that after both together. -/
theorem guardAfter_tick (w : Wand) (a b : Nat) : guardAfter (w.tick a) (((w.msPhase + a) % 250 + b) / 250) =
    guardAfter w ((w.msPhase + (a + b)) / 250) := by
  have hsum : (w.msPhase + (a + b)) / 250 = (w.msPhase + a) / 250 + ((w.msPhase + a) % 250 + b) / 250 := by omega
  cases hg : w.guard with
  | none => simp [guardAfter, Wand.tick, hg]
  | some g =>
    by_cases hlive : 2000 ≤ (w.ms - g.endStamp).toNat + (w.msPhase + a) / 250
    · have h1 : (w.tick a).guard = none := guardAfter_dead hg hlive
      rw [guardAfter_dead hg (ms := (w.msPhase + (a + b)) / 250) (by omega)]
      simp only [guardAfter, h1]
    · have h1 : (w.tick a).guard = some g := guardAfter_live hg hlive
      have h2 : ((w.tick a).ms - g.endStamp).toNat = (w.ms - g.endStamp).toNat + (w.msPhase + a) / 250 := by
        show (w.ms + BitVec.ofNat 32 ((w.msPhase + a) / 250) - g.endStamp).toNat = _
        generalize (w.msPhase + a) / 250 = k at *
        bv_omega
      simp only [guardAfter, h1, hg, h2, hsum, Nat.add_assoc]

/-- The counts of the wand are in their ranges, and the guard memory has been emptied when it is due. -/
structure Wand.Settled (w : Wand) : Prop where
  counter : w.counter ≤ 65535
  phase : w.msPhase < 250
  guard : guardAfter w 0 = w.guard

/-- Time leaves settled counts. -/
theorem settled_tick (w : Wand) (n : Nat) : (w.tick n).Settled where
  counter := Nat.min_le_left ..
  phase := Nat.mod_lt _ (by decide)
  guard := by
    have h := guardAfter_tick w n 0
    have h0 : ((w.msPhase + n) % 250 + 0) / 250 = 0 := by omega
    rw [h0] at h
    exact h

/-- No time changes nothing. -/
theorem Wand.Settled.tick_zero {w : Wand} (h : w.Settled) : w.tick 0 = w := by
  have hm : min Config.barLimit w.counter = w.counter := Nat.min_eq_right h.counter
  have h0 : w.msPhase / Config.ticksPerMs = 0 := Nat.div_eq_of_lt h.phase
  have h1 : w.msPhase % Config.ticksPerMs = w.msPhase := Nat.mod_eq_of_lt h.phase
  simp only [Wand.tick, Nat.add_zero, hm, h0, h1, h.guard]
  simp

theorem Wand.Settled.onWand {s : State} (h : s.wand.Settled) : onWand (fun w => w.tick 0) s = s := by
  rw [Machine.onWand, h.tick_zero]
  rfl

theorem Wand.Settled.enter {w : Wand} (h : w.Settled) (st : CaptureState) : (w.enter st).Settled :=
  ⟨h.counter, h.phase, h.guard⟩

theorem Wand.Settled.handOver {w : Wand} (h : w.Settled) : w.handOver.Settled := ⟨h.counter, h.phase, h.guard⟩

theorem Wand.Settled.overLong {w : Wand} (h : w.Settled) : w.overLong.Settled := ⟨Nat.le_refl _, h.phase, h.guard⟩

theorem scanBad_wand (code : Nat) (s : State) : (scanBad code s).wand = s.wand := by simp

/-- What a space that reaches the quiet time leaves of the wand. -/
theorem quietReached_wand (s : State) : (quietReached s).wand = s.wand ∨ (quietReached s).wand = s.wand.enter .armed ∨
    (quietReached s).wand = s.wand.handOver := by
  unfold quietReached
  split
  · exact .inr (.inl rfl)
  · exact .inl rfl
  · unfold endPass
    split
    · exact .inr (.inl (scanBad_wand ..))
    · split
      · exact .inr (.inr rfl)
      · exact .inr (.inl (scanBad_wand ..))

theorem barOver_wand (s : State) : (barOver s).wand = s.wand.overLong := scanBad_wand ..

/-- Time up to the quiet time ends with what it reaches. -/
theorem passTime_quiet {s : State} {d : Nat} (h : ticksToQuiet s = some d) :
    passTime d s = quietReached (onWand (fun w => w.tick d) s) := by
  have hset : (quietReached (onWand (fun w => w.tick d) s)).wand.Settled := by
    have ht : (onWand (fun w => w.tick d) s).wand.Settled := settled_tick s.wand d
    rcases quietReached_wand (onWand (fun w => w.tick d) s) with hw | hw | hw
    · rw [hw]
      exact ht
    · rw [hw]
      exact ht.enter _
    · rw [hw]
      exact ht.handOver
  simp only [passTime, h, Nat.le_refl, if_true, Nat.sub_self, hset.onWand]

/-- Time up to the bar limit ends with the discarded pass. -/
theorem passTime_bar {s : State} {d : Nat} (hq : ticksToQuiet s = none) (h : ticksToBarLimit s = some d) :
    passTime d s = barOver (onWand (fun w => w.tick d) s) := by
  have hset : (barOver (onWand (fun w => w.tick d) s)).wand.Settled := by
    rw [barOver_wand]
    exact (settled_tick s.wand d).overLong
  simp only [passTime, hq, h, Nat.le_refl, if_true, Nat.sub_self, hset.onWand]

/-! ### The end of the guard memory (R107) -/

/-- What empties the guard memory: the millisecond count, its phase and the memory. -/
def Wand.memory (w : Wand) := (w.ms, w.msPhase, w.guard)

/-- The guard memory after time depends on these alone. -/
theorem guard_tick_congr {w x : Wand} (h : x.memory = w.memory) (n : Nat) : (x.tick n).guard = (w.tick n).guard := by
  simp only [Wand.memory, Prod.mk.injEq] at h
  obtain ⟨h1, h2, h3⟩ := h
  simp only [Wand.tick, guardAfter, h1, h2, h3]

theorem guard_tick_tick (w : Wand) (a b : Nat) : ((w.tick a).tick b).guard = (w.tick (a + b)).guard := guardAfter_tick w a b

theorem quietReached_memory (s : State) : (quietReached s).wand.memory = s.wand.memory := by
  rcases quietReached_wand s with h | h | h <;> rw [h] <;> rfl

theorem barOver_memory (s : State) : (barOver s).wand.memory = s.wand.memory := by rw [barOver_wand]; rfl

/-- The guard memory after time, whatever the element under way reaches meanwhile. -/
theorem passTime_guard (n : Nat) (s : State) : (passTime n s).wand.guard = (s.wand.tick n).guard := by
  have halves {d : Nat} (hd : d ≤ n) {u : State} (hu : u.wand.memory = (s.wand.tick d).memory) :
      (onWand (fun w => w.tick (n - d)) u).wand.guard = (s.wand.tick n).guard := by
    have h := guard_tick_congr hu (n - d)
    rw [guard_tick_tick, Nat.add_sub_cancel' hd] at h
    exact h
  unfold passTime
  split
  · split
    · next hd => exact halves hd (quietReached_memory _)
    · rfl
  · split
    · next hd => exact halves hd (barOver_memory _)
    · rfl
  · rfl

theorem endPass_keeps (s : State) : (endPass s).store = s.store ∧ (endPass s).pins = s.pins ∧ (endPass s).engine = s.engine ∧
    (endPass s).calendar = s.calendar ∧ (endPass s).visit = s.visit ∧ (endPass s).journal = s.journal ∧
    (endPass s).upload = s.upload ∧ (endPass s).profile = s.profile ∧ (endPass s).pending = s.pending := by
  unfold endPass
  split
  · simp
  · split <;> simp

theorem quietReached_keeps (s : State) : (quietReached s).store = s.store ∧ (quietReached s).pins = s.pins ∧
    (quietReached s).engine = s.engine ∧ (quietReached s).calendar = s.calendar ∧ (quietReached s).visit = s.visit ∧
    (quietReached s).journal = s.journal ∧ (quietReached s).upload = s.upload ∧ (quietReached s).profile = s.profile ∧
    (quietReached s).pending = s.pending := by
  unfold quietReached
  split
  · simp
  · simp
  · exact endPass_keeps s

theorem passTime_keeps (n : Nat) (s : State) : (passTime n s).store = s.store ∧ (passTime n s).pins = s.pins ∧
    (passTime n s).engine = s.engine ∧ (passTime n s).calendar = s.calendar ∧ (passTime n s).visit = s.visit ∧
    (passTime n s).journal = s.journal ∧ (passTime n s).upload = s.upload ∧ (passTime n s).profile = s.profile ∧
    (passTime n s).pending = s.pending := by
  unfold passTime
  split
  · split
    · simp [quietReached_keeps]
    · simp
  · split
    · simp [barOver]
    · simp
  · simp

/-- The guard memory is empty once its life has passed. -/
theorem guard_tick_end {w : Wand} {g : GuardMemory} (hg : w.guard = some g) :
    (w.tick (250 * (2000 - (w.ms - g.endStamp).toNat) - w.msPhase)).guard = none := by
  have hend : 2000 ≤ (w.ms - g.endStamp).toNat +
      (w.msPhase + (250 * (2000 - (w.ms - g.endStamp).toNat) - w.msPhase)) / 250 := by omega
  exact guardAfter_dead hg hend

/-! ### What the times bring -/

/-- A space of a running part reaches the quiet time. -/
theorem exec_quietTimeReached {s : State} {d : Nat} (hr : s.path.state = .running) (h : ticksToQuiet s = some d) :
    exec .quietTimeReached s = .next (endAct (quietReached (s.setWand (s.wand.tick d)))) := by
  show execQuietTimeReached s = _
  simp only [execQuietTimeReached, h, actIf, State.running, hr, decide_true, if_true, done, passTime_quiet h]
  rfl

/-- Settles O44. -/
theorem wandTimesReached : Obligations.WandTimesReached := by
  intro s hr toQuiet toLimit entered discarded
  refine ⟨fun hb hc => ?_, fun hb hc => ?_, fun hb hc => ?_, fun g hg => ?_⟩
  · rw [exec_quietTimeReached hr (by simp only [ticksToQuiet, hb, hc]; rfl)]
    have hc' : (s.wand.tick (250 * s.active.quietTime - s.wand.width)).capture = .quietWait := hc
    simp only [quietReached, State.setWand_wand]
    rw [show Config.ticksPerMs = 250 from rfl, hc']
    rfl
  · have hx := exec_quietTimeReached hr (s := s) (by simp only [ticksToQuiet, hb, hc]; rfl)
    have hend : quietReached (s.setWand (toQuiet s.wand.passQuiet)) = endPass (s.setWand (toQuiet s.wand.passQuiet)) := by
      have hc' : (toQuiet s.wand.passQuiet).capture = .capture := hc
      simp only [quietReached, State.setWand_wand, hc']
    have hx' : exec .quietTimeReached s = .next (endAct (endPass (s.setWand (toQuiet s.wand.passQuiet)))) :=
      hx.trans (congrArg (fun t => Host.Outcome.next (endAct t)) hend)
    have hfits (h : s.wand.count ≤ 192) : ¬ Config.bufferMax < (toQuiet s.wand.passQuiet).count := Nat.not_lt.mpr h
    refine ⟨fun h hf => ?_, fun h hf => ?_, fun h => ?_⟩
    · have hp : endPass (s.setWand (toQuiet s.wand.passQuiet)) = onWand Wand.handOver (s.setWand (toQuiet s.wand.passQuiet)) :=
        (if_neg (hfits h)).trans (if_pos hf)
      rw [hx', hp]
      rfl
    · have hp : endPass (s.setWand (toQuiet s.wand.passQuiet)) =
          scanBad errDecoderBusy (onWand (Wand.enter .armed) (s.setWand (toQuiet s.wand.passQuiet))) :=
        (if_neg (hfits h)).trans (if_neg hf)
      rw [hp] at hx'
      exact ⟨_, hx', scanBad_discards (code := errDecoderBusy) hr ((toQuiet s.wand.passQuiet).enter .armed)⟩
    · have hp : endPass (s.setWand (toQuiet s.wand.passQuiet)) =
          scanBad errTooLong (onWand (Wand.enter .armed) (s.setWand (toQuiet s.wand.passQuiet))) := if_pos h
      rw [hp] at hx'
      exact ⟨_, hx', scanBad_discards (code := errTooLong) hr ((toQuiet s.wand.passQuiet).enter .armed)⟩
  · have hlimit : ticksToBarLimit s = some (65535 - (s.wand.base + s.wand.counter)) := by
      simp only [ticksToBarLimit, hb, hc, decide_true, Bool.and_self, if_true]
      rfl
    have hx : exec .barTooLong s = .next (endAct (barOver (s.setWand toLimit))) := by
      show execBarTooLong s = _
      simp only [execBarTooLong, hlimit, actIf, State.running, hr, decide_true, if_true, done,
        passTime_bar (ticksToQuiet_bar hb) hlimit]
      rfl
    exact ⟨_, hx, scanBad_discards (code := errBarTooLong) hr toLimit.overLong⟩
  · obtain ⟨n, hn⟩ : ∃ n, n = 250 * (2000 - (s.wand.ms - g.endStamp).toNat) - s.wand.msPhase := ⟨_, rfl⟩
    have hx : exec .repeatGuardExpire s = .next (endAct (passTime n s)) := by
      have ht : ticksToGuardEnd s.wand = some n := by rw [ticksToGuardEnd, hg, hn]
      show execRepeatGuardExpire s = _
      simp only [execRepeatGuardExpire, ht, actIf, State.running, hr, decide_true, if_true, done]
    have hempty : (s.wand.tick n).guard = none := by rw [hn]; exact guard_tick_end hg
    refine ⟨⟨_, hx, fun b hb => ?_, ?_⟩, fun hc => ?_⟩
    · cases b <;> simp at hb <;> simp [SameBlock, passTime_keeps]
    · rw [(endAct_keeps _).2.2.2.2.1, passTime_guard, hempty]
    · have hne : s.wand.capture ≠ .capture := by rw [hc]; exact fun h => by cases h
      have ht : passTime n s = s.setWand { s.wand.tick n with guard := none } := by
        rw [passTime_counts (by simp [ticksToQuiet_armed hc]) (by simp [ticksToBarLimit_outside hne]), ← hempty]
        rfl
      rw [hx, ht, hn]
      rfl

end Sys2Proof.Machine

/-! PROOFS. The outcome of a pass and the scan ring (Chapter 6). -/

namespace Sys2Proof.Machine

/-! ### An accepted scan (R107, R108) -/

/-- The idle timer of an open visit is loaded. -/
def timerReloaded (s : State) : VisitUnit :=
  if s.visit.visit.isSome then
    { s.visit with idleTimer := if s.active.idleTimeout = 0 then none else some s.active.idleTimeout } else s.visit

theorem reloadTimer_eq (s : State) : reloadTimer s = s.setVisit (timerReloaded s) := by
  unfold reloadTimer timerReloaded
  split <;> rfl

/-- The sounder of a running part once a tone has been requested. -/
def soundRequested (s : State) (p : Pattern) : Option Playing :=
  if s.active.sounderEnable then soundAfter s.active s.events.sounder p else s.events.sounder

theorem requestTone_eq {p : Pattern} {s : State} (hr : s.path.state = .running) :
    requestTone p s = s.setEvents { s.events with sounder := soundRequested s p } := by
  unfold requestTone soundRequested
  cases s.active.sounderEnable
  · rfl
  · simp [State.running, hr]

/-- The guard memory of an accepted scan. -/
def Wand.accepted (w : Wand) (c : ScanContent) : Wand :=
  { w with guard := some ⟨c.patron, c.digits, w.decodeBuffer.endStamp⟩, decoder := .free }

/-- An accepted scan: the memory takes it, ACCEPT sounds, and an open visit's timer is reloaded. -/
theorem acceptScan_eq {c : ScanContent} {s : State} (hr : s.path.state = .running) : acceptScan c s =
    ((s.setWand (s.wand.accepted c)).setEvents { s.events with sounder := soundRequested s .accept }).setVisit
      (timerReloaded s) := by
  have hr' : (rememberScan c s).path.state = .running := hr
  rw [acceptScan, requestTone_eq hr', reloadTimer_eq]
  rfl

section
variable {s : State} {c : ScanContent}

/-- A pass that repeats the content of the memory within the guard time. -/
theorem repeats_iff : repeats s c = true ↔ ∃ g, s.wand.guard = some g ∧ c.patron = g.patron ∧ c.digits = g.digits ∧
    (s.wand.decodeBuffer.startStamp - g.endStamp).toNat < s.active.repeatGuard := by
  unfold repeats
  cases s.wand.guard with
  | none => simp
  | some g => simp only [Bool.and_eq_true, decide_eq_true_eq, Option.some.injEq, exists_eq_left', and_assoc]

theorem exec_passDecode (hr : s.path.state = .running) (hb : s.wand.decoder = .busy) :
    exec .passDecode s = .next (endAct (decodeOutcome s)) := by
  show execPassDecode s = _
  simp [execPassDecode, actIf, State.running, hr, hb, done]

theorem reportWandCounts_reports (s : State) : Reports s (reportWandCounts s) [(22, wandCountWord s.wand)] :=
  produce_reports ..

/-- The wand's counts reported when they have changed. -/
theorem reportCounts_reports (p : Prop) [Decidable p] (s : State) : Reports s (if p then s else reportWandCounts s)
    (if p then [] else [(22, wandCountWord s.wand)]) := by
  by_cases h : p
  · simp only [if_pos h]
    exact .refl s
  · simp only [if_neg h]
    exact reportWandCounts_reports s

/-- Settles O45. -/
theorem passDecoded : Obligations.PassDecoded := by
  intro s hr hb
  refine ⟨fun code hd => ?_, fun c hd => ?_⟩
  · have hx : exec .passDecode s = .next (endAct (scanBad code (s.setWand { s.wand with decoder := .free }))) := by
      rw [exec_passDecode hr hb]
      simp only [decodeOutcome, hd]
      rfl
    exact ⟨_, hx, scanBad_discards hr _⟩
  intro repeated
  refine ⟨fun g hg => ?_, fun hno hw => ?_, fun hno hw => ?_⟩
  · have hrep : repeats s c = true := repeats_iff.mpr ⟨g, hg⟩
    have hx : exec .passDecode s = .next (endAct (dropRepeat s)) := by
      rw [exec_passDecode hr hb]
      simp only [decodeOutcome, hd, hrep, if_true]
    obtain ⟨w, hw⟩ : ∃ w : Wand, w = { s.wand with
        repeats := min (s.wand.repeats + 1) 65535
        guard := some { g with endStamp := s.wand.decodeBuffer.endStamp }
        decoder := .free } := ⟨_, rfl⟩
    have hdrop : dropRepeat s =
        if w.repeats = s.wand.repeats then s.setWand w else reportWandCounts (s.setWand w) := by
      have hwand : (onWand (fun w => { w with
          repeats := min (w.repeats + 1) 65535
          guard := w.guard.map fun g => { g with endStamp := w.decodeBuffer.endStamp }
          decoder := .free }) s) = s.setWand w := by
        rw [hw, onWand, hg.1]
        rfl
      simp only [dropRepeat, hwand]
      rfl
    have h0 : Reports s (s.setWand w) [] := .of_path rfl rfl
    have hreports := (h0.after (reportCounts_reports (w.repeats = s.wand.repeats) (s.setWand w))).keep (endAct_reports _)
    have hwand : (if w.repeats = s.wand.repeats then s.setWand w else reportWandCounts (s.setWand w)).wand = w := by
      split <;> simp
    rw [hdrop] at hx
    refine ⟨_, hx, fun b hb => ?_, hreports.grows, ?_, ?_⟩
    · cases b <;> simp at hb <;> simp only [SameBlock] <;> split <;> simp
    · rw [(endAct_keeps _).2.2.2.2.1, hwand, hw]
    · rw [(endAct_keeps _).2.2.2.2.1, hwand]
      exact hreports.posts.queues hr
  · have hrep : repeats s c = false := by
      rw [Bool.eq_false_iff]
      exact fun h => (repeats_iff.mp h).elim hno
    rw [exec_passDecode hr hb]
    simp only [decodeOutcome, hd, hrep, Bool.false_eq_true, if_false, offerScan, hw, if_true]
    rw [show (decide (0 < s.path.fresh)) = (decide (0 < s.path.fresh) && !false) by simp]
    rfl
  · have hrep : repeats s c = false := by
      rw [Bool.eq_false_iff]
      exact fun h => (repeats_iff.mp h).elim hno
    rw [exec_passDecode hr hb]
    simp only [decodeOutcome, hd, hrep, Bool.false_eq_true, if_false, offerScan, hw, acceptScan_eq hr]
    simp only [soundRequested, timerReloaded, endAct]
    cases s.active.sounderEnable <;> rfl

/-! ### The scan ring (R108, R109) -/

/-- The word that an owner has written last for STATUS word `n`. -/
theorem lookup_eq_find? (ws : List (Nat × Word)) (n : Nat) :
    ws.lookup n = (ws.find? fun q => decide (q.1 = n)).map fun q => q.2 := by
  induction ws with
  | nil => rfl
  | cons q rest ih =>
    obtain ⟨k, v⟩ := q
    by_cases h : k = n
    · subst h
      simp
    · have hb : (n == k) = false := by simpa using fun e => h e.symm
      simp [List.lookup_cons, hb, h, ih]

theorem followed_eq (ws : List (Nat × Word)) (p : Nat × Word) : followed ws p =
    match ws.find? (fun q => q.1 = p.1) with
    | some q => if 10 ≤ p.1 then q else p
    | none => p := by
  unfold followed
  rw [lookup_eq_find?]
  cases hf : ws.find? (fun q => decide (q.1 = p.1)) with
  | none => simp
  | some q =>
    have hq : q.1 = p.1 := by simpa using List.find?_some hf
    simp [← hq]

/-- The line after written words, in the model's words. -/
theorem lineAfter_eq (ws : List (Nat × Word)) (line : List Group) : line.map (Group.follow ws) = lineAfter ws line := by
  refine List.map_congr_left fun g _ => ?_
  unfold Group.follow
  by_cases h : g.owner = .adoption
  · simp only [h, if_true, ne_eq, not_true, if_false, funext (followed_eq ws)] <;> rfl
  · simp [h]

end

end Sys2Proof.Machine

/-! PROOFS. The acts that wait for the queue: a scan record and a system entry (Chapters 6 and 8). -/

namespace Sys2Proof.Machine

/-! ### The line of groups -/

/-- The only group of the line, which is an owner's, leaves it empty. -/
theorem dropGroup_single {o : GroupOwner} {line : List Group} (h : (frontGroups line).any (fun g => g.owner = o) = true)
    (hl : line.length = 1) : dropGroup o line = [] := by
  obtain ⟨g, rfl⟩ := List.length_eq_one_iff.mp hl
  have ho : g.owner = o := by simpa [frontGroups] using h
  simp [dropGroup, ho, closeGap]

/-- A group that replaces none joins the line behind the others, or does not join it. -/
theorem produce_waiting {o : GroupOwner} (ho : o.replaces = false) (ws : List (Nat × Word)) (b : Bool) (s : State) :
    ∃ gs, (produce o ws b s).path.waiting = s.path.waiting ++ gs := by
  unfold produce
  simp only [ho, Bool.false_and, Bool.false_eq_true, if_false]
  split
  · exact ⟨[], (List.append_nil _).symm⟩
  · split
    · exact ⟨[], by simp⟩
    · exact ⟨_, rfl⟩

/-- A STATUS word placed at its act while the window is enabled. -/
theorem mirrorWrite_enabled {s : State} (h : s.active.statusWin.enable = true) (n : Nat) (w : Word) :
    mirrorWrite s n w = [⟨s.active.statusAddr n, w⟩] := if_pos h

theorem le_pwqFree {s : State} {n : Nat} (h : s.path.pwq.length + n ≤ 24) : n ≤ pwqFree s := by
  simp only [pwqFree, Config.pwqDepth]
  omega

/-! ### The scan record (R108, R109) -/

section
variable {s : State} {c : ScanContent}

theorem exec_scanRecordWrite (hr : s.path.state = .running) (hd : s.wand.decoder = .offering c)
    (hs : s.active.statusWin.enable = true) (hf : atFront s .scanRecord = true) (hl : s.path.pwq.length ≤ 19) :
    exec .scanRecordWrite s = .next (endAct (scanAct c s)) := by
  have hroom : scanRoom s ≤ pwqFree s := by
    rw [scanRoom, if_pos hs]
    exact le_pwqFree (by omega)
  have hready : scanReady s = some c := by simp [scanReady, hd, hf, hroom]
  show execScanRecordWrite s = _
  simp only [execScanRecordWrite, hready, actIf, State.running, hr, decide_true, if_true, done]

/-- A record written: the queue takes it with the producer mirror, and the scan is accepted. -/
theorem writeScan_eq (hr : s.path.state = .running) (hs : s.active.statusWin.enable = true) : writeScan c s = { s with
    path := { s.path with
      pwq := s.path.pwq ++ (scanEntries s c ++ [⟨s.active.statusAddr 11, word (s.wand.producer + 1#16).toNat⟩])
      waiting := s.path.waiting.map (Group.follow [(11, word (s.wand.producer + 1#16).toNat)]) }
    wand := { s.wand with producer := s.wand.producer + 1#16 }.accepted c
    visit := timerReloaded s
    events := { s.events with latchA := s.events.latchA ||| 512#15, sounder := soundRequested s .accept } } := by
  simp only [writeScan, mirrorWrite_enabled hs, raise_plain (e := .scanReady) rfl]
  rw [acceptScan_eq (by exact hr)]
  rfl

theorem overrun_grows (s : State) : PathGrows s (overrun s) := by
  simp only [overrun]
  refine .trans ?_ ((raise_grows ..).trans (requestTone_grows ..))
  refine .trans ?_ (reportCounts_reports ..).grows
  exact .of_path rfl

/-- A scan over a full ring is counted. -/
def Wand.overran (w : Wand) : Wand := { w with overruns := min (w.overruns + 1) 65535, decoder := .free }

theorem overrun_eq (s : State) : overrun s = requestTone .rejectScan (raise .scanOverrun 0
    (if s.wand.overran.overruns = s.wand.overruns then s.setWand s.wand.overran
    else reportWandCounts (s.setWand s.wand.overran))) := rfl

theorem overrun_keeps (s : State) : (overrun s).store = s.store ∧ (overrun s).pins = s.pins ∧
    (overrun s).engine = s.engine ∧ (overrun s).calendar = s.calendar ∧ (overrun s).visit = s.visit ∧
    (overrun s).journal = s.journal ∧ (overrun s).upload = s.upload ∧ (overrun s).profile = s.profile ∧
    (overrun s).pending = s.pending ∧ (overrun s).wand = s.wand.overran := by
  rw [overrun_eq]
  split <;> simp

theorem overrun_events (hr : s.path.state = .running) : (overrun s).events =
    { s.events with latchA := s.events.latchA ||| 2048#15, sounder := soundRequested s .rejectScan } := by
  rw [overrun_eq, requestTone_eq (by split <;> simpa using hr)]
  split <;>
    simp [raise_plain (e := .scanOverrun) rfl, EventUnit.latch, Event.place, soundRequested, State.active] <;> rfl

theorem overrun_posts (s : State) : Posts s (overrun s)
    (if s.wand.overran.overruns = s.wand.overruns then [] else [(22, wandCountWord s.wand.overran)]) := by
  have h0 : Reports s (s.setWand s.wand.overran) [] := .of_path rfl rfl
  have h1 := h0.after (reportCounts_reports (s.wand.overran.overruns = s.wand.overruns) (s.setWand s.wand.overran))
  rw [overrun_eq]
  exact ((h1.keep (raise_reports rfl 0 _)).keep (requestTone_reports ..)).posts

/-- Settles O46. -/
theorem scanRecordWritten : Obligations.ScanRecordWritten := by
  intro s c hr hd hw hs hf hl unread place sounds
  have hx := exec_scanRecordWrite hr hd hs hf hl
  obtain ⟨u, hu⟩ : ∃ u, u = leaveWait .scanRecord s := ⟨_, rfl⟩
  have hact : scanAct c s = if unread < 32 then writeScan c u else overrun u := by
    rw [hu]
    simp only [scanAct, hw, Bool.not_true, Bool.false_eq_true, if_false]
    rfl
  refine ⟨fun hlt => ?_, fun hge => ?_⟩
  · rw [hx, hact, if_pos hlt, writeScan_eq (by rw [hu]; exact hr) (by rw [hu]; exact hs), hu]
    simp only [lineAfter_eq, ← List.append_assoc]
    rfl
  · rw [if_neg (Nat.not_lt.mpr hge)] at hact
    rw [hact] at hx
    have hru : u.path.state = .running := by rw [hu]; exact hr
    have hsu : PathGrows s u := by rw [hu]; exact pathGrows_of_still rfl (List.prefix_refl _)
    have hk := overrun_keeps u
    refine ⟨_, hx, fun b hb => ?_, (hsu.trans (overrun_grows u)).trans (endAct_grows _), ?_, ?_, fun h1 => ?_⟩
    · cases b <;> simp at hb <;> simp [SameBlock, hk] <;> simp [hu]
    · rw [(endAct_keeps _).2.2.2.2.1, hk.2.2.2.2.2.2.2.2.2, hu]
      rfl
    · rw [(endAct_keeps _).2.2.2.2.2.2.2.2.2.1, overrun_events hru, hu]
      rfl
    · have hempty : u.path.waiting = [] := by rw [hu]; exact dropGroup_single hf h1
      have hpw : u.path.pwq = s.path.pwq := by rw [hu]; rfl
      have hwv : u.wand = s.wand := by rw [hu]; rfl
      have hopen : Open u (if u.wand.overran.overruns = u.wand.overruns then []
          else [(22, wandCountWord u.wand.overran)]).length := by
        refine ⟨by rw [hu]; exact hs, .inr hru, hempty, ?_⟩
        rw [hpw]
        split <;> simp <;> omega
      obtain ⟨h2, h3⟩ := (overrun_posts u).opened hopen
      refine ⟨by rw [endAct_waiting, h3], ?_⟩
      rw [endAct_pwq, h2, hpw, statusEntries_congr (s := s) (by rw [hu]; rfl), (endAct_keeps _).2.2.2.2.1,
        hk.2.2.2.2.2.2.2.2.2, hwv]

end

/-! ### The system entry (R133 to R136) -/

section
variable {s : State} {e : JEntry} {rest : List JEntry}

theorem judgeLow_path (s : State) : (judgeLow s).path = s.path := by
  unfold judgeLow
  split
  · split
    · simp [raise_plain (e := .journalLow) rfl]
    · rfl
  · rfl

theorem freeEntries_congr {s t : State} (hp : t.profile = s.profile) (hh : t.journal.head = s.journal.head)
    (ht : t.journal.tail = s.journal.tail) : t.freeEntries = s.freeEntries := by
  simp only [State.freeEntries, State.present, State.active, hp, hh, ht]

/-- The eight words of an entry at its ring place. -/
theorem entryWrites_eq (s : State) (e : JEntry) : entryWrites s e = entryAtHead s e := rfl

/-- The state before the low mark is judged, an entry being kept with the words `ws`. -/
def entryPlaced (e : JEntry) (ws : List QEntry) (s : State) : State := { s with
  path := { s.path with
    pwq := s.path.pwq ++ (entryAtHead s e ++ ws ++ mirrorWrite s 12 (s.journal.head + 1#32))
    waiting := s.path.waiting.map (Group.follow [(12, s.journal.head + 1#32)]) }
  journal := { s.journal with head := s.journal.head + 1#32 } }

theorem appendKept_eq (e : JEntry) (ws : List QEntry) (s : State) : appendKept e ws s = judgeLow (entryPlaced e ws s) := rfl

theorem appendKept_path (e : JEntry) (ws : List QEntry) (s : State) :
    (appendKept e ws s).path = (entryPlaced e ws s).path := by rw [appendKept_eq, judgeLow_path]

theorem appendKept_freeEntries (e : JEntry) (ws : List QEntry) (s : State) :
    (entryPlaced e ws s).freeEntries = (appendKept e ws s).freeEntries := by
  rw [appendKept_eq]
  exact (freeEntries_congr (by simp) (by simp) (by simp)).symm

theorem appendKept_journal (e : JEntry) (ws : List QEntry) (s : State) : (appendKept e ws s).journal = { s.journal with
    head := s.journal.head + 1#32
    lowArmed := decide (s.active.reserve < (appendKept e ws s).freeEntries) } := by
  rw [← appendKept_freeEntries, appendKept_eq, judgeLow_journal]
  rfl

theorem appendKept_events (e : JEntry) (ws : List QEntry) (s : State) : (appendKept e ws s).events = { s.events with
    latchB := s.events.latchB |||
      (if (appendKept e ws s).freeEntries ≤ s.active.reserve ∧ s.journal.lowArmed = true then 64#12 else 0#12) } := by
  rw [← appendKept_freeEntries, appendKept_eq, judgeLow_events]
  rfl

/-- The state before JOURNAL_LOST is raised, an entry being lost with the words `ws`. -/
def entryDropped (ws : List QEntry) (s : State) : State := { s with
  path := { s.path with
    pwq := s.path.pwq ++ (ws ++ mirrorWrite s 20 (word (min (s.journal.lossCount + 1) 65535)))
    waiting := s.path.waiting.map (Group.follow [(20, word (min (s.journal.lossCount + 1) 65535))]) }
  journal := { s.journal with lossCount := min (s.journal.lossCount + 1) 65535 } }

/-- A lost entry's mirror holds the loss count, which no field cuts short. -/
theorem lossWord_of_le {j : Journal} (h : j.lossCount ≤ 65535) : lossWord j = word j.lossCount := by
  have hlt : j.lossCount % 2 ^ 16 = j.lossCount := Nat.mod_eq_of_lt (by omega)
  simp only [lossWord, put, hlt, Nat.pow_zero, Nat.mul_one]

theorem appendLost_eq (ws : List QEntry) (s : State) :
    appendLost ws s = raise .journalLost (lostAddress s) (entryDropped ws s) := by
  have hw : lossWord (countLoss s).journal = word (min (s.journal.lossCount + 1) 65535) :=
    lossWord_of_le (Nat.min_le_right ..)
  simp only [appendLost, hw]
  rfl

theorem appendLost_journal (ws : List QEntry) (s : State) :
    (appendLost ws s).journal = { s.journal with lossCount := min (s.journal.lossCount + 1) 65535 } := by
  rw [appendLost_eq]
  simp [entryDropped]

theorem appendLost_events (ws : List QEntry) (s : State) : (appendLost ws s).events = { s.events with
    latchB := s.events.latchB ||| 128#12
    stamps := s.events.stamps.set 3 ((s.events.stamp 3).note s.active.stampLast s.reading
      (if s.active.journalWin.enable then (s.active.journalAddr s.journal.head 0).toNat else 0)) } := by
  rw [appendLost_eq, raise_journalLost_events]
  rfl

/-- The words a lost entry places, with those of its stamp behind them when no group waits. -/
theorem appendLost_posts (ws : List QEntry) (s : State) :
    Posts (entryDropped ws s) (appendLost ws s) (stampMirror (appendLost ws s).events 3) := by
  rw [appendLost_eq]
  exact raise_posts_stamp rfl

theorem appendLost_waiting (ws : List QEntry) (s : State) :
    ∃ gs, (appendLost ws s).path.waiting = (entryDropped ws s).path.waiting ++ gs := by
  rw [appendLost_eq]
  exact produce_waiting (o := .stamp 3) rfl ..

/-- Settles O49. -/
theorem systemEntryAppended : Obligations.SystemEntryAppended := by
  intro s e rest hq hf hs hl
  have hx : exec .systemEntryAppend s = .next (endAct (appendSystem s)) := by
    have hroom : systemRoom s ≤ pwqFree s := by
      rw [systemRoom, if_pos hs]
      exact le_pwqFree (by omega)
    have hready : systemReady s = true := by simp [systemReady, hq, show atFront s .systemEntry = true from hf, hroom]
    show execSystemEntryAppend s = _
    simp only [execSystemEntryAppend, hready, actIf, if_true, done]
  obtain ⟨u, hu⟩ : ∃ u, u = leaveWait .systemEntry (s.setJournal { s.journal with systemQueue := rest }) := ⟨_, rfl⟩
  have hfree : u.freeEntries = s.freeEntries := by rw [hu]; rfl
  have hact : appendSystem s = if 0 < s.freeEntries then appendKept e [] u else appendLost [] u := by
    rw [← hfree, hu]
    simp only [appendSystem, hq]
  refine ⟨fun hpos => ?_, fun hzero => ?_⟩
  · rw [hact, if_pos hpos] at hx
    have hfe : (endAct (appendKept e [] u)).freeEntries = (appendKept e [] u).freeEntries := rfl
    refine ⟨_, hx, fun b hb => ?_, ?_, ?_, ?_⟩
    · cases b <;> simp at hb <;> simp [SameBlock] <;> simp [hu]
    · have hp : (endAct (appendKept e [] u)).path = { (entryPlaced e [] u).path with fresh := 0 } := by
        rw [← appendKept_path]
        rfl
      have hsu : u.active.statusWin.enable = true := by rw [hu]; exact hs
      rw [hp, entryPlaced, mirrorWrite_enabled hsu, hu]
      simp only [lineAfter_eq, List.append_nil, ← List.append_assoc]
      rfl
    · rw [hfe, (endAct_keeps _).2.2.2.2.2.2.1, appendKept_journal, hu]
      rfl
    · rw [hfe, (endAct_keeps _).2.2.2.2.2.2.2.2.2.1, appendKept_events, hu]
      rfl
  · rw [hact, if_neg (by omega)] at hx
    have hpost := appendLost_posts [] u
    obtain ⟨es, hes⟩ := hpost.grown.exists
    obtain ⟨gs, hgs⟩ := appendLost_waiting [] u
    have hsu : u.active.statusWin.enable = true := by rw [hu]; exact hs
    have hdropped : (entryDropped [] u).path.pwq =
        s.path.pwq ++ [⟨s.active.statusAddr 20, word (min (s.journal.lossCount + 1) 65535)⟩] := by
      rw [entryDropped, mirrorWrite_enabled hsu, hu]
      rfl
    have hline : (entryDropped [] u).path.waiting = lineAfter [(20, word (min (s.journal.lossCount + 1) 65535))]
        (dropGroup .systemEntry s.path.waiting) := by
      rw [← lineAfter_eq, entryDropped, hu]
      rfl
    refine ⟨_, es, hx, fun b hb => ?_, ?_, fun hr h1 => ?_, ⟨gs, ?_⟩, ?_, ?_⟩
    · cases b <;> simp at hb <;> simp [SameBlock] <;> simp [hu]
    · rw [endAct_pwq, hes, hdropped]
    · have hempty : (entryDropped [] u).path.waiting = [] := by
        rw [hline, dropGroup_single hf h1]
        rfl
      have hopen : Open (entryDropped [] u) (stampMirror (appendLost [] u).events 3).length := by
        refine ⟨hsu, .inr (by rw [entryDropped, hu]; exact hr), hempty, ?_⟩
        have h2 : (stampMirror (appendLost [] u).events 3).length = 2 := rfl
        rw [h2, hdropped, List.length_append, List.length_singleton]
        omega
      have h2 := (hpost.opened hopen).1
      rw [hes] at h2
      have h3 := List.append_cancel_left h2
      rw [h3, statusEntries_congr (s := s) (by rw [entryDropped, hu]; rfl), (endAct_keeps _).2.2.2.2.2.2.2.2.2.1]
    · rw [endAct_waiting, hgs, hline]
    · rw [(endAct_keeps _).2.2.2.2.2.2.1, appendLost_journal, hu]
      rfl
    · rw [(endAct_keeps _).2.2.2.2.2.2.2.2.2.1, appendLost_events, hu]
      rfl

end

end Sys2Proof.Machine

/-! PROOFS. The printer line (Chapter 7). -/

namespace Sys2Proof.Machine

/-! ### The printer in the visit word (R113) -/

/-- The two bits of the printer state in the visit word. -/
theorem visitWord_printer_bits (v : VisitUnit) {k : Nat} (hk : k < 2) :
    (visitWord v).getLsbD (12 + k) = v.printer.code.testBit k := by
  have h1 : ¬ 12 + k < 2 := by omega
  have h2 : ¬ 12 + k < 2 + 5 := by omega
  have h3 : ¬ 12 + k < 7 + 1 := by omega
  have h4 : ¬ 12 + k < 8 + 3 := by omega
  have h5 : ¬ 12 + k < 11 + 1 := by omega
  have h6 : 12 + k < 12 + 2 := by omega
  have h7 : 12 + k < 32 := by omega
  simp only [visitWord, BitVec.getLsbD_or, put_getLsbD]
  simp [h1, h2, h3, h4, h5, h6, h7]

/-- The visit word tells the printer states apart. -/
theorem visitWord_ne_of_printer {v w : VisitUnit} (h : v.printer.code ≠ w.printer.code) : visitWord v ≠ visitWord w := by
  intro he
  have hlt (p : Printer) : p.code < 4 := by cases p <;> simp [Printer.code]
  refine h (code_eq_of_bits (hlt _) (hlt _) ?_ ?_)
  · rw [← visitWord_printer_bits v (k := 0) (by decide), ← visitWord_printer_bits w (k := 0) (by decide), he]
  · rw [← visitWord_printer_bits v (k := 1) (by decide), ← visitWord_printer_bits w (k := 1) (by decide), he]

/-! ### The line (R126) -/

section
variable {v : VisitUnit} {n : Nat} {text : List Byte} {rest : List Slip}

theorem lastByte_at_rest (h : v.byteInProgress = false) : lastByte v = false := by
  unfold lastByte
  split <;> simp [h]

theorem lastByte_not_sending (h : ∀ n, v.printer ≠ .sending n) : lastByte v = false := by
  unfold lastByte
  split
  · next n hn => exact absurd hn (h n)
  · rfl

theorem lastByte_sending (hp : v.printer = .sending n) (hb : v.byteInProgress = true) (hs : v.slips = .ready text :: rest) :
    lastByte v = decide (text.length ≤ n + 1) := by simp [lastByte, hp, hb, headLength, hs]

theorem betweenBytes_sending (hp : v.printer = .sending n) : betweenBytes v = !v.byteInProgress := by simp [betweenBytes, hp]

theorem betweenBytes_not_sending (h : ∀ n, v.printer ≠ .sending n) : betweenBytes v = false := by
  unfold betweenBytes
  split
  · next n hn => exact absurd hn (h n)
  · rfl

theorem not_sending_of_idle_or_wait (h : v.printer = .idle ∨ v.printer = .paperWait) (n : Nat) : v.printer ≠ .sending n := by
  rcases h with h | h <;> rw [h] <;> exact fun hc => by cases hc

theorem byteSent_not_sending {s : State} (busy : Bool) (h : ∀ n, s.visit.printer ≠ .sending n) :
    byteSent busy s = (setBusyLine busy s).setVisit { s.visit with byteInProgress := false } := by
  unfold byteSent
  split
  · next n hn => exact absurd hn (h n)
  · rfl

theorem isSending_iff (p : Printer) : p.isSending = true ↔ ∃ n, p = .sending n := by cases p <;> simp [Printer.isSending]

end

section
variable {s : State} {busy : Bool}

/-- A byte whose stop bit ends no slip. -/
theorem exec_printerByteSent (hb : s.visit.byteInProgress = true) (hl : lastByte s.visit = false) :
    exec (.printerByteSent busy) s = .next (endAct (byteSent busy s)) := by
  show execPrinterByteSent busy s = _
  rw [execPrinterByteSent, if_pos (by simp [hb, hl])]
  rfl

/-- Where no stop bit can come, the command tells only the line's level, unless the line is between two bytes. -/
theorem exec_printerByteSent_level (h : s.visit.byteInProgress = false ∨ lastByte s.visit = true) :
    exec (.printerByteSent busy) s =
      if betweenBytes s.visit then .next s else .next (endAct (setBusyLine busy s)) := by
  show execPrinterByteSent busy s = _
  rw [execPrinterByteSent, if_neg (by rcases h with h | h <;> simp [h])]
  cases betweenBytes s.visit <;> rfl

/-- Settles O48. -/
theorem printerLineKeepsPace : Obligations.PrinterLineKeepsPace := by
  intro s busy level quiet
  refine ⟨fun n hp hb text rest hs hlt => ?_, fun hp hb => ?_, fun h => ?_, fun n hp hb => ?_, fun n hp => ?_, fun hp => ?_,
    fun h => ?_, fun n hp => ?_, fun hr hp ho => ?_⟩
  · rw [exec_printerByteSent hb (by simpa [lastByte_sending hp hb hs] using hlt)]
    simp only [byteSent, hp]
    rfl
  · rw [exec_printerByteSent hb (lastByte_not_sending (not_sending_of_idle_or_wait hp))]
    rw [byteSent_not_sending busy (not_sending_of_idle_or_wait hp)]
    rfl
  · have hlevel : (s.visit.byteInProgress = false ∨ lastByte s.visit = true) ∧ betweenBytes s.visit = false := by
      rcases h with ⟨hp, hb⟩ | ⟨n, text, rest, hp, hb, hs, hle⟩
      · exact ⟨.inl hb, betweenBytes_not_sending (not_sending_of_idle_or_wait hp)⟩
      · exact ⟨.inr (by simpa [lastByte_sending hp hb hs] using hle), by simp [betweenBytes_sending hp, hb]⟩
    rw [exec_printerByteSent_level hlevel.1, hlevel.2]
    rfl
  · rw [exec_printerByteSent_level (.inl hb), betweenBytes_sending hp, hb]
    rfl
  · show execPrnBusyRelease s = _
    simp only [execPrnBusyRelease, busyReleased, betweenBytes_sending hp]
    cases hb : s.visit.byteInProgress
    · rfl
    · have hsame : { s.visit with byteInProgress := true } = s.visit := by rw [← hb]
      rw [hsame]
      rfl
  · show execPrnBusyRelease s = _
    simp only [execPrnBusyRelease, busyReleased, betweenBytes_not_sending hp]
    rfl
  · have hc : (level && s.visit.printer.isSending) = false := by
      rcases h with h | h
      · have : s.visit.printer.isSending = false := by
          rw [Bool.eq_false_iff]
          exact fun hs => ((isSending_iff _).mp hs).elim h
        simp [this]
      · simp [h]
    show execPrnPaperOut level s = _
    simp only [execPrnPaperOut, paperLine, hc]
    rfl
  · have hsend : s.visit.printer.isSending = true := (isSending_iff _).mpr ⟨n, hp⟩
    obtain ⟨u, hu⟩ : ∃ u, u = raise .paperOut 0 ((setPaperLine true s).setVisit { s.visit with printer := .paperWait }) :=
      ⟨_, rfl⟩
    have hx : exec (.prnPaperOut true) s = .next (endAct (reportVisit s u)) := by
      show execPrnPaperOut true s = _
      simp only [execPrnPaperOut, paperLine, hsend, Bool.and_self, if_true, hu]
      rfl
    have hsu : Reports s u [] := by
      have h0 : Reports s ((setPaperLine true s).setVisit { s.visit with printer := .paperWait }) [] := .of_path rfl rfl
      rw [hu]
      exact h0.after (raise_reports rfl ..)
    have huv : u.visit = { s.visit with printer := .paperWait } := by rw [hu]; simp
    have hrep := (hsu.after (reportVisit_reports_of_ne (b := s) (visitWord_ne_of_printer (by
      rw [huv, hp]
      simp [Printer.code])))).keep (endAct_reports _)
    refine ⟨_, hx, fun b hb => ?_, hrep.grows, ?_, ?_, ?_, fun hr => ?_⟩
    · cases b <;> simp at hb <;> simp [SameBlock, hu, setPaperLine]
    · simp [hu, setPaperLine]
    · simp [huv]
    · simp [hu, setPaperLine, raise_plain (e := .paperOut) rfl, EventUnit.latch, Event.place]
    · have hv : (endAct (reportVisit s u)).visit = u.visit := by simp
      rw [hv]
      exact hrep.posts.queues hr
  · have hx : exec .paperRestored s = .next (endAct (restartSlip s)) := by
      show execPaperRestored s = _
      simp [execPaperRestored, actIf, State.running, hr, hp, ho, done]
    have hrep : Reports s (endAct (restartSlip s))
        [(23, visitWord { s.visit with printer := .sending 0, byteInProgress := !s.pins.prnBusy })] :=
      ((setVisit_reports ..).after (reportVisit_reports_of_ne (b := s) (visitWord_ne_of_printer (by
        rw [hp]
        simp [Printer.code])))).keep (endAct_reports _)
    have hv : (endAct (restartSlip s)).visit = { s.visit with printer := .sending 0, byteInProgress := !s.pins.prnBusy } := by
      simp [restartSlip]
    refine ⟨_, hx, fun b hb => ?_, hrep.grows, hv, ?_⟩
    · cases b <;> simp at hb <;> simp [SameBlock, restartSlip]
    · rw [hv]
      exact hrep.posts.queues hr

end

end Sys2Proof.Machine

/-! PROOFS. Power lost and starts begun (section 10.4). -/

namespace Sys2Proof.Machine

/-! ### Power -/

theorem exec_mainPowerLoss {s : State} (h : s.pins.mainPower = true) :
    exec .mainPowerLoss s = .next (endAct (powerFails s)) :=
  show execMainPowerLoss s = _ by simp only [execMainPowerLoss, actIf, h, if_true, done]

theorem exec_powerOn {s : State} (h : s.pins.mainPower = false) : exec .powerOn s = .next (endAct (powerArrives s)) :=
  show execPowerOn s = _ by simp only [execPowerOn, actIf, h, Bool.not_false, if_true, done]

/-- Settles O56. -/
theorem powerIsLost : Obligations.PowerIsLost := by
  intro s
  refine ⟨fun h => ⟨_, exec_mainPowerLoss h, rfl, rfl, rfl, rfl, rfl, rfl, rfl, rfl, rfl, rfl, rfl, rfl⟩, fun h => ?_⟩
  show execVbackupLoss s = _
  simp only [execVbackupLoss, actIf, h, Bool.not_false, if_true, done]
  rfl

/-! ### A start begins -/

/-- Every block at the value its table gives after a start. -/
structure Begun (s : State) (k : StartKind) (stage : StartStage) (pins : Pins) (t : State) : Prop where
  store : t.store = s.store
  pins : t.pins = pins
  pending : t.pending = s.pending
  path : ∃ up, t.path = { StorePath.freshWith k up with stage := stage } ∧
    ∀ a why, s.path.upstream = .held a why → up = .held a .startStop
  engine : t.engine = .fresh
  calendar : ∃ c : Calendar, t.calendar = c.freshWith
  wand : t.wand = .fresh
  visit : t.visit = .fresh
  journal : t.journal = .fresh
  upload : t.upload = .freshWith defaultProfile.upload
  profile : t.profile = .fresh
  events : t.events = .fresh

theorem Begun.attn {s t : State} {k : StartKind} {stage : StartStage} {pins : Pins} (h : Begun s k stage pins t) :
    t.attn = false := by simp [State.attn, h.events, EventUnit.fresh]

theorem carried_of_held {u : Upstream} {a : Access} {why : Hold} (h : u = .held a why) :
    u.carried = .held a .startStop := by
  rw [h]
  rfl

/-- A start that begins from `s`, whose pins and calendar have moved to `s0`. -/
theorem beginStart_begun {s s0 : State} (k : StartKind) (hs : s0.store = s.store) (hp : s0.pending = s.pending)
    (hu : s0.path.upstream = s.path.upstream) : Begun s k .profileReads s0.pins (endAct (beginStart k s0)) where
  store := hs
  pins := rfl
  pending := hp
  path := ⟨_, rfl, fun _ _ h => carried_of_held (hu.trans h)⟩
  engine := rfl
  calendar := ⟨_, rfl⟩
  wand := rfl
  visit := rfl
  journal := rfl
  upload := rfl
  profile := rfl
  events := rfl

/-- The state from which a power-on start begins. -/
def powered (s : State) : State :=
  (s.setPins { s.pins with mainPower := true }).setCalendar (readLossRecord s.calendar)

theorem powerArrives_released {s : State} (h : (s.pins.reset || s.pins.pfail) = false) :
    powerArrives s = beginStart .powerOn (powered s) :=
  if_pos (by simpa [Pins.released, beginStart] using h)

theorem powerArrives_awaits {s : State} (h : (s.pins.reset || s.pins.pfail) = true) :
    powerArrives s = (beginStart .powerOn (powered s)).setPath
      { (beginStart .powerOn (powered s)).path with stage := .awaitLines } :=
  if_neg (by simpa [Pins.released, beginStart, ← Bool.not_and, imp_iff_not_or] using h)

theorem powerArrives_begun (s : State) :
    Begun s .powerOn (if s.pins.reset || s.pins.pfail then .awaitLines else .profileReads)
      { s.pins with mainPower := true } (endAct (powerArrives s)) := by
  have h := beginStart_begun (s := s) (s0 := powered s) .powerOn rfl rfl rfl
  by_cases hl : (s.pins.reset || s.pins.pfail) = true
  · obtain ⟨up, hup, hheld⟩ := h.path
    rw [powerArrives_awaits hl, if_pos hl]
    exact { h with path := ⟨_, rfl, fun _ _ h => carried_of_held h⟩ }
  · rw [powerArrives_released (by simpa using hl), if_neg hl]
    exact h

theorem readLossRecord_of_false {c : Calendar} (h : c.backupLoss = false) : readLossRecord c = c :=
  if_neg (by simp [h])

theorem readLossRecord_of_true {c : Calendar} (h : c.backupLoss = true) : readLossRecord c =
    { c with day := 0, minute := 0, second := 0, prescaler := 0, valid := false, backupLoss := false } := if_pos h

theorem powerArrives_calendar (s : State) : (powerArrives s).calendar = (readLossRecord s.calendar).freshWith := by
  unfold powerArrives
  exact apply_ite State.calendar _ _ _ |>.trans (ite_self _)

theorem exec_start {s : State} (hs : s.path.state = .parked) (hr : s.pins.reset = false) (hp : s.pins.pfail = false)
    (hm : s.pins.mainPower = true) : exec .start s = .next (endAct (beginStart (parkedKind s) s)) := by
  show execStart s = _
  simp only [execStart, actIf, startReady, Pins.released, hs, hr, hp, hm, done, Bool.not_false, Bool.and_true,
    decide_true, if_true]

theorem lineReleased_starts {s : State} (hs : s.path.stage = .awaitLines) (hr : s.pins.reset = false)
    (hp : s.pins.pfail = false) : lineReleased s = beginStart .powerOn s :=
  if_pos (by simp [hs, Pins.released, hr, hp])

theorem lineReleased_waits {s : State} (h : s.path.stage ≠ .awaitLines ∨ s.pins.released = false) :
    lineReleased s = s := if_neg (by rcases h with h | h <;> simp [h])

theorem exec_pfailRelease {s : State} (h : s.pins.pfail = true) :
    exec .pfailRelease s = .next (endAct (lineReleased (setPfail false s))) :=
  show execPfailRelease s = _ by simp only [execPfailRelease, actIf, h, if_true, done]

theorem exec_resetRelease {s : State} (h : s.pins.reset = true) :
    exec .resetRelease s = .next (endAct (lineReleased (setReset false s))) :=
  show execResetRelease s = _ by simp only [execResetRelease, actIf, h, if_true, done]

/-- Settles O55. -/
theorem startsBegin : Obligations.StartsBegin := by
  intro s begun clockKept
  have starts {k : StartKind} {stage : StartStage} {pins : Pins} {t : State} (h : Begun s k stage pins t) :
      begun k stage pins t := by
    have hattn := h.attn
    obtain ⟨hst, hpi, hpe, ⟨up, hpa, hup⟩, hen, ⟨c, hca⟩, hwa, hvi, hjo, hul, hpr, hev⟩ := h
    unfold begun
    rw [hst, hpi, hpe, hpa, hen, hca, hwa, hvi, hjo, hul, hpr, hattn, hev]
    exact ⟨rfl, rfl, rfl, rfl, rfl, hup, rfl, rfl, rfl, rfl, rfl, rfl, rfl, rfl, rfl, rfl, rfl, rfl, rfl, rfl, rfl,
      rfl, rfl⟩
  refine ⟨fun hs hr hp hm => ?_, fun hm => ?_, fun hp => ⟨fun hw => ?_, fun hs hr => ?_⟩,
    fun hr => ⟨fun hw => ?_, fun hs hp => ?_⟩⟩
  · exact ⟨_, exec_start hs hr hp hm, ⟨rfl, rfl, rfl⟩, starts (beginStart_begun _ rfl rfl rfl)⟩
  · have hcal := powerArrives_calendar s
    refine ⟨_, exec_powerOn hm, starts (powerArrives_begun s), fun hb => ?_, fun hb => ?_⟩
    · rw [readLossRecord_of_false hb] at hcal
      simp only [clockKept, State.reading, (endAct_keeps _).2.2.2.1, hcal]
      exact ⟨rfl, rfl, rfl⟩
    · rw [readLossRecord_of_true hb] at hcal
      simp only [State.reading, (endAct_keeps _).2.2.2.1, hcal]
      exact ⟨rfl, rfl, rfl⟩
  · rw [exec_pfailRelease hp, lineReleased_waits (s := setPfail false s)
      (hw.imp id fun h => by simp [setPfail, Pins.released, h])]
    rfl
  · rw [exec_pfailRelease hp, lineReleased_starts (s := setPfail false s) hs hr rfl]
    exact ⟨_, rfl, ⟨rfl, rfl, rfl⟩, starts (beginStart_begun (s0 := setPfail false s) _ rfl rfl rfl)⟩
  · rw [exec_resetRelease hr, lineReleased_waits (s := setReset false s)
      (hw.imp id fun h => by simp [setReset, Pins.released, h])]
    rfl
  · rw [exec_resetRelease hr, lineReleased_starts (s := setReset false s) hs rfl hp]
    exact ⟨_, rfl, ⟨rfl, rfl, rfl⟩, starts (beginStart_begun (s0 := setReset false s) _ rfl rfl rfl)⟩

end Sys2Proof.Machine

/-! PROOFS. The orderly stop (section 9.7). -/

namespace Sys2Proof.Machine

/-! ### The groups that stay in the line -/

/-- Which groups stay, and what they hold, goes by the owner alone. -/
theorem keepWaiting_map (keep : Group → Bool) (gap : Bool) (line : List Group) :
    (keepWaiting keep gap line).map (fun g => (g.owner, g.words)) =
      (line.filter keep).map fun g => (g.owner, g.words) := by
  induction line generalizing gap with
  | nil => rfl
  | cons g rest ih =>
    unfold keepWaiting
    by_cases h : keep g
    · simp [h, ih]
    · simp [h, ih]

/-! ### The engine and the visit at a stop -/

theorem Engine.stopped_commit {e : Engine} {op : Op} (h : e.state = .commit) (ho : e.op = some op) :
    e.stopped = { e with crq := [], busy := opClaims op } := by
  simp only [Engine.stopped, h, ho]

theorem Engine.stopped_idle {e : Engine} (h : ¬ (e.state = .commit ∧ e.op ≠ none)) :
    e.stopped = { e with crq := [], busy := [], state := .idle, op := none } := by
  unfold Engine.stopped
  split
  case h_1 op hs ho => exact absurd ⟨hs, by simp [ho]⟩ h
  case h_2 => rfl

theorem stopped_stateMap (e : Engine) : e.stopped.stateMap = e.stateMap := by
  unfold Engine.stopped
  split <;> rfl

/-- The blocks at an orderly stop, before an open visit is discarded. -/
def haltedAt (s : State) : State := { s with
  path := s.path.stopped s.pins.reset
  engine := s.engine.stopped
  calendar := { s.calendar with load := none }
  wand := s.wand.stopped
  visit := s.visit.stopped
  upload := s.upload.stopped
  profile := { s.profile with candidate := none }
  events := { s.events with sounder := none } }

theorem settleVisit_waits {s : State} {op : Op} (h : s.engine.op = some op) : settleVisit s = s :=
  if_neg (by simp [h])

theorem settleVisit_settles {s : State} (hs : s.path.state = .stopping) (h : s.engine.op = none) :
    settleVisit s = clearVisit s := if_pos (by simp [hs, h])

/-- The engine carries a decided operation through. -/
def Engine.Committing (e : Engine) : Prop := e.state = .commit ∧ e.op ≠ none

theorem beginStop_committing {s : State} (h : s.engine.Committing) : beginStop s = haltedAt s := by
  obtain ⟨hc, ho⟩ := h
  obtain ⟨op, hop⟩ := Option.ne_none_iff_exists'.mp ho
  refine settleVisit_waits (s := haltedAt s) (op := op) ?_
  show s.engine.stopped.op = _
  rw [Engine.stopped_commit hc hop]
  exact hop

theorem beginStop_discards {s : State} (h : ¬ s.engine.Committing) : beginStop s = clearVisit (haltedAt s) := by
  refine settleVisit_settles (s := haltedAt s) rfl ?_
  show s.engine.stopped.op = _
  rw [Engine.stopped_idle h]

/-- The stop of every block, the open visit discarded or not. -/
theorem beginStop_eq (s : State) : ∃ v, beginStop s = (haltedAt s).setVisit v ∧
    (s.engine.Committing → v = s.visit.stopped) ∧
    (¬ s.engine.Committing → v = { s.visit.stopped with visit := none, idleTimer := none }) := by
  by_cases h : s.engine.Committing
  · exact ⟨_, beginStop_committing h, fun _ => rfl, fun hn => absurd h hn⟩
  · exact ⟨_, beginStop_discards h, fun hc => absurd hc h, fun _ => rfl⟩

/-! ### The lines -/

theorem lineAsserted_stops {s : State} (h : s.path.state = .running ∨ s.path.state = .starting) :
    lineAsserted s = beginStop s := by
  unfold lineAsserted
  rcases h with h | h <;> rw [h]

theorem lineAsserted_remembers {s : State} (h : s.path.state = .stopping ∨ s.path.state = .parked) :
    lineAsserted s = s.setPath { s.path with resetSeen := s.path.resetSeen || s.pins.reset } := by
  unfold lineAsserted
  rcases h with h | h <;> rw [h]

theorem exec_pfail {s : State} (h : s.pins.pfail = false) :
    exec .pfail s = .next (endAct (lineAsserted (setPfail true s))) :=
  show execPfail s = _ by simp only [execPfail, actIf, h, Bool.not_false, if_true, done]

theorem exec_reset {s : State} (h : s.pins.reset = false) :
    exec .reset s = .next (endAct (lineAsserted (setReset true s))) :=
  show execReset s = _ by simp only [execReset, actIf, h, Bool.not_false, if_true, done]

theorem settled_of {s : State} (hs : s.path.state = .stopping) (hp : s.path.pwq = []) (hw : s.path.waiting = [])
    (ho : s.engine.op = none) (hu : ∀ a, s.path.upstream ≠ .forwarded a) (hb : s.visit.byteInProgress = false)
    (hc : s.upload.cutByte = false) : settled s = true := by
  have : s.path.upstream.underWay = false := by
    cases h : s.path.upstream with
    | forwarded a => exact absurd h (hu a)
    | held => rfl
    | idle => rfl
  simp [settled, hs, hp, hw, ho, hb, hc, this]

/-- Settles O54. -/
theorem stopsAndParks : Obligations.StopsAndParks := by
  intro s stops
  have halts (c : Instr) (pins : Pins) (hexec : exec c s = .next (endAct (beginStop (s.setPins pins)))) :
      stops c pins := by
    obtain ⟨v, hv, hcommits, hdiscards⟩ := beginStop_eq (s.setPins pins)
    rw [hv] at hexec
    refine ⟨_, hexec, fun b hb => ?_, rfl, rfl, rfl, rfl, rfl, rfl, keepWaiting_map _ _ _, rfl, fun a ha => ?_,
      fun a why ha => ?_, stopped_crq _, fun hc ho => ?_, fun hc => ?_, stopped_stateMap _, rfl, rfl,
      fun hc ho => hcommits ⟨hc, ho⟩, hdiscards, rfl, rfl, rfl⟩
    · cases b <;> simp at hb <;> rfl
    · exact congrArg Upstream.stopped ha
    · exact congrArg Upstream.stopped ha
    · obtain ⟨op, hop⟩ := Option.ne_none_iff_exists'.mp ho
      have h := Engine.stopped_commit hc hop
      exact ⟨(congrArg Engine.state h).trans hc, (congrArg Engine.op h).trans rfl⟩
    · have h := Engine.stopped_idle (e := s.engine) fun h => hc h.1
      exact ⟨congrArg Engine.state h, congrArg Engine.op h, congrArg Engine.busy h⟩
  refine ⟨fun hs => ⟨fun h => ?_, fun h => ?_⟩, fun hs => ⟨fun h => ?_, fun h => ?_⟩,
    fun hs hp hw ho hu hb hc => ?_⟩
  · exact halts _ _ ((exec_pfail h).trans (by rw [lineAsserted_stops (s := setPfail true s) hs]; rfl))
  · exact halts _ _ ((exec_reset h).trans (by rw [lineAsserted_stops (s := setReset true s) hs]; rfl))
  · rw [exec_pfail h, lineAsserted_remembers (s := setPfail true s) hs]
    rfl
  · rw [exec_reset h, lineAsserted_remembers (s := setReset true s) hs]
    exact congrArg (fun b => Host.Outcome.next
      { setReset true s with path := { s.path with resetSeen := b, fresh := 0 } }) (Bool.or_true _)
  · show execStopParked s = _
    simp only [execStopParked, actIf, settled_of hs hp hw ho hu hb hc, if_true, done]
    rfl

end Sys2Proof.Machine

/-! PROOFS. The receiver of the upload line (section 8.3). -/

namespace Sys2Proof.Machine

/-! ### One byte -/

theorem setRx_setRx (st st' : RxState) (bs bs' : List Byte) (s : State) : setRx st bs (setRx st' bs' s) = setRx st bs s :=
  rfl

theorem setRx_self {s : State} {st : RxState} {bs : List Byte} (hr : s.upload.rxState = st) (hb : s.upload.rxBytes = bs) :
    setRx st bs s = s := by
  subst hr hb
  rfl

theorem rxByte_idle {s : State} (h : s.upload.state = .idle) (b : Byte) : rxByte s b = s := by
  simp only [rxByte, h]

theorem rxByte_hunt {s : State} (ha : s.upload.state ≠ .idle) (h : s.upload.rxState = .hunt) (b : Byte) :
    rxByte s b = if b = Config.startByte then setRx .header [] s else s := by
  unfold rxByte
  split <;> simp_all

theorem rxByte_hunt_skips {s : State} (h : s.upload.rxState = .hunt) {b : Byte} (hb : b ≠ 0xA5#8) : rxByte s b = s := by
  by_cases ha : s.upload.state = .idle
  · exact rxByte_idle ha b
  · rw [rxByte_hunt ha h, if_neg hb]

/-- The length a header names, which the bytes behind it do not change. -/
theorem rxLength_cons (type high low : Byte) (rest : List Byte) :
    rxLength (type :: high :: low :: rest) = 256 * high.toNat + low.toNat := rfl

section
variable {s : State} (ha : s.upload.state ≠ .idle)
include ha

theorem rxByte_header (bs : List Byte) (b : Byte) : rxByte (setRx .header bs s) b =
    if (bs ++ [b]).length = 3 then headerReceived (bs ++ [b]) s else setRx .header (bs ++ [b]) s := by
  unfold rxByte
  split
  case h_1 h => exact absurd h ha
  case h_3 => rfl
  all_goals exact RxState.noConfusion (‹_› : RxState.header = _)

theorem rxByte_payload (bs : List Byte) (b : Byte) : rxByte (setRx .payload bs s) b =
    if (bs ++ [b]).length = 3 + rxLength (bs ++ [b]) then setRx .check (bs ++ [b]) s
    else setRx .payload (bs ++ [b]) s := by
  unfold rxByte
  split
  case h_1 h => exact absurd h ha
  case h_4 => rfl
  all_goals exact RxState.noConfusion (‹_› : RxState.payload = _)

theorem rxByte_check (bs : List Byte) (b : Byte) : rxByte (setRx .check bs s) b =
    if (bs ++ [b]).length = 5 + rxLength (bs ++ [b]) then frameReceived (bs ++ [b]) (setRx .hunt [] s)
    else setRx .check (bs ++ [b]) s := by
  unfold rxByte
  split
  case h_1 h => exact absurd h ha
  case h_5 => rfl
  all_goals exact RxState.noConfusion (‹_› : RxState.check = _)

/-! ### A frame, byte after byte -/

theorem rxBytesIn_header (type high low : Byte) :
    rxBytesIn [type, high, low] (setRx .header [] s) = headerReceived [type, high, low] s := by
  have hfirst : rxByte (setRx .header [] s) type = setRx .header [type] s := rxByte_header ha [] type
  have hsecond : rxByte (setRx .header [type] s) high = setRx .header [type, high] s := rxByte_header ha [type] high
  have hthird : rxByte (setRx .header [type, high] s) low = headerReceived [type, high, low] s :=
    rxByte_header ha [type, high] low
  simp only [rxBytesIn, List.foldl, hfirst, hsecond, hthird]

theorem rxBytesIn_payload (type high low : Byte) (xs rest : List Byte) (hx : xs ≠ [])
    (hl : (rest ++ xs).length = 256 * high.toNat + low.toNat) :
    rxBytesIn xs (setRx .payload (type :: high :: low :: rest) s) =
      setRx .check (type :: high :: low :: (rest ++ xs)) s := by
  induction xs generalizing rest with
  | nil => exact absurd rfl hx
  | cons x xs ih =>
    have hstep := rxByte_payload ha (type :: high :: low :: rest) x
    simp only [List.cons_append, rxLength_cons, List.length_cons, List.length_append, List.length_nil] at hstep hl
    have hcons : rxBytesIn (x :: xs) (setRx .payload (type :: high :: low :: rest) s) =
        rxBytesIn xs (rxByte (setRx .payload (type :: high :: low :: rest) s) x) := rfl
    rw [hcons, hstep]
    by_cases hxs : xs = []
    · subst hxs
      rw [if_pos (by simp only [List.length_nil] at hl; omega)]
      rfl
    · have hpos := List.length_pos_iff.mpr hxs
      rw [if_neg (by omega), ih (rest ++ [x]) hxs (by simpa using hl), List.append_assoc]
      rfl

theorem rxBytesIn_check (type high low c1 c0 : Byte) (payload : List Byte)
    (hl : payload.length = 256 * high.toNat + low.toNat) :
    rxBytesIn [c1, c0] (setRx .check (type :: high :: low :: payload) s) =
      frameReceived (type :: high :: low :: (payload ++ [c1, c0])) (setRx .hunt [] s) := by
  have hfirst := rxByte_check ha (type :: high :: low :: payload) c1
  have hlast := rxByte_check ha (type :: high :: low :: (payload ++ [c1])) c0
  simp only [List.cons_append, rxLength_cons, List.length_cons, List.length_append, List.length_nil,
    List.append_assoc] at hfirst hlast
  rw [if_neg (by omega)] at hfirst
  rw [if_pos (by omega)] at hlast
  simp only [rxBytesIn, List.foldl, hfirst, hlast]
  rfl

/-- A header whose length is too great discards its frame. -/
theorem rxBytesIn_oversize (hr : s.upload.rxState = .hunt) (type high low : Byte)
    (h : 1024 < 256 * high.toNat + low.toNat) : rxBytesIn [0xA5#8, type, high, low] s = setRx .hunt [] s := by
  have hstart := rxByte_hunt ha hr 0xA5#8
  rw [if_pos rfl] at hstart
  have hcons : rxBytesIn [0xA5#8, type, high, low] s = rxBytesIn [type, high, low] (rxByte s 0xA5#8) := rfl
  rw [hcons, hstart, rxBytesIn_header ha, headerReceived, rxLength_cons, if_pos h]

/-- A frame of any check, received whole. -/
theorem rxBytesIn_whole (hr : s.upload.rxState = .hunt) (type high low c1 c0 : Byte) (payload : List Byte)
    (hl : payload.length = 256 * high.toNat + low.toNat) (hmax : payload.length ≤ 1024) :
    rxBytesIn (0xA5#8 :: type :: high :: low :: (payload ++ [c1, c0])) s =
      frameReceived (type :: high :: low :: (payload ++ [c1, c0])) (setRx .hunt [] s) := by
  have hstart := rxByte_hunt ha hr 0xA5#8
  rw [if_pos rfl] at hstart
  have hsplit : rxBytesIn (0xA5#8 :: type :: high :: low :: (payload ++ [c1, c0])) s =
      rxBytesIn [c1, c0] (rxBytesIn payload (rxBytesIn [type, high, low] (rxByte s 0xA5#8))) := by
    simp only [rxBytesIn, List.foldl_cons, List.foldl_append, List.foldl_nil]
  have hbody : rxBytesIn payload (rxBytesIn [type, high, low] (rxByte s 0xA5#8)) =
      setRx .check (type :: high :: low :: payload) s := by
    rw [hstart, rxBytesIn_header ha, headerReceived, rxLength_cons, if_neg (by simp only [Config.maxPayload]; omega)]
    by_cases hp : payload = []
    · subst hp
      rw [if_pos (hl.symm.trans List.length_nil)]
      rfl
    · rw [if_neg fun h => hp (List.length_eq_zero_iff.mp (hl.trans h)), rxBytesIn_payload ha type high low payload [] hp hl]
      rfl
  rw [hsplit, hbody, rxBytesIn_check ha type high low c1 c0 payload hl]

end

/-- The two bytes of a length name it. -/
theorem length_of_bytes16 {n : Nat} (h : n ≤ 1024) : n = 256 * (byte (n / 256)).toNat + (byte n).toNat := by
  simp only [byte, BitVec.toNat_ofNat]
  omega

theorem frameReceived_body (type high low : Byte) (payload check : List Byte) (s : State)
    (hl : payload.length = 256 * high.toNat + low.toNat) :
    frameReceived (type :: high :: low :: (payload ++ check)) s =
      if check = bytes16 (crc16 (type :: high :: low :: payload)).toNat then deliver type payload s else s := by
  simp only [frameReceived, rxLength_cons, ← hl, Nat.add_comm 3, List.drop_succ_cons, List.take_succ_cons,
    List.drop_left, List.take_left, List.drop_zero]

/-- A frame of any check while the engine is not IDLE: delivered when its check is right. -/
theorem rxBytesIn_body {s : State} (ha : s.upload.state ≠ .idle) (hr : s.upload.rxState = .hunt) (type c1 c0 : Byte)
    {payload : List Byte} (hmax : payload.length ≤ 1024) :
    rxBytesIn (0xA5#8 :: (frameBody type payload ++ [c1, c0])) s =
      if [c1, c0] = bytes16 (crc16 (frameBody type payload)).toNat then deliver type payload (setRx .hunt [] s)
      else setRx .hunt [] s :=
  (rxBytesIn_whole ha hr type _ _ c1 c0 payload (length_of_bytes16 hmax) hmax).trans
    (frameReceived_body type _ _ payload [c1, c0] _ (length_of_bytes16 hmax))

/-- A frame of a right check. -/
theorem rxBytesIn_frame {s : State} (ha : s.upload.state ≠ .idle) (hr : s.upload.rxState = .hunt)
    (hb : s.upload.rxBytes = []) (type : Byte) {payload : List Byte} (hmax : payload.length ≤ 1024) :
    rxBytesIn (frameBytes type payload) s = deliver type payload s := by
  have h := rxBytesIn_body ha hr type (byte ((crc16 (frameBody type payload)).toNat / 256))
    (byte (crc16 (frameBody type payload)).toNat) hmax
  rw [setRx_self hr hb] at h
  exact h.trans (if_pos rfl)

theorem rxBytesIn_idle {s : State} (h : s.upload.state = .idle) (bs : List Byte) : rxBytesIn bs s = s := by
  induction bs with
  | nil => rfl
  | cons b bs ih => exact (congrArg (rxBytesIn bs) (rxByte_idle h b)).trans ih

theorem rxBytesIn_noStart {s : State} (h : s.upload.rxState = .hunt) (bs : List Byte) (hb : ∀ b ∈ bs, b ≠ 0xA5#8) :
    rxBytesIn bs s = s := by
  induction bs with
  | nil => rfl
  | cons b bs ih =>
    exact (congrArg (rxBytesIn bs) (rxByte_hunt_skips h (hb b (by simp)))).trans
      (ih fun x hx => hb x (List.mem_cons_of_mem b hx))

/-- A frame that is none of the central's is discarded. -/
theorem deliver_unknown {type : Byte} {payload : List Byte} (s : State)
    (h : ¬ ((type = 0x81#8 ∧ payload.length = 6) ∨ (type = 0x82#8 ∧ payload.length = 2) ∨
      (type = 0x83#8 ∧ payload.length = 3 ∧ (payload.getLast? = some 1#8 ∨ payload.getLast? = some 2#8)) ∨
      (type = 0x84#8 ∧ payload = []))) : deliver type payload s = s := by
  simp only [not_or] at h
  obtain ⟨hwelcome, hack, hnak, hbye⟩ := h
  match payload with
  | [] => exact if_neg fun ht => hbye ⟨ht, rfl⟩
  | [_] => rfl
  | [_, _] => exact if_neg fun ht => hack ⟨ht, rfl⟩
  | [n1, n0, cause] =>
    refine ite_eq_right_iff.mpr fun ht => ?_
    simp only [not_and, not_or] at hnak
    obtain ⟨h1, h2⟩ := hnak ht rfl
    have hlast : [n1, n0, cause].getLast? = some cause := rfl
    rw [hlast, Option.some_inj] at h1 h2
    unfold nakDelivered
    split
    · have hc1 : cause.toNat ≠ 1 := fun h => h1 (BitVec.eq_of_toNat_eq (y := 1#8) h)
      have hc2 : cause.toNat ≠ 2 := fun h => h2 (BitVec.eq_of_toNat_eq (y := 2#8) h)
      rw [if_neg hc1, if_neg hc2]
    · rfl
  | [_, _, _, _] => rfl
  | [_, _, _, _, _] => rfl
  | [_, _, _, _, _, _] => exact if_neg fun ht => hwelcome ⟨ht, rfl⟩
  | _ :: _ :: _ :: _ :: _ :: _ :: _ :: _ => rfl

theorem exec_frameDiscarded_same {bs : List Byte} {s : State} (h : rxBytesIn bs s = s) :
    exec (.frameDiscarded bs) s = .next { s with path := { s.path with fresh := 0 } } :=
  congrArg (fun t => Host.Outcome.next (endAct t)) h

/-- Settles O53. -/
theorem framesDiscarded : Obligations.FramesDiscarded := by
  intro s same
  have discards (bs : List Byte) (h : s.upload.state ≠ .idle → rxBytesIn bs s = s) :
      exec (.frameDiscarded bs) s = .next same := by
    refine exec_frameDiscarded_same ?_
    by_cases ha : s.upload.state = .idle
    · exact rxBytesIn_idle ha bs
    · exact h ha
  refine ⟨fun bs h => exec_frameDiscarded_same (rxBytesIn_idle h bs),
    fun bs h hb => exec_frameDiscarded_same (rxBytesIn_noStart h bs hb),
    fun type payload c1 c0 hr hb hmax hc => discards _ fun ha => ?_,
    fun type high low hr hb h => discards _ fun ha => ?_,
    fun type payload hr hb hmax h => discards _ fun ha => ?_, fun hr => ?_⟩
  · rw [rxBytesIn_body ha hr type c1 c0 hmax, if_neg hc, setRx_self hr hb]
  · rw [rxBytesIn_oversize ha hr type high low h, setRx_self hr hb]
  · rw [rxBytesIn_frame ha hr hb type hmax, deliver_unknown s h]
  · show execReceiverTimeout s = _
    simp only [execReceiverTimeout, actIf, ne_eq, hr, not_false_eq_true, decide_true, if_true, done]
    rfl

end Sys2Proof.Machine

/-! PROOFS. The Posted Write Queue admits and drains (section 9.6). -/

namespace Sys2Proof.Machine

/-! ### The admission of a group -/

/-- The group behind others of the act of the front is among those that may be admitted next. -/
theorem frontGroups_at (before after : List Group) (g : Group) (h : ∀ x ∈ (before ++ [g]).tail, x.tied = true) :
    (frontGroups (before ++ g :: after))[before.length]? = some g := by
  cases before with
  | nil => rfl
  | cons b rest =>
    have htied : ∀ x ∈ rest ++ [g], x.tied = true := h
    have hsplit : rest ++ g :: after = (rest ++ [g]) ++ after := by simp
    simp only [frontGroups, List.cons_append, List.length_cons, List.getElem?_cons_succ]
    rw [hsplit, List.takeWhile_append_of_pos htied]
    simp

theorem admissible_at {s : State} {before after : List Group} {g : Group} (hw : s.path.waiting = before ++ g :: after)
    (hfront : ∀ x ∈ (before ++ [g]).tail, x.tied = true) (hown : ∀ x ∈ before, x.owner ≠ g.owner)
    (hb : g.owner.builtLater = false) (hroom : s.path.pwq.length + g.words.length ≤ 24) :
    admissible s before.length = some g := by
  have hother : (before.any fun x => decide (x.owner = g.owner)) = false := by simpa using hown
  have hfree : g.words.length ≤ pwqFree s := by
    simp only [pwqFree, Config.pwqDepth]
    omega
  unfold admissible
  rw [hw, frontGroups_at before after g hfront, List.take_left]
  simp [hb, hother, hfree]

theorem builtLater_eq_false {o : GroupOwner} (h1 : o ≠ .engineCommit) (h2 : o ≠ .scanRecord) (h3 : o ≠ .systemEntry) :
    o.builtLater = false := by
  cases o <;> simp_all [GroupOwner.builtLater]

/-! ### The drain -/

theorem granted_of_waits {s : State} (hq : s.path.pwq ≠ []) (h : 16 ≤ s.path.pwq.length ∨ upstreamWaits s = false) :
    grantedQueue s = true := by
  have hpwq : waitsFor s .pwq = true := by simpa [waitsFor] using hq
  by_cases hu : 16 ≤ s.path.pwq.length
  · have hurgent : waitsFor s .pwqUrgent = true := by simpa [waitsFor, Config.pwqUrgent] using hu
    simp [grantedQueue, granted, Requester.order, hurgent]
  · have hurgent : waitsFor s .pwqUrgent = false := by
      simp only [waitsFor, Config.pwqUrgent, decide_eq_false_iff_not]
      exact hu
    have hup : waitsFor s .upstream = false := h.resolve_left hu
    simp [grantedQueue, granted, Requester.order, List.find?, hurgent, hup, hpwq]

/-! ### A newer group in the place of a waiting one -/

theorem produce_replaced {o : GroupOwner} {s u : State} (hp : u.path = s.path) (hprofile : u.profile = s.profile)
    (ho : o.replaces = true) (hr : s.path.state = .running) (he : s.active.statusWin.enable = true)
    (hw : s.path.waiting.any (fun g => g.owner = o) = true) (ws : List (Nat × Word)) (b : Bool) :
    produce o ws b u = replaceWaiting o ws u := by
  have he' : u.active.statusWin.enable = true := by rwa [State.active, hprofile]
  unfold produce
  rw [if_neg (by simp [writesStatus, he', hp, hr]), if_pos (by simp [ho, hp, hw])]

theorem writeClockMirror_running {s : State} (h : s.path.state = .running) :
    writeClockMirror s = produce .clockMirror (clockPair s.calendar) false s := if_pos (decide_eq_true h)

theorem reportUpload_of_ne {s u : State} (h : uploadWord u.upload ≠ uploadWord s.upload) :
    reportUpload s u = produce .uploadWord [(19, uploadWord u.upload)] false u := if_neg h

theorem reportVisit_of_ne {s u : State} (h : visitWord u.visit ≠ visitWord s.visit) :
    reportVisit s u = produce .visitWord [(23, visitWord u.visit)] true u := if_neg h

theorem exec_uplReady_waitLine {s : State} (h : s.upload.state = .waitLine) : exec (.uplReady true) s =
    .next (endAct (reportUpload s (sendHello (setReadyLine true s)))) := by
  show execUplReady true s = _
  simp only [execUplReady, readyLine, h, Bool.true_and, decide_true, if_true, done]

theorem exec_paperRestored {s : State} (hr : s.path.state = .running) (hp : s.visit.printer = .paperWait)
    (ho : s.pins.prnPaperOut = false) : exec .paperRestored s = .next (endAct (restartSlip s)) := by
  show execPaperRestored s = _
  simp only [execPaperRestored, actIf, State.running, hr, hp, ho, Bool.not_false, Bool.and_true, decide_true, if_true,
    done]

/-- Settles O42. -/
theorem queueAdmitsAndDrains : Obligations.QueueAdmitsAndDrains := by
  refine ⟨fun s before after g hw hfront hown h1 h2 h3 hroom => ?_, fun s e rest hq hturn hlaw => ?_,
    fun s o hr he hany => ?_⟩
  · have hadmit := admissible_at hw hfront hown (builtLater_eq_false h1 h2 h3) hroom
    have hline : s.path.waiting.eraseIdx before.length = before ++ after := by
      rw [hw, List.eraseIdx_append_of_length_le (Nat.le_refl _), Nat.sub_self]
      rfl
    show execPwqGroupAdmit before.length s = _
    simp only [execPwqGroupAdmit, hadmit, done]
    rw [← lineAfter_eq, ← hline]
    rfl
  · have hexec : exec .pwqDrain s = .next (endAct (drain e rest s)) := by
      show execPwqDrain s = _
      simp only [execPwqDrain, hq, granted_of_waits (by simp [hq]) hturn, if_true, done]
    refine ⟨_, hexec, fun b hb => ?_, rfl, wf_writeWord e.addr e.data fullWord hlaw, readWord_writeWord _ _ hlaw, fun b k hk hne => ?_⟩
    · cases b <;> simp at hb <;> rfl
    · exact (readLane_writeWord e.addr e.data fullWord hlaw b hk).trans (if_neg fun h => hne h.1)
  · intro replaced
    refine ⟨fun ho hsec => ?_, fun ho hu => ?_, fun ho hp hout => ?_⟩ <;> subst ho
    · have hexec : exec .clockAdvance s = .next (endAct (clockAdvance s)) := rfl
      rw [clockAdvance_second hsec] at hexec
      have hmirror := writeClockMirror_running (s := s.setCalendar
        { s.calendar with prescaler := 0, second := s.calendar.second + 1 }) hr
      refine ⟨_, hexec.trans (congrArg (fun t => Host.Outcome.next (endAct t))
        (hmirror.trans (produce_replaced (s := s) (by rfl) (by rfl) rfl hr he hany ..))), ?_⟩
      rfl
    · have hreport := reportUpload_of_ne (s := s) (u := sendHello (setReadyLine true s)) (uploadWord_ne (by
        rw [sendHello_upload, hu]
        exact UploadState.noConfusion))
      refine ⟨_, (exec_uplReady_waitLine hu).trans (congrArg (fun t => Host.Outcome.next (endAct t))
        (hreport.trans (produce_replaced (s := s) (by rfl) (by rfl) rfl hr he hany ..))), ?_⟩
      rfl
    · have hreport := reportVisit_of_ne (s := s)
        (u := s.setVisit { s.visit with printer := .sending 0, byteInProgress := !s.pins.prnBusy })
        (visitWord_ne_of_printer (by simp [hp, Printer.code]))
      refine ⟨_, (exec_paperRestored hr hp hout).trans (congrArg (fun t => Host.Outcome.next (endAct t))
        (hreport.trans (produce_replaced (s := s) (by rfl) (by rfl) rfl hr he hany ..))), ?_⟩
      rfl

end Sys2Proof.Machine

/-! PROOFS. The text of a slip (R123 to R125). -/

namespace Sys2Proof.Machine

/-! ### Dates -/

/-- The days before the first of January of a year. -/
def daysToYear (y : Nat) : Nat := 365 * (y - 2000) + (y - 2000 + 3) / 4

theorem daysToYear_succ {y : Nat} (h : 2000 ≤ y) : daysToYear (y + 1) = daysToYear y + yearLength y := by
  simp only [daysToYear, yearLength, leapYear, decide_eq_true_eq]
  split <;> omega

theorem daysToYear_mono {y k : Nat} (h : 2000 ≤ y) : daysToYear y + 365 * k ≤ daysToYear (y + k) := by
  simp only [daysToYear]
  omega

/-- The years subtracted from `y` on end at the year whose days hold the remainder. -/
theorem subYears_eq {fuel y r : Nat} (k : Nat) (hy : 2000 ≤ y) (hk : k < fuel) (hr : r < yearLength (y + k)) :
    subYears fuel y (daysToYear (y + k) - daysToYear y + r) = (y + k, r) := by
  induction fuel generalizing y k with
  | zero => omega
  | succ fuel ih =>
    cases k with
    | zero => rw [subYears, Nat.add_zero, Nat.sub_self, Nat.zero_add, if_neg (Nat.not_le.mpr (by simpa using hr))]
    | succ k =>
      have hnext : y + (k + 1) = (y + 1) + k := by omega
      have hlen := daysToYear_succ hy
      have hle := daysToYear_mono (y := y + 1) (k := k) (by omega)
      rw [hnext] at hr ⊢
      rw [subYears, if_pos (by omega)]
      have : daysToYear (y + 1 + k) - daysToYear y + r - yearLength y = daysToYear (y + 1 + k) - daysToYear (y + 1) + r := by
        omega
      rw [this, ih k (by omega) (by omega) hr]

/-- The months subtracted end at the month whose days hold the remainder. -/
theorem subMonths_eq (ls : List Nat) (m i : Nat) {r : Nat} (hr : r < ls.getD i 0) :
    subMonths ls m ((ls.take i).sum + r) = (m + i, r) := by
  induction ls generalizing m i with
  | nil => simp at hr
  | cons l rest ih =>
    cases i with
    | zero =>
      have hl : r < l := hr
      simp [subMonths, Nat.not_le.mpr hl]
    | succ i =>
      have hi : r < rest.getD i 0 := hr
      have : l + (rest.take i).sum + r - l = (rest.take i).sum + r := by omega
      rw [List.take_succ_cons, List.sum_cons, subMonths, if_pos (by omega), this, ih (m + 1) i hi]
      congr 1
      omega

theorem daysOfMonths_eq (y : Nat) : daysOfMonths y = monthLengths y := by simp [daysOfMonths, monthLengths, leapYear]

/-- The day of the year lies within the year. -/
theorem dayOfYear_lt {y i r : Nat} (hr : r < (monthLengths y).getD i 0) :
    ((monthLengths y).take i).sum + r < yearLength y := by
  have hsum : (monthLengths y).sum = yearLength y := by
    simp only [monthLengths, yearLength]
    cases leapYear y <;> rfl
  have hi : i < (monthLengths y).length := by
    by_contra h
    rw [List.getD_eq_default _ _ (Nat.le_of_not_lt h)] at hr
    omega
  have hsplit : (monthLengths y).sum = ((monthLengths y).take i).sum + ((monthLengths y).drop i).sum := by
    rw [← List.sum_append, List.take_append_drop]
  rw [List.drop_eq_getElem_cons hi, List.sum_cons] at hsplit
  rw [List.getD_eq_getElem _ _ hi] at hr
  omega

theorem dateOf_eq {n : Nat} {date : Nat × Nat × Nat} (h : DateIs n date) : dateOf n = ⟨date.1, date.2.1, date.2.2⟩ := by
  obtain ⟨y, m, d⟩ := date
  obtain ⟨hy, hy', hm, hm', hd, hd', hn⟩ := h
  rw [daysOfMonths_eq] at hd' hn
  have hr : d - 1 < (monthLengths y).getD (m - 1) 0 := by omega
  obtain ⟨k, rfl⟩ : ∃ k, y = 2000 + k := ⟨y - 2000, by omega⟩
  have hyears := subYears_eq (fuel := 100) k (Nat.le_refl 2000) (by omega) (dayOfYear_lt hr)
  have hday : daysToYear (2000 + k) - daysToYear 2000 + (((monthLengths (2000 + k)).take (m - 1)).sum + (d - 1)) = n := by
    simp only [daysToYear] at *
    omega
  rw [hday] at hyears
  simp only [dateOf, hyears, subMonths_eq _ _ _ hr]
  congr 1 <;> omega

/-! ### The lines of a slip in the model's words -/

/-- The two lines of an entry, without their line feeds. -/
def entryTexts (e : SlipEntry) (title : List Byte) : List (List Byte) :=
  [(if e.renewal then txtRenewal else []) ++ titleText title,
    txtIndent ++ e.tail.map digitByte ++ txtDue ++
      (if e.hourLoan then clockTime e.due.minute ++ [0x20#8] ++ dayMonth e.due.day else fullDate e.due.day)]

/-- The opening lines, without their line feeds. -/
def openingTexts (header : List Byte) (date : Reading) (w2 : Word) : List (List Byte) :=
  [printed header, txtDate ++ fullDate date.day ++ [0x20#8] ++ clockTime date.minute,
    txtCard ++ [digitByte (field w2 28 4), digitByte (field w2 24 4), digitByte (field w2 20 4), digitByte (field w2 16 4)],
    []]

/-- The closing lines, without their line feeds. -/
def closingTexts (entries : List SlipEntry) (continued : Bool) (w0 : Word) : List (List Byte) :=
  (if entries.any (fun e => e.shortened) then [txtExpires ++ fullDate (min (field w0 16 16) Config.lastDay)] else []) ++
    [txtItems ++ shortNumber entries.length] ++ (if continued then [txtContinued] else [])

/-- The lines of a slip, without their line feeds. -/
def slipTexts (j : SlipJob) (date : Reading) (w0 w2 : Word) (titles : List (List Byte)) : List (List Byte) :=
  openingTexts j.header date w2 ++ (j.entries.zip titles).flatMap (fun p => entryTexts p.1 p.2) ++
    closingTexts j.entries j.continued w0

theorem openingTexts_lines (header : List Byte) (date : Reading) (w2 : Word) :
    (openingTexts header date w2).flatMap line = openingLines header date w2 := by
  simp [openingTexts, openingLines]

theorem entryTexts_lines (e : SlipEntry) (title : List Byte) : (entryTexts e title).flatMap line = entryLines e title := by
  simp [entryTexts, entryLines]

theorem closingTexts_lines (entries : List SlipEntry) (continued : Bool) (w0 : Word) :
    (closingTexts entries continued w0).flatMap line = closingLines entries continued w0 := by
  simp only [closingTexts, closingLines, List.flatMap_append, apply_ite (List.flatMap line), List.flatMap_singleton,
    List.flatMap_nil]

theorem slipTexts_lines (j : SlipJob) (date : Reading) (w0 w2 : Word) (titles : List (List Byte)) :
    slipText j date w0 w2 titles = (slipTexts j date w0 w2 titles).flatMap line ++ [0x0C#8] := by
  simp only [slipText, slipTexts, List.flatMap_append, openingTexts_lines, closingTexts_lines, List.flatMap_assoc,
    entryTexts_lines]
  rfl

/-! ### The same lines in the statement's words -/

theorem placeByte_eq (n : Nat) : placeByte n = digitByte n := by
  unfold placeByte digitByte
  by_cases h : 9 < n
  · rw [if_pos h, if_neg (by omega)]
  · rw [if_neg h, if_pos (by omega)]

theorem twoPlaces_eq {n : Nat} (h : n < 100) : twoPlaces n = twoDigits n := by
  simp only [twoPlaces, twoDigits, placeByte_eq, Nat.mod_eq_of_lt (show n / 10 < 10 by omega)]

theorem monthName_eq (m : Nat) : ascii (monthLetters.getD (m - 1) []) = monthName m := by
  unfold monthName
  rcases lt_or_ge (m - 1) 12 with h | h
  · interval_cases m - 1 <;> rfl
  · rw [List.getD_eq_default _ _ h, List.getD_eq_default _ _ h]
    rfl

theorem printed_eq (bs : List Byte) : (bs.rdropWhile blankByte).map
    (fun b => if b.toNat < 0x20 ∨ 0x7E < b.toNat then 63#8 else b) = printed bs := by
  refine List.map_congr_left fun b _ => ?_
  unfold printable
  by_cases h : b.toNat < 0x20 ∨ 0x7E < b.toNat
  · rw [if_pos h, if_neg (by omega)]
  · rw [if_neg h, if_pos (by omega)]

theorem clockTime_eq {n : Nat} (h : n ≤ 1439) :
    twoPlaces (n / 60) ++ ascii [':'] ++ twoPlaces (n % 60) = clockTime n := by
  rw [twoPlaces_eq (by omega), twoPlaces_eq (by omega)]
  rfl

section
variable {n : Nat} {date : Nat × Nat × Nat} (h : DateIs n date)
include h

theorem dayMonth_eq : twoPlaces date.2.2 ++ ascii ['-'] ++ ascii (monthLetters.getD (date.2.1 - 1) []) = dayMonth n := by
  have hd : date.2.2 < 100 := by
    obtain ⟨y, m, d⟩ := date
    obtain ⟨-, -, -, -, -, hd, -⟩ := h
    have hle : ∀ i, (daysOfMonths y).getD i 0 ≤ 31 := fun i => by
      rcases lt_or_ge i 12 with hi | hi
      · interval_cases i <;> simp [daysOfMonths]
        split <;> omega
      · rw [List.getD_eq_default _ _ hi]
        omega
    have := hle (m - 1)
    show d < 100
    omega
  rw [twoPlaces_eq hd, monthName_eq, dayMonth, dateOf_eq h]
  rfl

theorem fullDate_eq : twoPlaces date.2.2 ++ ascii ['-'] ++ ascii (monthLetters.getD (date.2.1 - 1) []) ++ ascii ['-'] ++
    twoPlaces (date.1 / 100) ++ twoPlaces (date.1 % 100) = fullDate n := by
  have hy : date.1 ≤ 2099 := h.2.1
  rw [dayMonth_eq h, twoPlaces_eq (by omega), twoPlaces_eq (by omega), List.append_assoc, fullDate, dateOf_eq h]
  rfl

end

theorem slipLines_eq {date : Nat → Nat × Nat × Nat} {j : SlipJob} {at_ : Reading} {w0 w2 : Word}
    {titles : List (List Byte)}
    (hdates : ∀ d ∈ at_.day :: min (w0.toNat / 65536) 36524 :: j.entries.map (fun e => e.due.day), DateIs d (date d))
    (hat : at_.minute ≤ 1439) (hdue : ∀ e ∈ j.entries, e.due.minute ≤ 1439) (hlen : j.entries.length ≤ 16) :
    slipLines date j at_ w0 w2 titles = slipTexts j at_ w0 w2 titles := by
  have hfield (k : Nat) : placeByte (w2.toNat / 2 ^ k % 16) = digitByte (field w2 k 4) := placeByte_eq _
  have hexpiry : min (field w0 16 16) Config.lastDay = min (w0.toNat / 65536) 36524 := by
    have := w0.isLt
    simp only [field, Config.lastDay]
    omega
  unfold slipLines slipTexts closingTexts
  rw [← List.append_assoc, ← List.append_assoc]
  refine congrArg₂ (· ++ ·) (congrArg₂ (· ++ ·) (congrArg₂ (· ++ ·) (congrArg₂ (· ++ ·) ?_ ?_) ?_) ?_) ?_
  · refine congrArg₂ List.cons (printed_eq _) (congrArg₂ List.cons ?_ (congrArg₂ List.cons ?_ rfl))
    · beta_reduce
      rw [fullDate_eq (hdates _ List.mem_cons_self), clockTime_eq hat]
      rfl
    · simp only [List.map_cons, List.map_nil, hfield]
      rfl
  · refine List.flatMap_congr fun p hp => ?_
    have hmem : p.1 ∈ j.entries := (List.of_mem_zip hp).1
    have hd := hdates p.1.due.day (by simp only [List.mem_cons, List.mem_map]; exact .inr (.inr ⟨_, hmem, rfl⟩))
    have hm := hdue p.1 hmem
    refine congrArg₂ List.cons ?_ (congrArg₂ List.cons ?_ rfl)
    · refine congrArg₂ (· ++ ·) rfl ?_
      unfold titleText
      exact congrArg₂ (ite _) rfl (printed_eq _)
    · beta_reduce
      rw [funext placeByte_eq, fullDate_eq hd, dayMonth_eq hd, clockTime_eq hm]
      rfl
  · beta_reduce
    rw [fullDate_eq (hdates (min (w0.toNat / 65536) 36524) (by simp)), hexpiry]
    rfl
  · have hn : (if j.entries.length < 10 then [placeByte j.entries.length] else twoPlaces j.entries.length) =
        shortNumber j.entries.length := by
      rw [placeByte_eq, twoPlaces_eq (by omega)]
      rfl
    rw [hn]
    rfl
  · rfl

/-! ### What a line may hold -/

/-- A line of at most `n` bytes, each of them printable. -/
def Fits (n : Nat) (l : List Byte) : Prop := l.length ≤ n ∧ ∀ b ∈ l, 0x20 ≤ b.toNat ∧ b.toNat ≤ 0x7E

theorem Fits.nil : Fits 0 [] := ⟨Nat.le_refl _, by simp⟩

theorem Fits.append {m n : Nat} {k l : List Byte} (hk : Fits m k) (hl : Fits n l) : Fits (m + n) (k ++ l) :=
  ⟨by rw [List.length_append]; exact Nat.add_le_add hk.1 hl.1,
    fun b hb => (List.mem_append.mp hb).elim (hk.2 b) (hl.2 b)⟩

theorem Fits.mono {m n : Nat} {l : List Byte} (h : Fits m l) (hn : m ≤ n) : Fits n l := ⟨h.1.trans hn, h.2⟩

theorem Fits.ite {n : Nat} {k l : List Byte} {c : Prop} [Decidable c] (hk : Fits n k) (hl : Fits n l) :
    Fits n (if c then k else l) := by
  split
  · exact hk
  · exact hl

theorem digitByte_printable (n : Nat) : 0x20 ≤ (digitByte n).toNat ∧ (digitByte n).toNat ≤ 0x7E := by
  unfold digitByte
  split
  · simp only [byte, BitVec.toNat_ofNat]
    omega
  · decide

theorem fits_digits (ns : List Nat) : Fits ns.length (ns.map digitByte) :=
  ⟨by simp, fun b hb => by
    obtain ⟨n, -, rfl⟩ := List.mem_map.mp hb
    exact digitByte_printable n⟩

theorem fits_twoDigits (n : Nat) : Fits 2 (twoDigits n) := fits_digits [n / 10 % 10, n % 10]

theorem fits_printed (bs : List Byte) : Fits bs.length (printed bs) := by
  constructor
  · have := (List.dropWhile_sublist blankByte (l := bs.reverse)).length_le
    simpa [printed, trimEnd] using this
  · intro b hb
    obtain ⟨c, -, rfl⟩ := List.mem_map.mp hb
    unfold printable
    split
    · assumption
    · decide

/-- A literal text. -/
theorem fits_literal {l : List Byte} (h : (l.all fun b => decide (0x20 ≤ b.toNat) && decide (b.toNat ≤ 0x7E)) = true) :
    Fits l.length l := ⟨Nat.le_refl _, by simpa using h⟩

theorem fits_monthName (m : Nat) : Fits 3 (monthName m) := by
  unfold monthName
  rcases lt_or_ge (m - 1) 12 with h | h
  · interval_cases m - 1 <;> exact fits_literal rfl
  · rw [List.getD_eq_default _ _ h]
    exact Fits.nil.mono (by omega)

theorem fits_dayMonth (d : Nat) : Fits 6 (dayMonth d) :=
  ((fits_twoDigits _).append (fits_literal (l := [0x2D#8]) rfl)).append (fits_monthName _)

theorem fits_fullDate (d : Nat) : Fits 11 (fullDate d) :=
  ((fits_dayMonth d).append (fits_literal (l := [0x2D#8]) rfl)).append ((fits_twoDigits _).append (fits_twoDigits _))

theorem fits_clockTime (n : Nat) : Fits 5 (clockTime n) :=
  ((fits_twoDigits _).append (fits_literal (l := [0x3A#8]) rfl)).append (fits_twoDigits _)

theorem fits_titleText {title : List Byte} (h : title.length ≤ 20) : Fits 20 (titleText title) :=
  .ite ((fits_literal (l := txtItem) rfl).mono (by decide)) ((fits_printed title).mono h)

/-! ### The lengths of the lines -/

/-- The bytes a list of lines takes, with their line feeds. -/
theorem length_lines_append (k l : List (List Byte)) :
    ((k ++ l).flatMap line).length = (k.flatMap line).length + (l.flatMap line).length := by simp

theorem fits_openingTexts {header : List Byte} (h : header.length ≤ 32) (date : Reading) (w2 : Word) :
    (∀ l ∈ openingTexts header date w2, Fits 32 l) ∧ ((openingTexts header date w2).flatMap line).length ≤ 71 := by
  have h1 : Fits 32 (printed header) := (fits_printed header).mono h
  have h2 : Fits 22 (txtDate ++ fullDate date.day ++ [0x20#8] ++ clockTime date.minute) :=
    (((fits_literal (l := txtDate) rfl).append (fits_fullDate _)).append (fits_literal (l := [0x20#8]) rfl)).append
      (fits_clockTime _)
  have h3 : Fits 13 (txtCard ++ [field w2 28 4, field w2 24 4, field w2 20 4, field w2 16 4].map digitByte) :=
    (fits_literal (l := txtCard) rfl).append (fits_digits _)
  refine ⟨fun l hl => ?_, ?_⟩
  · simp only [openingTexts, List.mem_cons, List.not_mem_nil, or_false] at hl
    rcases hl with rfl | rfl | rfl | rfl
    · exact h1
    · exact h2.mono (by omega)
    · exact h3.mono (by omega)
    · exact Fits.nil.mono (by omega)
  · have := h1.1
    have := h2.1
    have := h3.1
    simp only [openingTexts, line, List.flatMap_cons, List.flatMap_nil, List.length_append, List.length_cons, List.length_nil,
      List.map_cons, List.map_nil] at *
    omega

theorem fits_entryTexts {e : SlipEntry} {title : List Byte} (ht : title.length ≤ 20) (he : e.tail.length ≤ 10) :
    (∀ l ∈ entryTexts e title, Fits 32 l) ∧ ((entryTexts e title).flatMap line).length ≤ 53 := by
  have h1 : Fits 22 ((if e.renewal then txtRenewal else []) ++ titleText title) :=
    (Fits.ite (fits_literal (l := txtRenewal) rfl) (Fits.nil.mono (Nat.zero_le _))).append (fits_titleText ht)
  have h2 : Fits 29 (txtIndent ++ e.tail.map digitByte ++ txtDue ++
      (if e.hourLoan then clockTime e.due.minute ++ [0x20#8] ++ dayMonth e.due.day else fullDate e.due.day)) :=
    (((fits_literal (l := txtIndent) rfl).append ((fits_digits e.tail).mono he)).append
      (fits_literal (l := txtDue) rfl)).append
      (.ite (((fits_clockTime _).append (fits_literal (l := [0x20#8]) rfl)).append (fits_dayMonth _))
        ((fits_fullDate _).mono (by decide)))
  refine ⟨fun l hl => ?_, ?_⟩
  · simp only [entryTexts, List.mem_cons, List.not_mem_nil, or_false] at hl
    rcases hl with rfl | rfl
    · exact h1.mono (by omega)
    · exact h2.mono (by omega)
  · have := h1.1
    have := h2.1
    simp only [entryTexts, line, List.flatMap_cons, List.flatMap_nil, List.length_append, List.length_cons,
      List.length_nil] at *
    omega

theorem fits_closingTexts {entries : List SlipEntry} (continued : Bool) (w0 : Word) :
    (∀ l ∈ closingTexts entries continued w0, Fits 32 l) ∧
      ((closingTexts entries continued w0).flatMap line).length ≤ 44 := by
  have h1 : Fits 24 (txtExpires ++ fullDate (min (field w0 16 16) Config.lastDay)) :=
    (fits_literal (l := txtExpires) rfl).append (fits_fullDate _)
  have h2 : Fits 8 (txtItems ++ shortNumber entries.length) :=
    (fits_literal (l := txtItems) rfl).append
      (.ite ((fits_digits [entries.length]).mono (Nat.le_succ 1)) (fits_twoDigits _))
  have h3 : Fits 9 txtContinued := fits_literal rfl
  refine ⟨fun l hl => ?_, ?_⟩
  · simp only [closingTexts, List.mem_append, List.mem_ite_nil_right, List.mem_singleton] at hl
    rcases hl with (⟨-, rfl⟩ | rfl) | ⟨-, rfl⟩
    · exact h1.mono (by omega)
    · exact h2.mono (by omega)
    · exact h3.mono (by omega)
  · have := h1.1
    have := h2.1
    have := h3.1
    have hone (c : Bool) (l : List Byte) : ((if c then [l] else []).flatMap line).length ≤ l.length + 1 := by
      cases c <;> simp [line]
    have ha := hone (entries.any fun e => e.shortened) (txtExpires ++ fullDate (min (field w0 16 16) Config.lastDay))
    have hb := hone true (txtItems ++ shortNumber entries.length)
    have hc := hone continued txtContinued
    rw [closingTexts, length_lines_append, length_lines_append]
    rw [if_pos rfl] at hb
    omega

theorem fits_entries {entries : List SlipEntry} {titles : List (List Byte)} (ht : ∀ b ∈ titles, b.length ≤ 20)
    (he : ∀ e ∈ entries, e.tail.length ≤ 10) :
    (∀ l ∈ (entries.zip titles).flatMap (fun p => entryTexts p.1 p.2), Fits 32 l) ∧
      (((entries.zip titles).flatMap fun p => entryTexts p.1 p.2).flatMap line).length ≤ 53 * entries.length := by
  constructor
  · intro l hl
    obtain ⟨p, hp, hlp⟩ := List.mem_flatMap.mp hl
    obtain ⟨h1, h2⟩ := List.of_mem_zip hp
    exact (fits_entryTexts (ht _ h2) (he _ h1)).1 l hlp
  · induction entries generalizing titles with
    | nil => simp
    | cons e rest ih =>
      cases titles with
      | nil => simp
      | cons t ts =>
        have hfirst : ((entryTexts e t).flatMap line).length ≤ 53 := (fits_entryTexts (ht t (by simp)) (he e (by simp))).2
        have hrest := ih (titles := ts) (fun b hb => ht b (by simp [hb])) fun x hx => he x (by simp [hx])
        rw [List.zip_cons_cons, List.flatMap_cons, length_lines_append, List.length_cons, Nat.mul_succ, Nat.add_comm]
        exact Nat.add_le_add hrest hfirst

theorem slipTexts_fits {j : SlipJob} {date : Reading} {w0 w2 : Word} {titles : List (List Byte)}
    (hh : j.header.length ≤ 32) (ht : ∀ b ∈ titles, b.length ≤ 20) (he : ∀ e ∈ j.entries, e.tail.length ≤ 10)
    (hn : j.entries.length ≤ 16) :
    (∀ l ∈ slipTexts j date w0 w2 titles, Fits 32 l) ∧ (slipText j date w0 w2 titles).length ≤ 964 := by
  obtain ⟨ho, hol⟩ := fits_openingTexts hh date w2
  obtain ⟨hm, hml⟩ := fits_entries ht he
  obtain ⟨hc, hcl⟩ := fits_closingTexts (entries := j.entries) j.continued w0
  constructor
  · intro l hl
    simp only [slipTexts, List.mem_append] at hl
    rcases hl with (hl | hl) | hl
    · exact ho l hl
    · exact hm l hl
    · exact hc l hl
  · rw [slipTexts_lines, List.length_append, slipTexts, length_lines_append, length_lines_append, List.length_singleton]
    omega

end Sys2Proof.Machine

/-! PROOFS. Slips composed and printed (section 7.6). -/

namespace Sys2Proof.Machine

/-! ### The Slip Queue behind its READY slips -/

section
variable (texts : List (List Byte)) (j : SlipJob) (rest : List Slip)

theorem oldestJob_ready : oldestJob (texts.map .ready ++ .composing j :: rest) = some j := by
  induction texts with
  | nil => rfl
  | cons t texts ih => exact ih

theorem setJob_ready (k : SlipJob) :
    setJob k (texts.map .ready ++ .composing j :: rest) = texts.map .ready ++ .composing k :: rest := by
  induction texts with
  | nil => rfl
  | cons t texts ih => exact congrArg (List.cons _) ih

theorem finishJob_ready (text : List Byte) (r : Reading) : finishJob text r (texts.map .ready ++ .composing j :: rest) =
    texts.map .ready ++ .ready text :: beginNext r rest := by
  induction texts with
  | nil => rfl
  | cons t texts ih => exact congrArg (List.cons _) ih

end

/-! ### The words of a composition -/

theorem jobAddrs_eq (j : SlipJob) : jobAddrs j = [j.patronAddr, j.patronAddr + 1#22, j.patronAddr + 2#22] ++
    j.slotAddrs.flatMap fun a => [a + 8#22, a + 9#22, a + 10#22, a + 11#22, a + 12#22] := by simp [jobAddrs]

theorem lane_eq_extractLsb' (w : Word) (k : Nat) : lane w k = w.extractLsb' (8 * k) 8 := by
  apply BitVec.eq_of_toNat_eq
  rw [BitVec.extractLsb'_toNat, lane, BitVec.toNat_ofNat, Nat.shiftRight_eq_div_pow]

theorem textOf_eq (ws : List Word) : textOf ws = ws.flatMap fun w =>
    [w.extractLsb' 24 8, w.extractLsb' 16 8, w.extractLsb' 8 8, w.extractLsb' 0 8] := by
  refine List.flatMap_congr fun w _ => ?_
  rw [bytesOf, lane_eq_extractLsb', lane_eq_extractLsb', lane_eq_extractLsb', lane_eq_extractLsb']

/-! ### The printer goes on -/

/-- The visit word is reported over a printer that goes on, at the end of an act of a running part. -/
theorem printerReported {s m b : State} {ws : List (Nat × Word)} (hm : Reports s m ws) (hr : s.path.state = .running)
    (hp : m.pins = s.pins) (ha : m.profile = s.profile) (he : m.events = s.events) :
    let t := endAct (reportVisit b (startPrinter m))
    PathGrows s t ∧ PrinterGoesOn s t m.visit ∧
      Queues s t (ws ++ if visitWord t.visit = visitWord b.visit then [] else [(23, visitWord t.visit)]) := by
  intro t
  have hmr : m.running = true := decide_eq_true (hm.grows.1.1.trans hr)
  have hall := (hm.trans ((startPrinter_reports m).after (reportVisit_reports b (startPrinter m)))).keep (endAct_reports _)
  have hvis : t.visit = (startPrinter m).visit := by simp [t]
  refine ⟨hall.grows, (startPrinter_goesOn hmr).congr hp ha he hvis (by simp [t]), ?_⟩
  rw [hvis]
  exact hall.posts.queues hr

theorem exec_slipComposed {s : State} {j : SlipJob} (hj : oldestJob s.visit.slips = some j)
    (hr : s.path.state = .running) (hs : readServed s .slip (nextJobAddr j) = true) :
    exec .slipComposed s = .next (endAct (slipRead j (internalRead s (nextJobAddr j)) s)) := by
  show execSlipComposed s = _
  simp only [execSlipComposed, composeReady, hj, State.running, hr, hs, decide_true, Bool.and_true, if_true, done]

theorem exec_slipPrinted {s : State} (hr : s.path.state = .running) (hl : lastByte s.visit = true) :
    exec .slipPrinted s = .next (endAct (slipDone s)) := by
  show execSlipPrinted s = _
  simp only [execSlipPrinted, actIf, State.running, hr, hl, decide_true, Bool.and_true, if_true, done]

/-- Settles O47. -/
theorem slipsComposedAndPrinted : Obligations.SlipsComposedAndPrinted := by
  refine ⟨?_, fun s text rest n hr hs hp hb hl => ?_, ?_⟩
  · intro s texts j rest hr hs addrs a ha hserved ws date titles text
    have hjob : oldestJob s.visit.slips = some j := by rw [hs, oldestJob_ready]
    have haddrs : addrs = jobAddrs j := (jobAddrs_eq j).symm
    have hnext : a = nextJobAddr j := by rw [ha, haddrs]; rfl
    rw [hnext] at hserved
    have hexec := exec_slipComposed hjob hr hserved
    rw [← hnext] at hexec
    have htext : text = composeText { j with words := ws } := by
      have ht : titles = (List.range j.slotAddrs.length).map (titleRead ws) :=
        List.map_congr_left fun i _ => (textOf_eq _).symm
      show slipText _ date _ _ titles = _
      rw [ht]
      rfl
    have hread : slipRead j (internalRead s a) s = if ws.length < addrs.length
        then s.setVisit { s.visit with slips := texts.map .ready ++ .composing { j with words := ws } :: rest }
        else slipComposed { j with words := ws } s := by
      rw [haddrs, ← setJob_ready texts j rest, ← hs]
      rfl
    rw [hread] at hexec
    refine ⟨fun hlt => ?_, fun hle => ?_⟩
    · rw [if_pos hlt] at hexec
      exact hexec
    · rw [if_neg (Nat.not_lt.mpr hle), slipComposed, ← htext, hs, finishJob_ready] at hexec
      obtain ⟨v, hv⟩ : ∃ v : VisitUnit,
        v = { s.visit with slips := texts.map .ready ++ .ready text :: beginNext s.reading rest } := ⟨_, rfl⟩
      rw [← hv] at hexec ⊢
      have hrep := printerReported (b := s) (setVisit_reports v s) hr rfl rfl rfl
      exact ⟨_, hexec, fun b hb => by cases b <;> simp at hb <;> simp [SameBlock], hrep⟩
  · have hexec := exec_slipPrinted hr (by rw [lastByte_sending hp hb hs]; simpa using hl)
    obtain ⟨v, hv⟩ : ∃ v : VisitUnit,
      v = { s.visit with slips := rest, lastSlip := some text, printer := .idle, byteInProgress := false } := ⟨_, rfl⟩
    obtain ⟨m, hm⟩ : ∃ m, m = reportVisit s (s.setVisit v) := ⟨_, rfl⟩
    have hdone : slipDone s = reportVisit m (startPrinter m) := by
      rw [slipDone, hs, hm, hv]
    have hne : visitWord v ≠ visitWord s.visit := visitWord_ne_of_printer (by rw [hv, hp]; simp [Printer.code])
    have hsm : Reports s m [(23, visitWord v)] := by
      rw [hm]
      exact (setVisit_reports v s).after (reportVisit_reports_of_ne hne)
    have hmv : m.visit = v := by rw [hm]; simp
    have hrep := printerReported (b := m) hsm hr (by simp [hm]) (by simp [hm]) (by simp [hm])
    rw [hdone] at hexec
    rw [hmv] at hrep
    refine ⟨_, hexec, fun b hb => ?_, hrep.1, ?_⟩
    · cases b <;> simp at hb <;> simp [SameBlock, hm]
    · intro printed
      have hprinted : printed = v := hv.symm
      rw [hprinted]
      exact hrep.2
  · intro date j at_ w0 w2 titles hdates hat hdue hlen htl lines
    have hlines : lines = slipTexts j at_ w0 w2 titles := slipLines_eq hdates hat hdue hlen
    rw [hlines]
    exact ⟨slipTexts_lines .., fun hh ht he => slipTexts_fits hh ht he hlen⟩

end Sys2Proof.Machine

/-! PROOFS. The law of due instants (sections 4.2 and 4.3). -/

namespace Sys2Proof.Machine

/-- The hours of a weekday stay within the day. -/
def OpenCal.WithinDay (c : OpenCal) : Prop := ∀ h ∈ c.hours, h.opening ≤ 1439 ∧ h.closing ≤ 1439

/-! ### The searches -/

section
variable {c : OpenCal}

theorem firstOpen_range {d n e : Nat} (h : c.firstOpen d n = some e) : d ≤ e ∧ e ≤ Config.lastDay := by
  induction n generalizing d with
  | zero => simp [OpenCal.firstOpen] at h
  | succ n ih =>
    rw [OpenCal.firstOpen] at h
    split at h
    · simp at h
    · next hd =>
      split at h
      · obtain rfl := Option.some_inj.mp h
        exact ⟨Nat.le_refl _, Nat.not_lt.mp hd⟩
      · exact ⟨Nat.le_of_succ_le (ih h).1, (ih h).2⟩

theorem lastOpen_range {d n e : Nat} (hn : n ≤ d) (h : c.lastOpen d n = some e) : d - n < e ∧ e ≤ d := by
  induction n generalizing d with
  | zero => simp [OpenCal.lastOpen] at h
  | succ n ih =>
    rw [OpenCal.lastOpen] at h
    split at h
    · obtain rfl := Option.some_inj.mp h
      omega
    · have := ih (by omega) h
      omega

theorem lastClosing_range {lo hi d n k : Nat} (h : c.lastClosing lo hi d n = some k) : lo ≤ k ∧ k ≤ hi := by
  induction n generalizing d with
  | zero => simp [OpenCal.lastClosing] at h
  | succ n ih =>
    rw [OpenCal.lastClosing] at h
    split at h
    · split at h
      · next hk =>
        obtain rfl := Option.some_inj.mp h
        simpa using hk
      · exact ih h
    · exact ih h

theorem forwardDue_range {t : Nat} (ht : t ≤ Config.lastDay) : t ≤ (c.forwardDue t).1 ∧ (c.forwardDue t).1 ≤ Config.lastDay := by
  unfold OpenCal.forwardDue
  split
  · next h => exact firstOpen_range h
  · exact ⟨Nat.le_refl _, ht⟩

theorem minutes_ofMinutes (n : Nat) : (ofMinutes n).minutes = n := Nat.div_add_mod n 1440

theorem lastInstant_eq : lastInstant = 1440 * 36524 + 1439 := rfl

theorem le_clampTo (lo hi n : Nat) : lo ≤ clampTo lo hi n := Nat.le_max_left ..

section
variable (hc : c.WithinDay)
include hc

theorem hoursOf_closing_le (d : Nat) : (c.hoursOf d).closing ≤ 1439 := by
  unfold OpenCal.hoursOf
  rcases lt_or_ge (weekday d) c.hours.length with h | h
  · rw [List.getD_eq_getElem _ _ h]
    exact (hc _ (List.getElem_mem h)).2
  · rw [List.getD_eq_default _ _ h]
    exact Nat.zero_le _

theorem closing_le {d k : Nat} (h : c.closing d = some k) : k ≤ 1440 * d + 1439 := by
  unfold OpenCal.closing at h
  split at h
  · obtain rfl := Option.some_inj.mp h
    exact Nat.add_le_add_left (hoursOf_closing_le hc d) _
  · simp at h

theorem nextClosing_range {x d n k : Nat} (h : c.nextClosing x d n = some k) : x < k ∧ k ≤ lastInstant := by
  induction n generalizing d with
  | zero => simp [OpenCal.nextClosing] at h
  | succ n ih =>
    rw [OpenCal.nextClosing] at h
    split at h
    · simp at h
    · next hd =>
      split at h
      · next k' hk' =>
        split at h
        · next hx =>
          obtain rfl := Option.some_inj.mp h
          have := closing_le hc hk'
          simp only [lastInstant, Config.lastDay, Config.lastMinute] at *
          omega
        · exact ih h
      · exact ih h

theorem dueMinute_le (d : Nat) : c.dueMinute d ≤ 1439 := by
  unfold OpenCal.dueMinute
  split
  · exact hoursOf_closing_le hc d
  · exact Nat.le_refl _

/-! ### The two computations -/

theorem dayLoan_law {loanDay period expiry : Nat} {np no sh : Bool} {d : Instant} (hl : loanDay ≤ 36524) (hp : 1 ≤ period)
    (h : c.dayLoan loanDay period expiry np = .due d no sh) : loanDay < d.day ∧ d.day ≤ 36524 ∧ d.minute ≤ 1439 := by
  unfold OpenCal.dayLoan at h
  split at h
  · cases h
  · next hlast =>
    have hlast' : loanDay ≠ 36524 := hlast
    have ht : targetDay loanDay period ≤ Config.lastDay := Nat.min_le_right ..
    have hgt : loanDay < targetDay loanDay period := by
      simp only [targetDay, Config.lastDay]
      omega
    obtain ⟨hlo, hhi⟩ := forwardDue_range (c := c) ht
    simp only at h
    split at h
    · split at h
      · next e he =>
        obtain ⟨rfl, -⟩ : (⟨e, c.dueMinute e⟩ : Instant) = d ∧ _ := by simpa using h
        have := lastOpen_range (Nat.sub_le ..) he
        refine ⟨?_, ?_, dueMinute_le hc e⟩
        · show loanDay < e
          omega
        · show e ≤ 36524
          simp only [Config.lastDay] at hhi
          omega
      · cases h
    · obtain ⟨rfl, -⟩ : (⟨(c.forwardDue (targetDay loanDay period)).1, _⟩ : Instant) = d ∧ _ := by simpa using h
      exact ⟨hgt.trans_le hlo, hhi, dueMinute_le hc _⟩

theorem hourDue_range {now x minLength : Nat} (hx : now < x) (hl : x ≤ lastInstant) :
    now < (c.hourDue now x minLength).1 ∧ (c.hourDue now x minLength).1 ≤ lastInstant := by
  unfold OpenCal.hourDue
  split
  · exact ⟨hx, hl⟩
  · split
    · next k hk =>
      have := lastClosing_range hk
      show now < k ∧ k ≤ lastInstant
      omega
    · split
      · next k hk =>
        have := nextClosing_range hc hk
        show now < k ∧ k ≤ lastInstant
        omega
      · exact ⟨hx, hl⟩

theorem hourLoan_law {now : Instant} {period minLength expiry : Nat} {np no sh : Bool} {d : Instant}
    (hd : now.day ≤ 36524) (hm : now.minute ≤ 1439) (hp : 1 ≤ period)
    (h : c.hourLoan now period minLength expiry np = .due d no sh) :
    now.minutes < d.minutes ∧ d.day ≤ 36524 ∧ d.minute ≤ 1439 := by
  unfold OpenCal.hourLoan at h
  split at h
  · cases h
  · next hlast =>
    have hnow : now.minutes < lastInstant := by
      have hle : now.minutes ≤ lastInstant := by
        simp only [Instant.minutes, lastInstant, Config.lastDay, Config.lastMinute]
        omega
      omega
    obtain ⟨hlo, hhi⟩ := hourDue_range hc (now := now.minutes) (x := min (now.minutes + 60 * period) lastInstant)
      (minLength := minLength) (by omega) (Nat.min_le_right ..)
    simp only at h
    split at h
    · cases h
    · obtain ⟨rfl, -⟩ : ofMinutes _ = d ∧ _ := by simpa using h
      rw [minutes_ofMinutes]
      refine ⟨hlo, ?_, ?_⟩
      · have := lastInstant_eq
        show _ / 1440 ≤ 36524
        omega
      · show _ % 1440 ≤ 1439
        omega

end

/-- Settles O60. -/
theorem dueInstantLaw : Obligations.DueInstantLaw := by
  intro c hours now period minLength expiry np d no sh hd hm hc h
  unfold OpenCal.due at h
  cases hours with
  | true =>
    obtain ⟨hlt, hday, hmin⟩ := hourLoan_law hc hd hm (le_clampTo 1 72 period) h
    exact ⟨hday, hmin, by simp, fun _ => hlt⟩
  | false =>
    obtain ⟨hlt, hday, hmin⟩ := dayLoan_law hc hd (le_clampTo 1 365 period) h
    exact ⟨hday, hmin, fun _ => hlt, by simp⟩

end

end Sys2Proof.Machine

/-! PROOFS. The upload fails or tries again (section 8.4). -/

namespace Sys2Proof.Machine

/-! ### A candidate that no act may judge -/

/-- A candidate that is not there, or that the visit, the engine's work or a stop holds back, is not judged. -/
theorem judgeCandidate_idles {u : State} (h : AdoptsNothing u) : judgeCandidate u = u := by
  rcases h with h | h | h | h | h
  · exact judgeCandidate_none (.inl h)
  · have hready (ws : List Word) : candidateReady u ws = false := by
      obtain ⟨v, hv⟩ := Option.ne_none_iff_exists'.mp h
      simp [candidateReady, hv]
    unfold judgeCandidate
    split
    · rfl
    · rw [hready]
      rfl
  · exact judgeCandidate_none (.inr (.inl h))
  · exact judgeCandidate_none (.inr (.inr h))
  · have hready (ws : List Word) : candidateReady u ws = false := by simp [candidateReady, State.running, h]
    unfold judgeCandidate
    split
    · rfl
    · rw [hready]
      rfl

theorem AdoptsNothing.congr {s u : State} (h : AdoptsNothing s) (hp : u.profile = s.profile) (hv : u.visit = s.visit)
    (he : u.engine = s.engine) (hs : u.path.state = s.path.state) : AdoptsNothing u := by
  unfold AdoptsNothing
  rw [hp, hv, he, hs]
  exact h

theorem judges_of_not_adoptsNothing {s : State} (h : ¬ AdoptsNothing s) : Judges s := by
  simp only [AdoptsNothing, not_or, not_not] at h
  exact ⟨h.2.2.2.2, h.2.1, h.2.2.1, h.2.2.2.1⟩

theorem Judges.congr {s u : State} (h : Judges s) (hv : u.visit = s.visit) (he : u.engine = s.engine)
    (hs : u.path.state = s.path.state) : Judges u where
  running := hs.trans h.running
  visit := by rw [hv, h.visit]
  crq := by rw [he, h.crq]
  op := by rw [he, h.op]

/-! ### What an act of the Upload Engine leaves -/

/-- The act of `c` leaves the Upload Engine `u` and the events `e`, and reports `ws`. -/
def UploadEnds (c : Instr) (s : State) (u : Upload) (e : EventUnit) (ws : List (Nat × Word)) : Prop :=
  ∃ t, exec c s = .next t ∧ OnlyChanges [.path, .upload, .events] s t ∧ PathGrows s t ∧ t.upload = u ∧ t.events = e ∧
    (s.path.state = .running → Queues s t ws)

/-- The blocks besides the Store Path, the Upload Engine and the events are in `t` as in `s`. -/
structure UploadOnly (s t : State) : Prop where
  store : t.store = s.store
  pins : t.pins = s.pins
  engine : t.engine = s.engine
  calendar : t.calendar = s.calendar
  wand : t.wand = s.wand
  visit : t.visit = s.visit
  journal : t.journal = s.journal
  profile : t.profile = s.profile
  pending : t.pending = s.pending

theorem UploadOnly.onlyChanges {s t : State} (h : UploadOnly s t) : OnlyChanges [.path, .upload, .events] s (endAct t) := by
  intro b hb
  cases b <;> simp at hb <;> simp [SameBlock, h.store, h.pins, h.engine, h.calendar, h.wand, h.visit, h.journal, h.profile,
    h.pending]

theorem uploadEnds_of {c : Instr} {s t : State} {ws : List (Nat × Word)} (hexec : exec c s = .next (endAct t))
    (ho : UploadOnly s t) (hr : Reports s t ws) : UploadEnds c s t.upload t.events ws :=
  ⟨_, hexec, ho.onlyChanges, hr.grows.trans (endAct_grows t), (endAct_keeps t).2.2.2.2.2.2.2.1,
    (endAct_keeps t).2.2.2.2.2.2.2.2.2.1, (hr.keep (endAct_reports t)).posts.queues⟩

/-! ### The failure of an upload (R150) -/

/-- The upload has failed, and no candidate has been judged yet. -/
def uploadFailedIn (cause : FailCause) (s : State) : State :=
  raise .uploadFailed 0 (reportUpload s (s.setUpload (s.upload.failed cause)))

theorem failUpload_eq (cause : FailCause) (s : State) : failUpload cause s = judgeCandidate (uploadFailedIn cause s) := rfl

section
variable (cause : FailCause) (s : State)

theorem uploadFailedIn_only : UploadOnly s (uploadFailedIn cause s) := by
  constructor <;> simp [uploadFailedIn]

theorem uploadFailedIn_upload : (uploadFailedIn cause s).upload = s.upload.failed cause := by simp [uploadFailedIn]

theorem uploadFailedIn_events :
    (uploadFailedIn cause s).events = { s.events with latchB := s.events.latchB ||| 512#12 } := by
  simp [uploadFailedIn, raise_plain (e := .uploadFailed) rfl, EventUnit.latch, Event.place]

theorem uploadFailedIn_withoutCandidate :
    uploadFailedIn cause (withoutCandidate s) = withoutCandidate (uploadFailedIn cause s) := by simp [uploadFailedIn]

theorem uploadFailedIn_state : (uploadFailedIn cause s).path.state = s.path.state := by simp [uploadFailedIn]

end

theorem reportUpload_reports_of_ne {b s : State} (h : uploadWord s.upload ≠ uploadWord b.upload) :
    Reports s (reportUpload b s) [(19, uploadWord s.upload)] := by
  have := reportUpload_reports b s
  rwa [if_neg h] at this

theorem uploadFailedIn_reports {cause : FailCause} {s : State} (h : s.upload.state ≠ .idle) :
    Reports s (uploadFailedIn cause s) [(19, uploadWord (s.upload.failed cause))] :=
  (setUpload_reports (s.upload.failed cause) s).after
    ((reportUpload_reports_of_ne (uploadWord_ne fun hi => h hi.symm)).keep (raise_reports rfl ..))

section
variable {c : Instr} {s : State} {v : Upload} {cause : FailCause}

/-- A failed upload that judges no candidate. -/
theorem failure_ends (hexec : exec c s = .next (endAct (failUpload cause (s.setUpload v)))) (ha : AdoptsNothing s)
    (hv : v.state ≠ .idle) : UploadEnds c s (v.failed cause)
      { s.events with latchB := s.events.latchB ||| 512#12 } [(19, uploadWord (v.failed cause))] := by
  have ho := uploadFailedIn_only cause (s.setUpload v)
  rw [failUpload_eq, judgeCandidate_idles (ha.congr ho.profile ho.visit ho.engine (uploadFailedIn_state ..))] at hexec
  have h := uploadEnds_of hexec ⟨ho.store, ho.pins, ho.engine, ho.calendar, ho.wand, ho.visit, ho.journal, ho.profile,
    ho.pending⟩ ((setUpload_reports v s).after (uploadFailedIn_reports hv))
  rw [uploadFailedIn_upload, uploadFailedIn_events] at h
  exact h

/-- A failed upload judges the candidate that waits. -/
theorem failure_judged {ws : List Word} (hexec : exec c s = .next (endAct (failUpload cause (s.setUpload v))))
    (hexec0 : exec c (withoutCandidate s) = .next (endAct (failUpload cause ((withoutCandidate s).setUpload v))))
    (ha : ¬ AdoptsNothing s) (hc : s.profile.candidate = some ws) : JudgedAfter PathGrows c s ws := by
  have ho := uploadFailedIn_only cause (s.setUpload v)
  refine judgedAfter_of_judgeCandidate (u := uploadFailedIn cause (s.setUpload v))
    ((judges_of_not_adoptsNothing ha).congr ho.visit ho.engine (uploadFailedIn_state ..)) ho.profile hc hexec ?_
  rw [hexec0, failUpload_eq, setUpload_withoutCandidate, uploadFailedIn_withoutCandidate, judgeCandidate_none (.inl rfl)]

/-! ### A retry (R148, R149) -/

theorem enterWaitLine_only (b s : State) : UploadOnly s (enterWaitLine b s) ∧ (enterWaitLine b s).events = s.events := by
  refine ⟨?_, by simp⟩
  constructor <;> simp

/-- A retry that waits for the line, or finds it ready and sends HELLO. -/
theorem waitLine_ends {w : Upload} (hexec : exec c s = .next (endAct (enterWaitLine (s.setUpload v) (s.setUpload w))))
    (hv : v.state ≠ .waitLine) :
    (s.pins.uplReady = false → UploadEnds c s w.waiting s.events [(19, uploadWord w.waiting)]) ∧
      (s.pins.uplReady = true →
        UploadEnds c s (w.greeting s) s.events [(19, uploadWord w.waiting), (19, uploadWord (w.greeting s))]) := by
  obtain ⟨ho, hev⟩ := enterWaitLine_only (s.setUpload v) (s.setUpload w)
  have hup := enterWaitLine_upload (s.setUpload v) (s.setUpload w)
  have hrep : Reports (s.setUpload w) _ _ := ⟨enterWaitLine_posts hv, enterWaitLine_grows (s.setUpload v) (s.setUpload w)⟩
  have h := uploadEnds_of hexec ⟨ho.store, ho.pins, ho.engine, ho.calendar, ho.wand, ho.visit, ho.journal, ho.profile,
    ho.pending⟩ ((setUpload_reports w s).after hrep)
  rw [hev, hup] at h
  refine ⟨fun hr => ?_, fun hr => ?_⟩
  · have hr' : (s.setUpload w).pins.uplReady = false := hr
    rw [hr', if_neg Bool.false_ne_true, if_neg Bool.false_ne_true] at h
    exact h
  · have hr' : (s.setUpload w).pins.uplReady = true := hr
    rw [if_pos hr', if_pos hr'] at h
    exact h

end

end Sys2Proof.Machine

/-! PROOFS. The upload line, and the batch sent and retried (sections 8.3 and 8.4). -/

namespace Sys2Proof.Machine

/-! ### The line -/

theorem exec_lineWaitTimeout {s : State} (h : s.upload.state = .waitLine) :
    exec .lineWaitTimeout s = .next (endAct (failUpload .noLine s)) := by
  show execLineWaitTimeout s = _
  simp only [execLineWaitTimeout, actIf, h, decide_true, if_true, done]

theorem exec_frameSent {s : State} {f : TxFrame} {rest : List TxFrame} (h : s.upload.tx = f :: rest) :
    exec .frameSent s = .next (endAct (frameGone f rest s)) := by
  show execFrameSent s = _
  simp only [execFrameSent, h, done]

theorem replyAwaited_iff (s : State) (t : FrameTag) : replyAwaited s t = true ↔
    (t = .hello ∧ s.upload.state = .helloSent) ∨ (t = .done ∧ s.upload.state = .doneSent) ∨
      ∃ b, t = .batch b.number ∧ s.upload.state = .sending ∧ s.upload.reading = false ∧ s.upload.outstanding = some b := by
  cases t with
  | hello => cases h : s.upload.state <;> simp [replyAwaited, h]
  | done => cases h : s.upload.state <;> simp [replyAwaited, h]
  | batch n =>
    by_cases hs : s.upload.state = .sending
    · have hheard : replyAwaited s (.batch n) = (heardBatch s n.toNat).isSome := by simp only [replyAwaited, hs]
      rw [hheard, Option.isSome_iff_exists]
      simp only [heardBatch_eq_some_iff, hs, true_and, reduceCtorEq, false_and, false_or, FrameTag.batch.injEq]
      refine exists_congr fun b => ⟨fun ⟨hr, ho, hn⟩ => ⟨(BitVec.eq_of_toNat_eq hn).symm, hr, ho⟩,
        fun ⟨hn, hr, ho⟩ => ⟨hr, ho, by rw [hn]⟩⟩
    · have hno : replyAwaited s (.batch n) = false := by
        cases h : s.upload.state <;> simp_all [replyAwaited]
      simp [hno, hs]

theorem uploadEnds_wordIfChanged {c : Instr} {s : State} {u : Upload} {e : EventUnit}
    (h : UploadEnds c s u e [(19, uploadWord u)]) (hne : u.state ≠ s.upload.state) : ∃ t, exec c s = .next t ∧
      OnlyChanges [.path, .upload, .events] s t ∧ PathGrows s t ∧ t.upload = u ∧ t.events = e ∧
      (s.path.state = .running → Queues s t
        (if uploadWord t.upload = uploadWord s.upload then [] else [(19, uploadWord t.upload)])) := by
  obtain ⟨t, hexec, hb, hp, hu, he, hq⟩ := h
  refine ⟨t, hexec, hb, hp, hu, he, fun hr => ?_⟩
  rw [hu, if_neg (uploadWord_ne hne)]
  exact hq hr

/-- Settles O50. -/
theorem uploadLineServed : Obligations.UploadLineServed := by
  intro s level wordIfChanged
  refine ⟨fun h => ?_, fun h => ?_, fun ws h ha hc => ?_, fun h ha => ?_, fun f rest htx => ?_, fun htx hcut => ?_⟩
  · have hrep : Reports s (reportUpload s (sendHello (setReadyLine true s)))
        (wordIfChanged (sendHello (setReadyLine true s))) :=
      (Reports.of_path (s := s) (t := sendHello (setReadyLine true s)) rfl rfl).after (reportUpload_reports s (sendHello (setReadyLine true s)))
    have hup : (reportUpload s (sendHello (setReadyLine true s))).upload = (sendHello (setReadyLine true s)).upload := by simp
    refine ⟨_, exec_uplReady_waitLine h, fun b hb => ?_, hrep.grows.trans (endAct_grows _), by simp [setReadyLine], ?_,
      fun hr => ?_⟩
    · cases b <;> simp at hb <;> simp [SameBlock, setReadyLine]
    · rw [(endAct_keeps _).2.2.2.2.2.2.2.1, hup]
      rfl
    · have hq := (hrep.keep (endAct_reports _)).posts.queues hr
      rwa [show wordIfChanged (sendHello (setReadyLine true s)) =
        wordIfChanged (endAct (reportUpload s (sendHello (setReadyLine true s)))) by
          simp only [wordIfChanged, (endAct_keeps _).2.2.2.2.2.2.2.1, hup]] at hq
  · have hl : (level && decide (s.upload.state = .waitLine)) = false := by
      rcases h with h | h <;> simp [h]
    show execUplReady level s = _
    simp only [execUplReady, readyLine, hl, done]
    rfl
  · have h0 : (withoutCandidate s).upload.state = .waitLine := h
    exact failure_judged (v := s.upload) (exec_lineWaitTimeout h) (exec_lineWaitTimeout h0) ha hc
  · have hne : s.upload.state ≠ .idle := by rw [h]; decide
    refine uploadEnds_wordIfChanged (failure_ends (v := s.upload) (exec_lineWaitTimeout h) ha hne) ?_
    rw [h]
    exact UploadState.noConfusion
  · intro awaited
    have hiff : awaited ↔ replyAwaited s f.tag = true := (replyAwaited_iff s f.tag).symm
    refine ⟨fun h => ?_, fun h => ?_⟩
    · rw [exec_frameSent htx, frameGone, hiff.mp h, Bool.or_true]
      rfl
    · have hno : replyAwaited s f.tag = false := by simpa using fun hr => h (hiff.mpr hr)
      rw [exec_frameSent htx, frameGone, hno, Bool.or_false]
      rfl
  · have hexec : execFrameSent s = .next (endAct (cutByteGone s)) := by
      simp only [execFrameSent, htx, actIf, hcut, if_true, done]
    exact hexec

/-! ### The retries -/

/-- The retry count stands in the low half of the upload word. -/
theorem uploadWord_retries_bits (u : Upload) {k : Nat} (hk : k < 16) : (uploadWord u).getLsbD k = u.retries.getLsbD k := by
  have h1 : ¬ 16 ≤ k := by omega
  have h2 : ¬ 17 ≤ k := by omega
  have h3 : ¬ 20 ≤ k := by omega
  have h4 : k < 32 := by omega
  simp only [uploadWord, BitVec.getLsbD_or, put_getLsbD]
  simp [h1, h2, h3, h4, hk, BitVec.testBit_toNat]

theorem uploadWord_ne_of_retries {u v : Upload} (h : u.retries ≠ v.retries) : uploadWord u ≠ uploadWord v := fun he =>
  h (BitVec.eq_of_getLsbD_eq fun k hk => by rw [← uploadWord_retries_bits u hk, ← uploadWord_retries_bits v hk, he])

/-- The Upload Engine after a long retry, before it waits for the line. -/
def Upload.retriedLong (u : Upload) : Upload :=
  { u.countRetry with longRetries := u.longRetries + 1, shortRetries := 0, outstanding := none, reading := false }

theorem longRetry_waits {s : State} (h : s.upload.longRetries < s.upload.params.longLimit) :
    longRetry s = enterWaitLine s (s.setUpload s.upload.retriedLong) := if_pos h

theorem longRetry_fails {s : State} (h : ¬ s.upload.longRetries < s.upload.params.longLimit) :
    longRetry s = failUpload .retries s := if_neg h

/-- A long retry of the Upload Engine `v`, or the failure of the upload past the long limit. -/
theorem longRetry_ends {c : Instr} {s : State} {v : Upload} (hs : v.state ≠ .idle) (hw : v.state ≠ .waitLine)
    (hexec : exec c s = .next (endAct (longRetry (s.setUpload v))))
    (hexec0 : exec c (withoutCandidate s) = .next (endAct (longRetry ((withoutCandidate s).setUpload v)))) :
    (v.longRetries < v.params.longLimit → s.pins.uplReady = false →
      UploadEnds c s v.retriedLong.waiting s.events [(19, uploadWord v.retriedLong.waiting)]) ∧
    (v.longRetries < v.params.longLimit → s.pins.uplReady = true →
      UploadEnds c s (v.retriedLong.greeting s) s.events
        [(19, uploadWord v.retriedLong.waiting), (19, uploadWord (v.retriedLong.greeting s))]) ∧
    (¬ v.longRetries < v.params.longLimit → ∀ ws, ¬ AdoptsNothing s → s.profile.candidate = some ws →
      JudgedAfter PathGrows c s ws) ∧
    (¬ v.longRetries < v.params.longLimit → AdoptsNothing s → UploadEnds c s (v.failed .retries)
      { s.events with latchB := s.events.latchB ||| 512#12 } [(19, uploadWord (v.failed .retries))]) := by
  have hwaits (h : v.longRetries < v.params.longLimit) := waitLine_ends (w := v.retriedLong)
    (hexec.trans (by rw [longRetry_waits (s := s.setUpload v) h]; rfl)) hw
  refine ⟨fun h => (hwaits h).1, fun h => (hwaits h).2, fun h ws ha hc => ?_, fun h ha => ?_⟩
  · rw [longRetry_fails (s := s.setUpload v) h] at hexec
    rw [longRetry_fails (s := (withoutCandidate s).setUpload v) h] at hexec0
    exact failure_judged hexec hexec0 ha hc
  · rw [longRetry_fails (s := s.setUpload v) h] at hexec
    exact failure_ends hexec ha hs

/-- The Upload Engine once an attempt has failed. -/
def Upload.attemptFailed (u : Upload) : Upload := { u with ackTimer := false, batchSize := u.params.batchStart }

/-- The Upload Engine once a short retry has sent the batch again. -/
def Upload.resent (u : Upload) (b : Batch) : Upload :=
  { u.attemptFailed.countRetry with shortRetries := u.shortRetries + 1, tx := u.tx ++ [batchFrame b] }

theorem failedAttempt_short {b : Batch} {s : State} (h : s.upload.shortRetries < s.upload.params.shortLimit) :
    failedAttempt b s = reportUpload s (s.setUpload (s.upload.resent b)) := if_pos h

theorem failedAttempt_long {b : Batch} {s : State} (h : ¬ s.upload.shortRetries < s.upload.params.shortLimit) :
    failedAttempt b s = longRetry (s.setUpload s.upload.attemptFailed) := if_neg h

theorem resent_ends {c : Instr} {s : State} {v : Upload} {b : Batch}
    (hexec : exec c s = .next (endAct (failedAttempt b (s.setUpload v)))) (h : v.shortRetries < v.params.shortLimit) :
    UploadEnds c s (v.resent b) s.events [(19, uploadWord (v.resent b))] := by
  rw [failedAttempt_short (s := s.setUpload v) h] at hexec
  have hne : uploadWord (v.resent b) ≠ uploadWord v := uploadWord_ne_of_retries (u := v.resent b) (v := v) (by
    show v.retries + 1#16 ≠ v.retries
    bv_omega)
  have ho : UploadOnly s (reportUpload (s.setUpload v) ((s.setUpload v).setUpload (v.resent b))) := by
    constructor <;> simp
  have h := uploadEnds_of hexec ho ((setUpload_reports (v.resent b) s).after (reportUpload_reports_of_ne hne))
  simpa using h

/-! ### The batch -/

theorem exec_batchReadDone {s : State} {b : Batch} (ho : s.upload.outstanding = some b) (hr : s.upload.reading = true)
    (hs : readServed s .batch (s.active.journalAddr (s.journal.tail + word (b.words.length / 8)) (b.words.length % 8)) =
      true) : exec .batchReadDone s = .next (endAct (batchRead b (internalRead s
        (s.active.journalAddr (s.journal.tail + word (b.words.length / 8)) (b.words.length % 8))) s)) := by
  show execBatchReadDone s = _
  simp only [execBatchReadDone, batchReady, nextBatchAddr, ho, hr, hs, if_true, done]

theorem timerExpired_sending {s : State} {b : Batch} (h : s.upload.state = .sending) (ho : s.upload.outstanding = some b) :
    timerExpired s = failedAttempt b (s.setUpload { s.upload with ackTimer := false }) := by
  simp only [timerExpired, h, ho]

theorem timerExpired_waiting {s : State} (h : s.upload.state = .helloSent ∨ s.upload.state = .doneSent) :
    timerExpired s = longRetry (s.setUpload { s.upload with ackTimer := false }) := by
  rcases h with h | h <;> simp only [timerExpired, h]

theorem exec_ackTimeout {s : State} (h : s.upload.ackTimer = true) : exec .ackTimeout s = .next (endAct (timerExpired s)) :=
  show execAckTimeout s = _ by simp only [execAckTimeout, actIf, h, if_true, done]

/-- The two bytes of a batch number name it. -/
theorem number_of_bytes16 (n : BitVec 16) : 256 * (byte (n.toNat / 256)).toNat + (byte n.toNat).toNat = n.toNat := by
  have := n.isLt
  simp only [byte, BitVec.toNat_ofNat]
  omega

theorem exec_nakResend {s : State} {b : Batch} (ho : s.upload.outstanding = some b) (hs : s.upload.state = .sending)
    (hr : s.upload.reading = false) (hrx : s.upload.rxState = .hunt) (hb : s.upload.rxBytes = []) :
    exec (.nakResend b.number) s = .next (endAct (failedAttempt b s)) := by
  have hheard : heardBatch s b.number.toNat = some b := heardBatch_eq_some_iff.mpr ⟨hs, hr, ho, rfl⟩
  have hframe := rxBytesIn_frame (by rw [hs]; exact UploadState.noConfusion) hrx hb typeNak
    (payload := bytes16 b.number.toNat ++ [1#8]) (by simp [bytes16])
  show Host.Outcome.next (endAct (rxBytesIn _ s)) = _
  rw [hframe]
  show Host.Outcome.next (endAct (nakDelivered (256 * (byte (b.number.toNat / 256)).toNat + (byte b.number.toNat).toNat) 1 s)) = _
  rw [number_of_bytes16, nakDelivered, hheard]
  rfl

/-- Settles O51. -/
theorem batchSentAndRetried : Obligations.BatchSentAndRetried := by
  constructor
  · intro s hs ht waits hello failed ends long
    have hexec (r : State) (hu : r.upload = s.upload) : exec .ackTimeout r =
        .next (endAct (longRetry (r.setUpload { s.upload with ackTimer := false }))) := by
      rw [exec_ackTimeout (by rw [hu, ht]), timerExpired_waiting (by rw [hu]; exact hs), hu]
    exact longRetry_ends (v := { s.upload with ackTimer := false })
      (by rcases hs with h | h <;> simp [h]) (by rcases hs with h | h <;> simp [h]) (hexec s rfl) (hexec _ rfl)
  · intro s b ho n a read frame retried waits short long ends attempted
    have hattempted (c : Instr) (x : Bool) (hs : s.upload.state = .sending)
        (hexec : ∀ r : State, r.upload = s.upload →
          exec c r = .next (endAct (failedAttempt b (r.setUpload { s.upload with ackTimer := x })))) : attempted c := by
      have hlong (h : ¬ short) := longRetry_ends (c := c) (s := s)
        (v := Upload.attemptFailed { s.upload with ackTimer := x }) (by simp [Upload.attemptFailed, hs])
        (by simp [Upload.attemptFailed, hs])
        ((hexec s rfl).trans (by rw [failedAttempt_long (s := s.setUpload { s.upload with ackTimer := x }) h]; rfl))
        ((hexec (withoutCandidate s) rfl).trans (by
          rw [failedAttempt_long (s := (withoutCandidate s).setUpload { s.upload with ackTimer := x }) h]; rfl))
      exact ⟨fun h => resent_ends (hexec s rfl) h, fun h => (hlong h).1, fun h => (hlong h).2.1, fun h => (hlong h).2.2.1,
        fun h => (hlong h).2.2.2⟩
    refine ⟨fun hr hserved => ⟨fun hlt => ?_, fun hle => ?_⟩, fun hs ht => ?_, fun hs hr hrx hrb => ?_⟩
    · rw [exec_batchReadDone ho hr hserved, batchRead, if_pos (by simpa using hlt)]
      rfl
    · rw [exec_batchReadDone ho hr hserved, batchRead, if_neg (by simpa using hle)]
      rfl
    · refine hattempted .ackTimeout false hs fun r hu => ?_
      rw [exec_ackTimeout (by rw [hu, ht]), timerExpired_sending (by rw [hu, hs]) (by rw [hu, ho]), hu]
    · refine hattempted (.nakResend b.number) s.upload.ackTimer hs fun r hu => ?_
      have hsame : r.setUpload { s.upload with ackTimer := s.upload.ackTimer } = r := by
        show r.setUpload s.upload = r
        rw [← hu]
        rfl
      rw [hsame]
      exact exec_nakResend (by rw [hu, ho]) (by rw [hu, hs]) (by rw [hu, hr]) (by rw [hu, hrx]) (by rw [hu, hrb])

end Sys2Proof.Machine

/-! PROOFS. The replies of the central (section 8.4). -/

namespace Sys2Proof.Machine

/-! ### The next batch, or DONE (R146, R151) -/

/-- The Upload Engine that has formed a batch of `n` entries. -/
def Upload.formed (u : Upload) (n : Nat) : Upload :=
  { u with
    state := .sending
    batchCounter := u.batchCounter + 1#16
    outstanding := some ⟨u.batchCounter + 1#16, n, []⟩
    reading := true
    shortRetries := 0
    ackTimer := false }

/-- The Upload Engine that has sent DONE, the tail of the journal at `tail`. -/
def Upload.ended (u : Upload) (tail : Word) : Upload :=
  { u with
    state := .doneSent
    ackTimer := false
    tx := u.tx ++ [⟨.done, frameBytes 3#8 (bytesOf (tail - 1#32) ++ bytesOf u.entriesSent)⟩] }

theorem formBatch_forms {s : State} (h : 0 < min s.upload.batchSize s.present) :
    formBatch s = s.setUpload (s.upload.formed (min s.upload.batchSize s.present)) := if_neg (Nat.pos_iff_ne_zero.mp h)

theorem formBatch_ends {s : State} (h : min s.upload.batchSize s.present = 0) :
    formBatch s = s.setUpload (s.upload.ended s.journal.tail) := if_pos h

theorem formBatch_reports (s : State) : Reports s (formBatch s) [] := .of_path (by simp) (by simp [State.active])

/-! ### Frames heard -/

theorem exec_ack {s : State} {b : Batch} (ho : s.upload.outstanding = some b) (hs : s.upload.state = .sending)
    (hr : s.upload.reading = false) (hrx : s.upload.rxState = .hunt) (hb : s.upload.rxBytes = []) :
    exec (.ack b.number) s = .next (endAct (reportUpload s (acceptAck b s))) := by
  have hheard : heardBatch s b.number.toNat = some b := heardBatch_eq_some_iff.mpr ⟨hs, hr, ho, rfl⟩
  have hframe := rxBytesIn_frame (by rw [hs]; exact UploadState.noConfusion) hrx hb typeAck
    (payload := bytes16 b.number.toNat) (by simp [bytes16])
  show Host.Outcome.next (endAct (rxBytesIn _ s)) = _
  rw [hframe]
  show Host.Outcome.next (endAct (ackDelivered (256 * (byte (b.number.toNat / 256)).toNat + (byte b.number.toNat).toNat) s)) = _
  rw [number_of_bytes16, ackDelivered, hheard]

theorem exec_nakAbort {s : State} {b : Batch} (ho : s.upload.outstanding = some b) (hs : s.upload.state = .sending)
    (hr : s.upload.reading = false) (hrx : s.upload.rxState = .hunt) (hb : s.upload.rxBytes = []) :
    exec (.nakAbort b.number) s = .next (endAct (failUpload .abort s)) := by
  have hheard : heardBatch s b.number.toNat = some b := heardBatch_eq_some_iff.mpr ⟨hs, hr, ho, rfl⟩
  have hframe := rxBytesIn_frame (by rw [hs]; exact UploadState.noConfusion) hrx hb typeNak
    (payload := bytes16 b.number.toNat ++ [2#8]) (by simp [bytes16])
  show Host.Outcome.next (endAct (rxBytesIn _ s)) = _
  rw [hframe]
  show Host.Outcome.next (endAct (nakDelivered (256 * (byte (b.number.toNat / 256)).toNat + (byte b.number.toNat).toNat) 2 s)) = _
  rw [number_of_bytes16, nakDelivered, hheard]
  rfl

theorem exec_welcome {s : State} (hs : s.upload.state = .helloSent) (hrx : s.upload.rxState = .hunt)
    (hb : s.upload.rxBytes = []) (day minute : BitVec 16) (second valid : Byte) :
    exec (.welcome day minute second valid) s = .next (endAct (reportUpload s (formBatch
      (offerTime day.toNat minute.toNat second.toNat valid.toNat
        (s.setUpload { s.upload with ackTimer := false }))))) := by
  have hframe := rxBytesIn_frame (by rw [hs]; exact UploadState.noConfusion) hrx hb typeWelcome
    (payload := bytes16 day.toNat ++ bytes16 minute.toNat ++ [second, valid]) (by simp [bytes16])
  show Host.Outcome.next (endAct (rxBytesIn _ s)) = _
  rw [hframe]
  show Host.Outcome.next (endAct (welcomeDelivered
    (256 * (byte (day.toNat / 256)).toNat + (byte day.toNat).toNat)
    (256 * (byte (minute.toNat / 256)).toNat + (byte minute.toNat).toNat) second.toNat valid.toNat s)) = _
  rw [number_of_bytes16, number_of_bytes16, welcomeDelivered, if_pos hs]

/-- The state in which a BYE leaves the upload, before a candidate is judged. -/
def uploadDoneIn (s : State) : State :=
  reportUpload s (raise .uploadDone 0 (s.setUpload { s.upload with state := .idle, ackTimer := false }))

theorem exec_bye {s : State} (hs : s.upload.state = .doneSent) (hrx : s.upload.rxState = .hunt)
    (hb : s.upload.rxBytes = []) : exec .bye s = .next (endAct (judgeCandidate (uploadDoneIn s))) := by
  have hframe := rxBytesIn_frame (by rw [hs]; exact UploadState.noConfusion) hrx hb typeBye (payload := []) (by simp)
  show Host.Outcome.next (endAct (rxBytesIn _ s)) = _
  rw [hframe]
  show Host.Outcome.next (endAct (byeDelivered s)) = _
  rw [byeDelivered, if_pos hs]
  rfl

/-! ### BYE (R151) -/

section
variable (s : State)

theorem uploadDoneIn_only : UploadOnly s (uploadDoneIn s) := by
  constructor <;> simp [uploadDoneIn]

theorem uploadDoneIn_upload : (uploadDoneIn s).upload = { s.upload with state := .idle, ackTimer := false } := by
  simp [uploadDoneIn]

theorem uploadDoneIn_events : (uploadDoneIn s).events = { s.events with latchB := s.events.latchB ||| 256#12 } := by
  simp [uploadDoneIn, raise_plain (e := .uploadDone) rfl, EventUnit.latch, Event.place]

theorem uploadDoneIn_withoutCandidate : uploadDoneIn (withoutCandidate s) = withoutCandidate (uploadDoneIn s) := by
  simp [uploadDoneIn]

theorem uploadDoneIn_state : (uploadDoneIn s).path.state = s.path.state := by simp [uploadDoneIn]

end

theorem uploadDoneIn_reports {s : State} (h : s.upload.state ≠ .idle) :
    Reports s (uploadDoneIn s) [(19, uploadWord (uploadDoneIn s).upload)] := by
  have hup : (uploadDoneIn s).upload =
      (raise .uploadDone 0 (s.setUpload { s.upload with state := .idle, ackTimer := false })).upload := by simp [uploadDoneIn]
  rw [hup]
  refine (setUpload_reports { s.upload with state := .idle, ackTimer := false } s).after
    ((raise_reports (e := .uploadDone) rfl ..).after (reportUpload_reports_of_ne (uploadWord_ne ?_)))
  rw [← hup, uploadDoneIn_upload]
  exact fun hi => h hi.symm

/-! ### ACK (R147) -/

/-- The Upload Engine once a batch has been acknowledged, before it forms the next one. -/
def Upload.acknowledged (u : Upload) (b : Batch) : Upload :=
  { u with
    ackTimer := false
    entriesSent := u.entriesSent + word b.count
    outstanding := none
    batchSize := min (u.batchSize + 1) u.params.batchMax }

/-- The state once an ACK has moved the tail and room has been reported. -/
def roomReported (b : Batch) (s : State) : State :=
  reportRoom (judgeLow (advanceTail b.count (s.setUpload (s.upload.acknowledged b))))

theorem acceptAck_eq (b : Batch) (s : State) : acceptAck b s = formBatch (roomReported b s) := rfl

section
variable (b : Batch) (s : State)

theorem advanceTail_journal (n : Nat) : (advanceTail n s).journal = { s.journal with tail := s.journal.tail + word n } := by
  simp [advanceTail]

theorem roomReported_keeps : (roomReported b s).store = s.store ∧ (roomReported b s).pins = s.pins ∧
    (roomReported b s).calendar = s.calendar ∧ (roomReported b s).wand = s.wand ∧ (roomReported b s).visit = s.visit ∧
    (roomReported b s).upload = s.upload.acknowledged b ∧ (roomReported b s).profile = s.profile ∧
    (roomReported b s).pending = s.pending := by
  simp [roomReported]

theorem roomReported_tail : (roomReported b s).journal.tail = s.journal.tail + word b.count ∧
    (roomReported b s).journal.head = s.journal.head := by
  simp [roomReported, judgeLow_journal, advanceTail_journal]

theorem roomReported_journal : (roomReported b s).journal = { s.journal with
    tail := s.journal.tail + word b.count
    lowArmed := decide (s.active.reserve < (roomReported b s).freeEntries) } := by
  have hfree : (roomReported b s).freeEntries = (advanceTail b.count (s.setUpload (s.upload.acknowledged b))).freeEntries :=
    freeEntries_congr (by simp [roomReported]) (by simp [roomReported, judgeLow_journal])
      (by simp [roomReported, judgeLow_journal])
  rw [hfree]
  simp [roomReported, judgeLow_journal, advanceTail_journal, State.active]
  rfl

theorem roomReported_engine : (roomReported b s).engine = { s.engine with sweep := { s.engine.sweep with
    state := if s.engine.sweep.state = .paused then .running else s.engine.sweep.state } } := by
  have he : (judgeLow (advanceTail b.count (s.setUpload (s.upload.acknowledged b)))).engine = s.engine := by simp
  unfold roomReported reportRoom
  rw [he]
  split
  · simp [setSweep]
  · rw [he]

theorem roomReported_reports : Reports s (roomReported b s) [(13, s.journal.tail + word b.count)] := by
  have hadvance : Reports (s.setUpload (s.upload.acknowledged b))
      (advanceTail b.count (s.setUpload (s.upload.acknowledged b))) [(13, s.journal.tail + word b.count)] :=
    (Reports.of_path (s := s.setUpload (s.upload.acknowledged b)) (t := (s.setUpload (s.upload.acknowledged b)).setJournal
      { s.journal with tail := s.journal.tail + word b.count }) rfl rfl).after (produce_reports ..)
  refine ((setUpload_reports (s.upload.acknowledged b) s).after hadvance).keep (.of_path ?_ ?_)
  · simp [roomReported, judgeLow_path]
  · simp [roomReported, State.active]

end

/-! ### WELCOME (R144, R145) -/

theorem timeInRange_eq_true {day minute second : Nat} (h : ¬ (36524 < day ∨ 1439 < minute ∨ 59 < second)) :
    timeInRange day minute second = true := by
  simp only [timeInRange, Config.lastDay, Config.lastMinute, Bool.and_eq_true, decide_eq_true_eq]
  omega

theorem timeInRange_eq_false {day minute second : Nat} (h : 36524 < day ∨ 1439 < minute ∨ 59 < second) :
    timeInRange day minute second = false := by
  simp only [timeInRange, Config.lastDay, Config.lastMinute, Bool.and_eq_false_iff, decide_eq_false_iff_not]
  omega

section
variable {s : State} {day minute second valid : Nat}

theorem offerTime_ignored (h : ¬ (s.upload.params.acceptCentral = true ∧ valid = 1)) :
    offerTime day minute second valid s = s :=
  if_pos (by
    simp only [Bool.or_eq_true, Bool.not_eq_true', decide_eq_true_eq]
    cases ha : s.upload.params.acceptCentral
    · exact .inl rfl
    · exact .inr fun hv => h ⟨ha, hv⟩)

theorem offerTime_offered (h : s.upload.params.acceptCentral = true ∧ valid = 1) : offerTime day minute second valid s =
    if !timeInRange day minute second then raise .timeRefused 0 s
    else if !s.calendar.valid then setClock day minute second .central s
    else if s.upload.params.tolerance <
        apart (secondsOf day minute second) (secondsOf s.calendar.day s.calendar.minute s.calendar.second) then
      setClock day minute second .central s
    else s := if_neg (by simp [h.1, h.2])

/-- The clock is set near the central's time. -/
def Near (s : State) (day minute second : Nat) : Prop :=
  s.calendar.valid = true ∧
    apart (86400 * day + 60 * minute + second)
      (86400 * s.calendar.day + 60 * s.calendar.minute + s.calendar.second) ≤ s.upload.params.tolerance

theorem offerTime_refused (h : s.upload.params.acceptCentral = true ∧ valid = 1)
    (hb : 36524 < day ∨ 1439 < minute ∨ 59 < second) : offerTime day minute second valid s = raise .timeRefused 0 s := by
  rw [offerTime_offered h, timeInRange_eq_false hb]
  rfl

theorem offerTime_near (h : s.upload.params.acceptCentral = true ∧ valid = 1)
    (hb : ¬ (36524 < day ∨ 1439 < minute ∨ 59 < second)) (hn : Near s day minute second) :
    offerTime day minute second valid s = s := by
  rw [offerTime_offered h, timeInRange_eq_true hb, hn.1]
  exact if_neg (Nat.not_lt.mpr hn.2)

theorem offerTime_sets (h : s.upload.params.acceptCentral = true ∧ valid = 1)
    (hb : ¬ (36524 < day ∨ 1439 < minute ∨ 59 < second)) (hn : ¬ Near s day minute second) :
    offerTime day minute second valid s = setClock day minute second .central s := by
  rw [offerTime_offered h, timeInRange_eq_true hb]
  cases hv : s.calendar.valid
  · rfl
  · exact if_pos (Nat.lt_of_not_le fun hle => hn ⟨hv, hle⟩)

theorem offerTime_cases (day minute second valid : Nat) (s : State) :
    offerTime day minute second valid s = s ∨ offerTime day minute second valid s = raise .timeRefused 0 s ∨
      offerTime day minute second valid s = setClock day minute second .central s := by
  by_cases ho : s.upload.params.acceptCentral = true ∧ valid = 1
  · by_cases hb : 36524 < day ∨ 1439 < minute ∨ 59 < second
    · exact .inr (.inl (offerTime_refused ho hb))
    · by_cases hn : Near s day minute second
      · exact .inl (offerTime_near ho hb hn)
      · exact .inr (.inr (offerTime_sets ho hb hn))
  · exact .inl (offerTime_ignored ho)

end

/-- The CLOCK_SET entry of a time from the central. -/
theorem centralEntry_eq (d m k : Nat) (s : State) : clockSetEntry ⟨d, m, k, true⟩ s.reading .central =
    ⟨.clockSet, 0, ⟨d, m, k, true⟩, if s.calendar.valid then 1536 else 512, 65535, 65535,
      instantWord ⟨s.calendar.day, s.calendar.minute⟩ false, put 0 6 s.calendar.second, 0#32, 0#32⟩ := by
  cases hv : s.calendar.valid <;> simp [clockSetEntry, plainEntry, SetSource.bit, State.reading, hv, flag] <;> rfl

/-- A set of the clock raises CLOCK_SET. -/
theorem setClock_clockSet (d m k : Nat) (src : SetSource) (s : State) :
    (setClock d m k src s).events.latchB.getLsbD 2 = true := by
  classical
  have h : (setClock d m k src s).events.latchB = (clockPlaced d m k src s).events.latchB := by
    rw [setClock_eq]
    split
    · exact (sendNotice_latches ..).2
    · rfl
  rw [h, (clockPlaced_latches d m k src s).2]
  simp

/-- The state once the central's time has been offered. -/
def timeOffered (day minute : BitVec 16) (second valid : Byte) (s : State) : State :=
  offerTime day.toNat minute.toNat second.toNat valid.toNat (s.setUpload { s.upload with ackTimer := false })

section
variable (day minute : BitVec 16) (second valid : Byte) (s : State)

theorem timeOffered_keeps : (timeOffered day minute second valid s).store = s.store ∧
    (timeOffered day minute second valid s).pins = s.pins ∧ (timeOffered day minute second valid s).wand = s.wand ∧
    (timeOffered day minute second valid s).visit = s.visit ∧
    (timeOffered day minute second valid s).upload = { s.upload with ackTimer := false } ∧
    (timeOffered day minute second valid s).profile = s.profile ∧
    (timeOffered day minute second valid s).pending = s.pending ∧
    (timeOffered day minute second valid s).journal.head = s.journal.head ∧
    (timeOffered day minute second valid s).journal.tail = s.journal.tail := by
  obtain h | h | h := offerTime_cases day.toNat minute.toNat second.toNat valid.toNat
    (s.setUpload { s.upload with ackTimer := false })
  all_goals
    unfold timeOffered
    rw [h]
    simp

theorem timeOffered_grows : PathGrows s (timeOffered day minute second valid s) := by
  refine (setUpload_grows { s.upload with ackTimer := false } s).trans ?_
  obtain h | h | h := offerTime_cases day.toNat minute.toNat second.toNat valid.toNat
    (s.setUpload { s.upload with ackTimer := false })
  all_goals
    unfold timeOffered
    rw [h]
  · exact .of_path rfl
  · exact raise_grows ..
  · exact setClock_grows ..

end

/-- Settles O52. -/
theorem repliesHeard : Obligations.RepliesHeard := by
  intro s hrx hrb
  refine ⟨fun b ho hs hr => ?_, fun hs day minute second valid => ?_, fun ws hs ha hc => ?_, fun hs ha => ?_⟩
  · intro tail left size sent
    refine ⟨?_, fun ws ha hc => ?_, fun ha => ?_⟩
    · obtain ⟨m, hm⟩ : ∃ m, m = roomReported b s := ⟨_, rfl⟩
      have hexec := exec_ack ho hs hr hrx hrb
      rw [acceptAck_eq, ← hm] at hexec
      obtain ⟨hstore, hpins, hcal, hwand, hvisit, hup, hprof, hpend⟩ := roomReported_keeps b s
      have hj := roomReported_journal b s
      have he := roomReported_engine b s
      have hrep := roomReported_reports b s
      rw [← hm] at hstore hpins hcal hwand hvisit hup hprof hpend hj he hrep
      have hpresent : m.present = left := by simp only [State.present, hj]; rfl
      have hbatch : m.upload.batchSize = size := by rw [hup]; rfl
      have hall := (hrep.keep (formBatch_reports m)).trans (reportUpload_reports s (formBatch m))
      have htu : (endAct (reportUpload s (formBatch m))).upload = (formBatch m).upload := by simp
      refine ⟨_, hexec, fun b hb => ?_, hall.grows.trans (endAct_grows _), ?_, ?_, fun hrun => ?_, fun hl hz => ?_,
        fun hl => ?_⟩
      · cases b <;> simp at hb <;> simp [SameBlock, hstore, hpins, hcal, hwand, hvisit, hprof, hpend]
      · have hfree : (endAct (reportUpload s (formBatch m))).freeEntries = m.freeEntries :=
          freeEntries_congr (by simp) (by simp) (by simp)
        rw [hfree, ← hj]
        simp
      · rw [← he]
        simp
      · rw [htu]
        exact (hall.keep (endAct_reports _)).posts.queues hrun
      · rw [htu, formBatch_forms (by rw [hpresent, hbatch]; omega), State.setUpload_upload, hpresent, hbatch, hup]
        simp only [Upload.formed, Upload.acknowledged, hs, size, sent]
      · rw [htu, formBatch_ends (by rw [hpresent, hl]; exact Nat.min_zero _), State.setUpload_upload, hup, hj]
        rfl
    · have hx := exec_nakAbort ho hs hr hrx hrb
      have h0 := exec_nakAbort (s := withoutCandidate s) ho hs hr hrx hrb
      exact failure_judged (v := s.upload) hx h0 ha hc
    · have h := failure_ends (v := s.upload) (exec_nakAbort ho hs hr hrx hrb) ha (by rw [hs]; exact UploadState.noConfusion)
      have hu : s.upload.failed .abort = { s.upload with
          state := .idle, cause := .abort, ackTimer := false, outstanding := none, reading := false } := by
        simp only [Upload.failed, hrx, hrb]
      obtain ⟨t, hexec, hb, hp, htu, hev, hq⟩ := h
      rw [← htu] at hq
      exact ⟨t, hexec, hb, hp, htu.trans hu, hev, hq⟩
  · intro offered bad near
    obtain ⟨u, hu⟩ : ∃ u, u = timeOffered day minute second valid s := ⟨_, rfl⟩
    have hexec := exec_welcome hs hrx hrb day minute second valid
    rw [← timeOffered, ← hu] at hexec
    obtain ⟨hstore, hpins, hwand, hvisit, hup, hprof, hpend, hhead, htail⟩ := timeOffered_keeps day minute second valid s
    have hgrow := timeOffered_grows day minute second valid s
    rw [← hu] at hstore hpins hwand hvisit hup hprof hpend hhead htail hgrow
    have hpresent : u.present = s.present := by simp only [State.present, hhead, htail]
    have hbatch : u.upload.batchSize = s.upload.batchSize := by rw [hup]
    have htu : (endAct (reportUpload s (formBatch u))).upload = (formBatch u).upload := by simp
    have hoffer : offered ↔ (s.setUpload { s.upload with ackTimer := false }).upload.params.acceptCentral = true ∧
        valid.toNat = 1 := and_congr_right fun _ => ⟨congrArg BitVec.toNat, fun h => BitVec.eq_of_toNat_eq h⟩
    have hignored (h : ¬ offered ∨ (¬ bad ∧ near)) : u = s.setUpload { s.upload with ackTimer := false } := by
      by_cases ho : offered
      · obtain ⟨hb, hn⟩ := h.resolve_left (not_not.mpr ho)
        rw [hu]
        exact offerTime_near (hoffer.mp ho) hb hn
      · rw [hu]
        exact offerTime_ignored (mt hoffer.mpr ho)
    have hrefused (ho : offered) (hb : bad) : u = raise .timeRefused 0 (s.setUpload { s.upload with ackTimer := false }) := by
      rw [hu]
      exact offerTime_refused (hoffer.mp ho) hb
    have hset (ho : offered) (hb : ¬ bad) (hn : ¬ near) : u = setClock day.toNat minute.toNat second.toNat .central
        (s.setUpload { s.upload with ackTimer := false }) := by
      rw [hu]
      exact offerTime_sets (hoffer.mp ho) hb hn
    have hword : uploadWord (formBatch u).upload ≠ uploadWord s.upload := by
      refine uploadWord_ne ?_
      rw [hs]
      by_cases h : min u.upload.batchSize u.present = 0
      · rw [formBatch_ends h]
        exact UploadState.noConfusion
      · rw [formBatch_forms (Nat.pos_of_ne_zero h)]
        exact UploadState.noConfusion
    have hrest : Reports u (reportUpload s (formBatch u)) [(19, uploadWord (formBatch u).upload)] :=
      (formBatch_reports u).after (reportUpload_reports_of_ne hword)
    refine ⟨_, hexec, fun b hb => ?_, hgrow.trans (hrest.grows.trans (endAct_grows _)), fun h b hb => ?_, fun h hrun => ?_,
      fun ho hb => ⟨fun b hb' => ?_, ?_⟩, fun ho hb hn => ⟨?_, ?_, fun hq => ?_, fun hrun he hw hl => ?_⟩, fun h => ?_,
      fun h => ?_⟩
    · cases b <;> simp at hb <;> simp [SameBlock, hstore, hpins, hwand, hvisit, hprof, hpend]
    · rw [hignored h]
      cases b <;> simp at hb <;> simp [SameBlock]
    · have hsu : Reports s u [] := by
        by_cases ho : offered
        · by_cases hb : bad
          · rw [hrefused ho hb]
            exact (setUpload_reports ..).after (raise_reports rfl ..)
          · rw [hignored (.inr ⟨hb, (h.resolve_left (not_not.mpr ho)).resolve_left hb⟩)]
            exact setUpload_reports ..
        · rw [hignored (.inl ho)]
          exact setUpload_reports ..
      rw [htu]
      exact ((hsu.after hrest).keep (endAct_reports _)).posts.queues hrun
    · rw [hrefused ho hb]
      cases b <;> simp at hb' <;> simp [SameBlock]
    · rw [hrefused ho hb]
      simp [raise_plain (e := .timeRefused) rfl, EventUnit.latch, Event.place]
    · rw [hset ho hb hn]
      simp [setClock_calendar]
    · rw [hset ho hb hn]
      simp [setClock_clockSet]
    · rw [hset ho hb hn]
      have hj := setClock_journal day.toNat minute.toNat second.toNat .central
        (s.setUpload { s.upload with ackTimer := false })
      rw [systemEntry_journal, State.setUpload_journal, if_pos hq, centralEntry_eq] at hj
      simp only [(endAct_keeps _).2.2.2.2.2.2.1, reportUpload_keeps, formBatch_keeps, hj]
      rfl
    · have hopen : Open (s.setUpload { s.upload with ackTimer := false }) 2 := ⟨he, .inr hrun, hw, Nat.add_le_add_right hl 2⟩
      obtain ⟨es, hes⟩ := setClock_mirrorFirst (d := day.toNat) (m := minute.toNat) (k := second.toNat) (src := .central)
        hopen (decide_eq_true hrun)
      obtain ⟨fs, hfs⟩ := (hrest.grows.trans (endAct_grows _)).1.2.2.2.2.2.2.2
      have hcal : (endAct (reportUpload s (formBatch u))).calendar = u.calendar := by simp
      refine ⟨es ++ fs, ?_⟩
      rw [hfs, hcal, hset ho hb hn, hes, List.append_assoc]
      rfl
    · rw [htu, formBatch_forms (by rwa [hpresent, hbatch]), State.setUpload_upload, hpresent, hbatch, hup]
      rfl
    · rw [htu, formBatch_ends (by rwa [hpresent, hbatch]), State.setUpload_upload, htail, hup]
      rfl
  · refine judgedAfter_of_judgeCandidate (u := uploadDoneIn s)
      ((judges_of_not_adoptsNothing ha).congr (uploadDoneIn_only s).visit (uploadDoneIn_only s).engine
        (uploadDoneIn_state s)) (uploadDoneIn_only s).profile hc (exec_bye hs hrx hrb) ?_
    rw [exec_bye (s := withoutCandidate s) hs hrx hrb, uploadDoneIn_withoutCandidate, judgeCandidate_none (.inl rfl)]
  · have hexec := exec_bye hs hrx hrb
    have ho := uploadDoneIn_only s
    rw [judgeCandidate_idles (ha.congr ho.profile ho.visit ho.engine (uploadDoneIn_state s))] at hexec
    obtain ⟨t, hx, hb, hp, htu, hev, hq⟩ := uploadEnds_of hexec ho
      (uploadDoneIn_reports (by rw [hs]; exact UploadState.noConfusion))
    rw [← htu] at hq
    exact ⟨t, hx, hb, hp, htu.trans (uploadDoneIn_upload s), hev.trans (uploadDoneIn_events s), hq⟩

end Sys2Proof.Machine

/-! PROOFS. An adoption request and the effects of an adoption (section 10.2). -/

namespace Sys2Proof.Machine

/-! ### The sweep at an adoption (R81, R88) -/

section
variable {old new : Profile} {s : State}

theorem adoptSweep_stopping (h : old.mode = .service ∧ new.mode = .maintenance) : adoptSweep old new s = sweepStop s :=
  if_pos (by simp [h.1, h.2])

theorem adoptSweep_starting (h : old.mode = .maintenance ∧ new.mode = .service) : adoptSweep old new s = recoveryPass s := by
  unfold adoptSweep
  rw [if_neg (by simp [h.1]), if_pos (by simp [h.1, h.2])]

/-- The mode stays while the windows of a sweep under way are replaced. -/
def Restarting (old new : Profile) (s : State) : Prop :=
  old.mode = new.mode ∧ (old.loanWin ≠ new.loanWin ∨ old.borrowerWin ≠ new.borrowerWin) ∧ s.engine.sweep.state ≠ .idle

theorem adoptSweep_restarting (h : Restarting old new s) : adoptSweep old new s = sweepRestart s.engine.sweep.target s := by
  obtain ⟨hm, hw, hi⟩ := h
  unfold adoptSweep
  rw [if_neg (by rw [hm]; cases new.mode <;> simp), if_neg (by rw [hm]; cases new.mode <;> simp),
    if_pos (by simpa [hi] using hw)]

theorem adoptSweep_keeping (h1 : ¬ (old.mode = .service ∧ new.mode = .maintenance))
    (h2 : ¬ (old.mode = .maintenance ∧ new.mode = .service)) (h3 : ¬ Restarting old new s) : adoptSweep old new s = s := by
  have hm : old.mode = new.mode := by cases ho : old.mode <;> cases hn : new.mode <;> simp_all
  unfold adoptSweep
  rw [if_neg (by simpa using h1), if_neg (by simpa using h2), if_neg]
  intro hc
  simp only [Bool.and_eq_true, Bool.or_eq_true, decide_eq_true_eq] at hc
  exact h3 ⟨hm, hc⟩

end

/-- A sweep set running at slot 0 runs on over some slot, and ends at once over none. -/
theorem endIfDone_running {sw : Sweep} {s : State} (hr : sw.state = .running) (hc : sw.cursor = 0) :
    (0 < s.active.loanCount → endIfDone (setSweep sw s) = setSweep sw s) ∧
      (s.active.loanCount = 0 → endIfDone (setSweep sw s) = sweepEnd (setSweep sw s)) := by
  refine ⟨fun h => endIfDone_of_lt ?_, fun h => endIfDone_of_le hr ?_⟩
  · show sw.cursor < s.active.loanCount
    omega
  · show s.active.loanCount ≤ sw.cursor
    omega

theorem sweepEnd_idle (s : State) : (sweepEnd s).engine.sweep.state = .idle := by simp [sweepEnd]

/-- The record that a recovery pass starts with. -/
def recoveryBegun (s : State) : Sweep :=
  { s.engine.sweep with
    state := .running, cursor := 0, target := if s.calendar.valid then some s.reading.instant else none, marks := 0
    recovery := true, restarted := false }

/-- The record of a sweep that an adoption restarts. -/
def sweepRestarted (s : State) : Sweep := { s.engine.sweep with state := .running, cursor := 0, restarted := true }

theorem recoveryPass_eq (s : State) : recoveryPass s = endIfDone (setSweep (recoveryBegun s) s) := rfl

theorem sweepRestart_eq (s : State) :
    sweepRestart s.engine.sweep.target s = endIfDone (setSweep (sweepRestarted s) s) := rfl

/-! ### The effects of Table 10-3, block by block -/

section
variable (old new : Profile) (s : State)

theorem raiseClamped_keeps (made : Bool) : (raiseClamped made s).engine = s.engine ∧
    (raiseClamped made s).calendar = s.calendar ∧ (raiseClamped made s).journal = s.journal ∧
    (raiseClamped made s).path.state = s.path.state ∧ (raiseClamped made s).wand = s.wand ∧
    (raiseClamped made s).visit = s.visit ∧ (raiseClamped made s).upload = s.upload := by
  unfold raiseClamped
  split <;> simp

theorem raiseClamped_events (made : Bool) : (raiseClamped made s).events = { s.events with
    latchB := s.events.latchB ||| if made then 32#12 else 0#12 } := by
  unfold raiseClamped
  cases made
  · simp
  · simp [raise_plain (e := .profileClamped) rfl, EventUnit.latch, Event.place]

/-- The state whose sweep an adoption judges. -/
def sweptState : State := adoptMap old new (adoptWaiting new.statusWin s)

theorem sweptState_keeps : (sweptState old new s).calendar = s.calendar ∧ (sweptState old new s).events = s.events ∧
    (sweptState old new s).profile = s.profile ∧ (sweptState old new s).engine.sweep = s.engine.sweep ∧
    (sweptState old new s).journal = s.journal ∧
    (sweptState old new s).engine.stateMap =
      (if old.mode ≠ new.mode ∨ old.loanWin ≠ new.loanWin then [] else s.engine.stateMap) := by
  have hw : (adoptWaiting new.statusWin s).calendar = s.calendar ∧ (adoptWaiting new.statusWin s).events = s.events ∧
      (adoptWaiting new.statusWin s).profile = s.profile ∧ (adoptWaiting new.statusWin s).engine = s.engine ∧
      (adoptWaiting new.statusWin s).journal = s.journal := by
    unfold adoptWaiting
    split <;> exact ⟨rfl, rfl, rfl, rfl, rfl⟩
  obtain ⟨h1, h2, h3, h4, h5⟩ := hw
  unfold sweptState adoptMap
  by_cases h : old.mode ≠ new.mode ∨ old.loanWin ≠ new.loanWin
  · rw [if_pos (by simpa using h), if_pos h]
    simp [h1, h2, h3, h4, h5]
  · rw [if_neg (by simpa using h), if_neg h]
    simp [h1, h2, h3, h4, h5]

theorem adoptSweep_keeps_others : (adoptSweep old new s).calendar = s.calendar ∧
    (adoptSweep old new s).engine.stateMap = s.engine.stateMap ∧
    (adoptSweep old new s).events.latchB = s.events.latchB ∧ (adoptSweep old new s).events.sounder = s.events.sounder ∧
    (adoptSweep old new s).journal = s.journal := by
  have hend (u : State) : (endIfDone u).calendar = u.calendar ∧ (endIfDone u).engine.stateMap = u.engine.stateMap ∧
      (endIfDone u).events.latchB = u.events.latchB ∧ (endIfDone u).events.sounder = u.events.sounder ∧
      (endIfDone u).journal = u.journal := by
    unfold endIfDone
    split
    · simp [sweepEnd_events]
      simp [sweepEnd]
    · exact ⟨rfl, rfl, rfl, rfl, rfl⟩
  unfold adoptSweep
  split
  · unfold sweepStop
    split <;> exact ⟨rfl, rfl, rfl, rfl, rfl⟩
  · split
    · exact hend _
    · split
      · exact hend _
      · exact ⟨rfl, rfl, rfl, rfl, rfl⟩

/-- The Closed-Date Table after an adoption (R57). -/
theorem adoptCalendar_calendar (o n : Window) : (adoptCalendar o n s).calendar =
    if n.enable = false then
      (if o.enable = true then { s.calendar with table := List.replicate 61 0#32, load := none } else s.calendar)
    else if o.enable = false ∨ o.base ≠ n.base then { s.calendar with load := some 0 }
    else s.calendar := by
  unfold adoptCalendar
  cases hn : n.enable
  · cases ho : o.enable <;> rfl
  · by_cases h : o.enable = false ∨ o.base ≠ n.base
    · rw [if_neg (by simp), if_pos (by simpa using h), if_neg (by simp), if_pos h]
      rfl
    · rw [if_neg (by simp), if_neg (by simpa using h), if_neg (by simp), if_neg h]

theorem adoptCalendar_keeps (o n : Window) : (adoptCalendar o n s).engine = s.engine ∧
    (adoptCalendar o n s).events = s.events ∧ (adoptCalendar o n s).journal = s.journal := by
  unfold adoptCalendar
  split
  · split <;> exact ⟨rfl, rfl, rfl⟩
  · split <;> exact ⟨rfl, rfl, rfl⟩

theorem adoptJournal_keeps (o n : Window) : (adoptJournal o n s).calendar = s.calendar ∧
    (adoptJournal o n s).events = s.events ∧ (adoptJournal o n s).journal = s.journal ∧
    (adoptJournal o n s).engine.stateMap = s.engine.stateMap := by
  unfold adoptJournal reportRoom
  split
  · split <;> exact ⟨rfl, rfl, rfl, rfl⟩
  · exact ⟨rfl, rfl, rfl, rfl⟩

/-- Room that a change of the JOURNAL window reports resumes a paused sweep (R138). -/
theorem adoptJournal_sweep (o n : Window) : (adoptJournal o n s).engine.sweep = { s.engine.sweep with
    state := if s.engine.sweep.state = .paused ∧ n ≠ o ∧ n.enable = true then .running else s.engine.sweep.state } := by
  unfold adoptJournal reportRoom
  by_cases hw : o ≠ n ∧ n.enable = true
  · rw [if_pos (by simpa using hw)]
    by_cases hp : s.engine.sweep.state = .paused
    · rw [if_pos hp, if_pos ⟨hp, hw.1.symm, hw.2⟩]
      rfl
    · rw [if_neg hp, if_neg fun h => hp h.1]
  · rw [if_neg (by simpa using hw), if_neg fun h => hw ⟨h.2.1.symm, h.2.2⟩]

theorem adoptEffects_eq : adoptEffects old new s = adoptJournal old.journalWin new.journalWin
    (adoptCalendar old.calendarWin new.calendarWin (adoptSweep old new (sweptState old new s))) := rfl

theorem adoptEffects_calendar : (adoptEffects old new s).calendar =
    if new.calendarWin.enable = false then
      (if old.calendarWin.enable = true then { s.calendar with table := List.replicate 61 0#32, load := none }
      else s.calendar)
    else if old.calendarWin.enable = false ∨ old.calendarWin.base ≠ new.calendarWin.base then
      { s.calendar with load := some 0 }
    else s.calendar := by
  rw [adoptEffects_eq, (adoptJournal_keeps ..).1, adoptCalendar_calendar, (adoptSweep_keeps_others ..).1,
    (sweptState_keeps ..).1]

theorem adoptEffects_stateMap : (adoptEffects old new s).engine.stateMap =
    if old.mode ≠ new.mode ∨ old.loanWin ≠ new.loanWin then [] else s.engine.stateMap := by
  rw [adoptEffects_eq, (adoptJournal_keeps ..).2.2.2, (adoptCalendar_keeps ..).1, (adoptSweep_keeps_others ..).2.1,
    (sweptState_keeps ..).2.2.2.2.2]

theorem adoptEffects_keeps : (adoptEffects old new s).events.latchB = s.events.latchB ∧
    (adoptEffects old new s).events.sounder = s.events.sounder ∧ (adoptEffects old new s).journal = s.journal := by
  obtain ⟨-, -, hB, hsound, hj⟩ := adoptSweep_keeps_others old new (sweptState old new s)
  obtain ⟨-, hev, -, -, hj', -⟩ := sweptState_keeps old new s
  rw [adoptEffects_eq, (adoptJournal_keeps ..).2.1, (adoptJournal_keeps ..).2.2.1, (adoptCalendar_keeps ..).2.1,
    (adoptCalendar_keeps ..).2.2, hB, hsound, hj, hj', hev]
  exact ⟨rfl, rfl, rfl⟩

/-- What an adoption makes of a sweep record. -/
theorem adoptEffects_sweep {sw : Sweep} (h : (adoptSweep old new (sweptState old new s)).engine.sweep = sw) :
    (adoptEffects old new s).engine.sweep = { sw with
      state := if sw.state = .paused ∧ new.journalWin ≠ old.journalWin ∧ new.journalWin.enable = true then .running
        else sw.state } := by
  rw [adoptEffects_eq, adoptJournal_sweep, (adoptCalendar_keeps ..).1, h]

theorem adoptEffects_latchA :
    (adoptEffects old new s).events.latchA = (adoptSweep old new (sweptState old new s)).events.latchA := by
  rw [adoptEffects_eq, (adoptJournal_keeps ..).2.1, (adoptCalendar_keeps ..).2.1]

end

/-! ### The adoption (R175) -/

section
variable (ws : List Word) (u : State)

/-- The state once the effects of Table 10-3 have been made. -/
def effected : State :=
  adoptEffects u.active (readProfile ws).clamp (raiseClamped (readProfile ws).clampsMade (u.setProfile { u.profile with
    active := (readProfile ws).clamp, candidate := none, outcome := .adopted, defaultInForce := false }))

/-- The state before the STATUS words of an adoption. -/
def adoptedIn : State :=
  adoptSounder (readProfile ws).clamp (judgeLow (raise .profileAdopted 0
    (systemEntry (adoptEntry (readProfile ws).clamp (readProfile ws).clampsMade (reportProfile u (effected ws u)).reading)
      (reportProfile u (effected ws u)))))

theorem adopt_eq : adopt ws u = adoptStatus u.active.statusWin (readProfile ws).clamp.statusWin (adoptedIn ws u) := rfl

theorem adoptStatus_only (o n : Window) (s : State) : (adoptStatus o n s).engine = s.engine ∧
    (adoptStatus o n s).calendar = s.calendar ∧ (adoptStatus o n s).journal = s.journal ∧
    (adoptStatus o n s).events = s.events ∧ (adoptStatus o n s).profile = s.profile ∧
    (adoptStatus o n s).visit = s.visit ∧ (adoptStatus o n s).wand = s.wand ∧ (adoptStatus o n s).upload = s.upload := by
  unfold adoptStatus
  split <;> simp

theorem adoptSounder_only (p : Profile) (s : State) : (adoptSounder p s).engine = s.engine ∧
    (adoptSounder p s).calendar = s.calendar ∧ (adoptSounder p s).journal = s.journal ∧
    (adoptSounder p s).path = s.path ∧ (adoptSounder p s).events =
      { s.events with sounder := if p.sounderEnable then s.events.sounder else none } := by
  unfold adoptSounder
  cases p.sounderEnable <;> simp [silenceSounder]

theorem effected_events : (effected ws u).events.latchB =
      u.events.latchB ||| (if (readProfile ws).clampsMade then 32#12 else 0#12) ∧
    (effected ws u).events.sounder = u.events.sounder ∧ (effected ws u).journal = u.journal := by
  obtain ⟨h1, h2, h3⟩ := adoptEffects_keeps u.active (readProfile ws).clamp (raiseClamped (readProfile ws).clampsMade
    (u.setProfile { u.profile with
      active := (readProfile ws).clamp, candidate := none, outcome := .adopted, defaultInForce := false }))
  unfold effected
  rw [h1, h2, h3, raiseClamped_events, (raiseClamped_keeps ..).2.2.1]
  exact ⟨rfl, rfl, rfl⟩

/-- The state whose sweep the adoption judges. -/
def sweptAt : State := sweptState u.active (readProfile ws).clamp (raiseClamped (readProfile ws).clampsMade
  (u.setProfile { u.profile with
    active := (readProfile ws).clamp, candidate := none, outcome := .adopted, defaultInForce := false }))

theorem sweptAt_keeps : (sweptAt ws u).calendar = u.calendar ∧ (sweptAt ws u).events.latchA = u.events.latchA ∧
    (sweptAt ws u).engine.sweep = u.engine.sweep ∧ (sweptAt ws u).active = (readProfile ws).clamp := by
  obtain ⟨h1, h2, h3, h4, -, -⟩ := sweptState_keeps u.active (readProfile ws).clamp
    (raiseClamped (readProfile ws).clampsMade (u.setProfile { u.profile with
      active := (readProfile ws).clamp, candidate := none, outcome := .adopted, defaultInForce := false }))
  unfold sweptAt
  rw [h1, h2, h4, State.active, h3, raiseClamped_events, raiseClamped_profile, (raiseClamped_keeps ..).1,
    (raiseClamped_keeps ..).2.1]
  exact ⟨rfl, rfl, rfl, rfl⟩

theorem effected_reading : (effected ws u).reading = u.reading := by
  have hc := adoptEffects_calendar u.active (readProfile ws).clamp (raiseClamped (readProfile ws).clampsMade
    (u.setProfile { u.profile with
      active := (readProfile ws).clamp, candidate := none, outcome := .adopted, defaultInForce := false }))
  rw [(raiseClamped_keeps ..).2.1, State.setProfile_calendar] at hc
  rw [State.reading, effected, hc]
  split
  · split <;> rfl
  · split <;> rfl

/-- The PROFILE_ADOPT entry, word by word. -/
theorem adoptEntry_eq (p : Profile) (r : Reading) : adoptEntry p.clamp p.clampsMade r = ⟨.profileAdopt, 0, r,
    (if p.clamp.mode = .maintenance then 2048 else 0) + (if p.clamp = p then 0 else 4096), 65535, 65535,
    0#32, 0#32, 0#32, p.clamp.generation⟩ := by
  have hmode : 2048 * p.clamp.mode.bit = if p.clamp.mode = .maintenance then 2048 else 0 := by
    cases p.clamp.mode <;> rfl
  have hclamps : 4096 * flag p.clampsMade = if p.clamp = p then 0 else 4096 := by
    by_cases hc : p.clamp = p <;> simp [Profile.clampsMade, flag, hc]
  rw [adoptEntry, hmode, hclamps]
  rfl

theorem adopt_engine : (adopt ws u).engine = (effected ws u).engine := by
  rw [adopt_eq, (adoptStatus_only ..).1, adoptedIn, (adoptSounder_only ..).1]
  simp

theorem adopt_calendar : (adopt ws u).calendar = (effected ws u).calendar := by
  rw [adopt_eq, (adoptStatus_only ..).2.1, adoptedIn, (adoptSounder_only ..).2.1]
  simp

theorem getLsbD_ite_zero {c : Prop} [Decidable c] {x : BitVec 12} {k : Nat} (hx : x.getLsbD k = false) :
    (if c then x else 0#12).getLsbD k = false := by
  split
  · exact hx
  · simp

theorem adopt_events : (adopt ws u).events.latchA = (effected ws u).events.latchA ∧
    (adopt ws u).events.latchB.getLsbD 5 = (effected ws u).events.latchB.getLsbD 5 ∧
    (adopt ws u).events.sounder =
      if (readProfile ws).clamp.sounderEnable then (effected ws u).events.sounder else none := by
  rw [adopt_eq, (adoptStatus_only ..).2.2.2.1, adoptedIn, (adoptSounder_only ..).2.2.2.2, judgeLow_events,
    raise_plain (e := .profileAdopted) rfl]
  have hs : ∀ e : JEntry, (systemEntry e (reportProfile u (effected ws u))).events.sounder = (effected ws u).events.sounder :=
    fun e => by
      by_cases h : (reportProfile u (effected ws u)).journal.systemQueue.length < 4
      · rw [systemEntry_room h]
        simp
      · rw [systemEntry_full (Nat.not_lt.mp h), raise_journalLost_events]
        simp
  refine ⟨?_, ?_, ?_⟩
  · simp [EventUnit.latch, Event.place, systemEntry_latches]
  · simp only [State.setEvents_events, EventUnit.latch, Event.place, systemEntry_latches, BitVec.getLsbD_or,
      show ¬ (18 < 15) by decide, if_false, getLsbD_ite_zero (x := 128#12) (k := 5) rfl,
      getLsbD_ite_zero (x := 64#12) (k := 5) rfl]
    simp
  · simp [EventUnit.latch, Event.place, hs]

/-- What an adoption makes of the sweep record and of latch A, in the words of the sweep's own effect. -/
theorem adopt_sweep {sw : Sweep} (h : (adoptSweep u.active (readProfile ws).clamp (sweptAt ws u)).engine.sweep = sw) :
    (adopt ws u).engine.sweep = { sw with
      state := if sw.state = .paused ∧ (readProfile ws).clamp.journalWin ≠ u.active.journalWin ∧
        (readProfile ws).clamp.journalWin.enable = true then .running else sw.state } := by
  rw [adopt_engine]
  exact adoptEffects_sweep _ _ _ h

/-- A sweep that is not paused is not resumed. -/
theorem adopt_sweep_of_not_paused {sw : Sweep}
    (h : (adoptSweep u.active (readProfile ws).clamp (sweptAt ws u)).engine.sweep = sw) (hp : sw.state ≠ .paused) :
    (adopt ws u).engine.sweep = sw := by
  rw [adopt_sweep ws u h, if_neg fun hc => hp hc.1]

theorem adopt_latchA : (adopt ws u).events.latchA =
    (adoptSweep u.active (readProfile ws).clamp (sweptAt ws u)).events.latchA := by
  rw [(adopt_events ws u).1]
  exact adoptEffects_latchA ..

/-- The adoption starts the part's service over the sweep of `u`, or restarts it. -/
def Begins : Prop :=
  (u.active.mode = .maintenance ∧ (readProfile ws).clamp.mode = .service) ∨ Restarting u.active (readProfile ws).clamp u

theorem restarting_sweptAt :
    Restarting u.active (readProfile ws).clamp (sweptAt ws u) ↔ Restarting u.active (readProfile ws).clamp u := by
  rw [Restarting, Restarting, (sweptAt_keeps ws u).2.2.1]

/-- The record that the sweep begins with at an adoption, and what becomes of it. -/
theorem adoptSweep_begins (h : Begins ws u) : ∃ sw : Sweep, sw.state = .running ∧ sw.cursor = 0 ∧
    adoptSweep u.active (readProfile ws).clamp (sweptAt ws u) = endIfDone (setSweep sw (sweptAt ws u)) ∧
    ((u.active.mode = .maintenance ∧ (readProfile ws).clamp.mode = .service) → sw = recoveryBegun u) ∧
    (Restarting u.active (readProfile ws).clamp u → sw = sweepRestarted u) := by
  obtain ⟨hcal, -, hsw, -⟩ := sweptAt_keeps ws u
  rcases h with h | h
  · refine ⟨recoveryBegun (sweptAt ws u), rfl, rfl, (adoptSweep_starting h).trans (recoveryPass_eq _), fun _ => ?_,
      fun hr => ?_⟩
    · simp only [recoveryBegun, State.reading, hcal, hsw]
    · have hm := hr.1
      rw [h.1, h.2] at hm
      cases hm
  · refine ⟨sweepRestarted (sweptAt ws u), rfl, rfl,
      (adoptSweep_restarting ((restarting_sweptAt ws u).mpr h)).trans (sweepRestart_eq _), fun hs => ?_, fun _ => ?_⟩
    · have hm := h.1
      rw [hs.1, hs.2] at hm
      cases hm
    · simp only [sweepRestarted, hsw]

theorem adopt_sweep_stopping (h : u.active.mode = .service ∧ (readProfile ws).clamp.mode = .maintenance) :
    (adopt ws u).engine.sweep = if u.engine.sweep.state = .idle then u.engine.sweep
      else { u.engine.sweep with state := .idle, cursor := 0, target := none, recovery := false } := by
  have hs := adoptSweep_stopping (s := sweptAt ws u) h
  have hsw := (sweptAt_keeps ws u).2.2.1
  by_cases hi : u.engine.sweep.state = .idle
  · rw [if_pos hi]
    refine adopt_sweep_of_not_paused ws u ?_ (by rw [hi]; decide)
    rw [hs, sweepStop, if_pos (by rw [hsw]; exact hi), hsw]
  · rw [if_neg hi]
    refine adopt_sweep_of_not_paused ws u ?_ SweepState.noConfusion
    rw [hs, sweepStop, if_neg (by rw [hsw]; exact hi), hsw]
    rfl

/-- Over some slot the sweep that begins runs on. -/
theorem adopt_sweep_runs (h : Begins ws u) (hl : 0 < (readProfile ws).clamp.loanCount) :
    ((u.active.mode = .maintenance ∧ (readProfile ws).clamp.mode = .service) →
        (adopt ws u).engine.sweep = recoveryBegun u) ∧
      (Restarting u.active (readProfile ws).clamp u → (adopt ws u).engine.sweep = sweepRestarted u) ∧
      (adopt ws u).events.latchA = u.events.latchA := by
  obtain ⟨sw, hr, hc, heq, hstart, hrestart⟩ := adoptSweep_begins ws u h
  rw [(endIfDone_running hr hc).1 (by rw [(sweptAt_keeps ws u).2.2.2]; exact hl)] at heq
  have hsweep : (adopt ws u).engine.sweep = sw := by
    refine adopt_sweep_of_not_paused ws u ?_ (by rw [hr]; decide)
    rw [heq]
    rfl
  rw [hsweep]
  refine ⟨hstart, hrestart, ?_⟩
  rw [adopt_latchA, heq]
  exact (sweptAt_keeps ws u).2.1

/-- Over no slot the sweep that begins ends in the same act. -/
theorem adopt_sweep_ends (h : Begins ws u) (hl : (readProfile ws).clamp.loanCount = 0) :
    (adopt ws u).engine.sweep.state = .idle ∧ (adopt ws u).events.latchA = u.events.latchA ||| 16384#15 := by
  obtain ⟨sw, hr, hc, heq, -, -⟩ := adoptSweep_begins ws u h
  rw [(endIfDone_running hr hc).2 (by rw [(sweptAt_keeps ws u).2.2.2]; exact hl)] at heq
  have hidle := sweepEnd_idle (setSweep sw (sweptAt ws u))
  rw [← heq] at hidle
  constructor
  · rw [adopt_sweep_of_not_paused ws u rfl (by rw [hidle]; decide), hidle]
  · rw [adopt_latchA, heq, sweepEnd_events, ← (sweptAt_keeps ws u).2.1]
    rfl

theorem adopt_sweep_keeping (h1 : ¬ (u.active.mode = .service ∧ (readProfile ws).clamp.mode = .maintenance))
    (h2 : ¬ Begins ws u) : (adopt ws u).engine.sweep = { u.engine.sweep with
      state := if u.engine.sweep.state = .paused ∧ (readProfile ws).clamp.journalWin ≠ u.active.journalWin ∧
        (readProfile ws).clamp.journalWin.enable = true then .running else u.engine.sweep.state } := by
  simp only [Begins, not_or] at h2
  refine adopt_sweep ws u ?_
  rw [adoptSweep_keeping h1 h2.1 (mt (restarting_sweptAt ws u).mp h2.2)]
  exact (sweptAt_keeps ws u).2.2.1

/-- Latch A takes SWEEP_DONE when a sweep that begins ends at once, and nothing otherwise. -/
theorem adopt_latchA_same (h : ¬ (Begins ws u ∧ (readProfile ws).clamp.loanCount = 0)) :
    (adopt ws u).events.latchA = u.events.latchA := by
  by_cases hb : Begins ws u
  · exact (adopt_sweep_runs ws u hb (Nat.pos_of_ne_zero fun hl => h ⟨hb, hl⟩)).2.2
  · have hA := (sweptAt_keeps ws u).2.1
    rw [adopt_latchA]
    by_cases hs : u.active.mode = .service ∧ (readProfile ws).clamp.mode = .maintenance
    · rw [adoptSweep_stopping hs, sweepStop]
      split <;> exact hA
    · simp only [Begins, not_or] at hb
      rw [adoptSweep_keeping hs hb.1 (mt (restarting_sweptAt ws u).mp hb.2), hA]

/-- The PROFILE_ADOPT entry joins a system append queue that has room. -/
theorem adopt_systemQueue (h : u.journal.systemQueue.length < 4) : (adopt ws u).journal.systemQueue =
    u.journal.systemQueue ++ [adoptEntry (readProfile ws).clamp (readProfile ws).clampsMade (effected ws u).reading] := by
  have hj : (reportProfile u (effected ws u)).journal = u.journal := by
    rw [(reportProfile_keeps ..).2.2.2.2.2.2.1, (effected_events ..).2.2]
  rw [adopt_eq, (adoptStatus_only ..).2.2.1, adoptedIn, (adoptSounder_only ..).2.2.1, judgeLow_journal,
    (raise_keeps ..).2.2.2.2.2.2.1, systemEntry_journal, hj, if_pos h]
  simp [State.reading]

theorem adoptedIn_enters (hq : u.journal.systemQueue.length < 4) (hr : u.path.state = .running) :
    (adoptedIn ws u).path.waiting ≠ [] ∧ (adoptedIn ws u).path.state = .running ∧
      (adoptedIn ws u).active = (readProfile ws).clamp := by
  have hj : (reportProfile u (effected ws u)).journal = u.journal := by
    rw [(reportProfile_keeps ..).2.2.2.2.2.2.1, (effected_events ..).2.2]
  have hprofile : (adoptedIn ws u).profile = (adopt ws u).profile := ((adoptStatus_only ..).2.2.2.2.1).symm
  have hstate : (adoptedIn ws u).path.state = (adopt ws u).path.state := by
    rw [adopt_eq]
    unfold adoptStatus
    split <;> simp
  have hkeeps : (adopt ws u).path.state = u.path.state := (adopt_grows ws u).1.1
  refine ⟨?_, by rw [hstate, hkeeps, hr], by rw [State.active, hprofile, adopt_profile]⟩
  rw [adoptedIn, (adoptSounder_only ..).2.2.2.1, judgeLow_path, raise_plain (e := .profileAdopted) rfl,
    systemEntry_room (by rw [hj]; exact hq)]
  simp [beginWait]

/-- A group that finds others waiting joins them. -/
theorem produce_joins {o : GroupOwner} {s : State} (ho : o.replaces = false) (hw : writesStatus s = true)
    (hne : s.path.waiting ≠ []) (vs : List (Nat × Word)) (b : Bool) : produce o vs b s = beginWait o vs b s := by
  unfold produce
  rw [if_neg (by simp [hw]), if_neg (by simp [ho]), if_neg (by simp [hne])]

/-- The two groups of the STATUS words at a new place stand at the end of the line (R176). -/
theorem adoptStatus_waiting {o n : Window} {s : State} (hn : n.enable = true)
    (hm : o.enable = false ∨ o.aligned ≠ n.aligned) (hw : writesStatus s = true) (hne : s.path.waiting ≠ []) :
    (adoptStatus o n s).path.waiting = s.path.waiting ++
      [⟨.adoption, firstOfAdoption s, false⟩, ⟨.adoption, secondOfAdoption s, false⟩] := by
  unfold adoptStatus
  rw [if_pos (by simpa [hn] using hm)]
  have hw' (vs : List (Nat × Word)) : writesStatus (beginWait .adoption vs true s) = true := hw
  simp only []
  rw [produce_joins (o := .adoption) rfl hw hne, produce_joins (o := .adoption) rfl (hw' _) (by simp [beginWait])]
  simp only [beginWait, State.setPath_path, Bool.not_true, Bool.and_false, List.append_assoc, List.cons_append,
    List.nil_append]
  rfl

theorem firstOfAdoption_congr {s t : State} (hv : t.visit = s.visit) (hw : t.wand = s.wand) (hj : t.journal = s.journal)
    (hc : t.calendar = s.calendar) (he : t.engine = s.engine) : firstOfAdoption t = firstOfAdoption s := by
  simp only [firstOfAdoption, hv, hw, hj, hc, he]

theorem secondOfAdoption_congr {s t : State} (hp : t.profile = s.profile) (hu : t.upload = s.upload)
    (hj : t.journal = s.journal) (he : t.engine = s.engine) (hw : t.wand = s.wand) (hv : t.visit = s.visit)
    (hev : t.events = s.events) : secondOfAdoption t = secondOfAdoption s := by
  simp only [secondOfAdoption, hp, hu, hj, he, hw, hv, hev]

theorem adopt_waiting (hq : u.journal.systemQueue.length < 4) (hr : u.path.state = .running)
    (hn : (readProfile ws).clamp.statusWin.enable = true)
    (hm : u.active.statusWin.enable = false ∨ u.active.statusWin.aligned ≠ (readProfile ws).clamp.statusWin.aligned) :
    ∃ gs, (endAct (adopt ws u)).path.waiting = gs ++ [⟨.adoption, firstOfAdoption (endAct (adopt ws u)), false⟩,
      ⟨.adoption, secondOfAdoption (endAct (adopt ws u)), false⟩] := by
  obtain ⟨hne, hstate, hactive⟩ := adoptedIn_enters ws u hq hr
  have hwrites : writesStatus (adoptedIn ws u) = true := by simp [writesStatus, hactive, hn, hstate]
  obtain ⟨he, hc, hj, hev, hp, hv, hw, hu⟩ := adoptStatus_only u.active.statusWin (readProfile ws).clamp.statusWin
    (adoptedIn ws u)
  refine ⟨(adoptedIn ws u).path.waiting, ?_⟩
  rw [firstOfAdoption_congr (s := adoptedIn ws u) (t := endAct (adopt ws u)) hv hw hj hc he,
    secondOfAdoption_congr (s := adoptedIn ws u) (t := endAct (adopt ws u)) hp hu hj he hw hv hev]
  exact adoptStatus_waiting hn hm hwrites hne

end

/-! ### The request (R173) -/

/-- The state of a request whose shadow has been merged. -/
def requested (a : Access) (ws : List Word) (s : State) : State :=
  (forward a s).setProfile { s.profile with shadow := ws }

theorem exec_adoptionRequest {s : State} {data : Word} {st : Strobes} (h : WriteJudged s 127#22) :
    exec (.adoptionRequest data st) s = .next (endAct (requestAdoption (requested ⟨true, 127#22, data, st⟩
      (s.profile.shadow.set 127 (mergeLanes (nth s.profile.shadow 127) data st)) s))) := by
  have hw : exec (.adoptionRequest data st) s = _ := arriveWrite_judged (data := data) (st := st) h
  have hreg : regionOf s.active 127#22 = .profile 127 := by simp [regionOf]
  rw [hw]
  simp only [freeWrite, hreg]
  rfl

theorem of_candidateReady {u : State} {ws : List Word} (h : candidateReady u ws = true) : u.visit.visit = none ∧
    u.engine.crq = [] ∧ u.engine.op = none ∧
      ((readProfile ws).clamp.journalWin ≠ u.active.journalWin → u.upload.state = .idle) := by
  simp only [candidateReady, Bool.and_eq_true, Option.isNone_iff_eq_none, List.isEmpty_iff, Bool.or_eq_true,
    Bool.not_eq_true', changesJournal, decide_eq_false_iff_not, decide_eq_true_eq, not_not] at h
  obtain ⟨⟨⟨⟨-, h1⟩, h2⟩, h3⟩, h4⟩ := h
  exact ⟨h1, h2, h3, fun hm => h4.resolve_left hm⟩

theorem profileGood_iff (ws : List Word) : profileGood ws = true ↔ sumWords ws = 0#32 ∧ field (nth ws 0) 0 8 = 1 := by
  simp [profileGood]

/-- Settles O39. -/
theorem adoptionRequestJudged : Obligations.AdoptionRequestJudged := by
  intro s data st ws h hws new good moves sw stopping starting restarting ready passes rejected
  obtain ⟨r, hr⟩ : ∃ r, r = requested ⟨true, 127#22, data, st⟩ ws s := ⟨_, rfl⟩
  have hexec : exec (.adoptionRequest data st) s = .next (endAct (requestAdoption r)) := by
    rw [exec_adoptionRequest h, ← hws, hr]
  have hrun : s.path.state = .running := h.1.2.2.1
  have hpasses (t : State) (ht : PathGrows r t) : passes (endAct t) := by
    have hall := ht.trans (endAct_grows t)
    refine ⟨hall.keeps_of_upstream (by rw [hr]; rfl) (by rw [hr]; exact ⟨rfl, rfl, rfl, rfl, rfl, rfl, rfl⟩), ?_, ?_⟩
    · rw [hall.2.1, hr]
      rfl
    · rw [hall.2.2, hr]
      rfl
  have hreject (o : AdoptionOutcome) (v : State) (hv : PathGrows r v) (hsame : ∀ b, b ≠ .path → b ≠ .profile → SameBlock b s v)
      (hp : { v.profile with candidate := none, outcome := o } = { s.profile with shadow := ws, candidate := none, outcome := o })
      (hx : requestAdoption r = rejectProfile o v) : rejected o := by
    rw [hx] at hexec
    have hk := rejectProfile_keeps o v
    refine ⟨_, hexec, fun b hb => ?_, hpasses _ (hv.trans (rejectProfile_grows o v)), ?_, ?_⟩
    · have hsb := hsame b (by rintro rfl; simp at hb) (by rintro rfl; simp at hb)
      cases b <;> simp at hb <;> simp [SameBlock, hk] <;> exact hsb
    · rw [(endAct_keeps _).2.2.2.2.2.2.2.2.1, rejectProfile_profile, hp]
    · rw [(endAct_keeps _).2.2.2.2.2.2.2.2.2.1, rejectProfile_events, show v.events = s.events from
        hsame .events (by decide) (by decide)]
  obtain ⟨u, hu⟩ : ∃ u, u = reportProfile r (r.setProfile { r.profile with candidate := some ws }) := ⟨_, rfl⟩
  have huprofile : u.profile = { s.profile with shadow := ws, candidate := some ws } := by
    rw [hu, (reportProfile_keeps ..).2.2.2.2.2.2.2.2.1, hr]
    rfl
  have husame (b : Block) (hb : b ≠ .path) (hb' : b ≠ .profile) : SameBlock b s u := by
    cases b <;> simp at hb hb' <;> simp [SameBlock, hu] <;> rw [hr] <;> rfl
  have hugrows : PathGrows r u := by
    rw [hu]
    exact (PathGrows.of_path (t := r.setProfile { r.profile with candidate := some ws }) rfl).trans (reportProfile_grows ..)
  have huactive : u.active = s.active := by rw [State.active, huprofile]; rfl
  have hurun : u.path.state = .running := hugrows.1.1.trans (by rw [hr]; exact hrun)
  have hshadow : r.profile.shadow = ws := by rw [hr]; rfl
  have hgood (hg : good) : requestAdoption r = judgeCandidate u := by
    rw [requestAdoption, hshadow, if_pos ((profileGood_iff ws).mpr hg), hu]
  have hcu : u.profile.candidate = some ws := by rw [huprofile]
  have hjudges (hrd : ready) : Judges u := by
    obtain ⟨h1, h2, h3, -⟩ := hrd
    exact ⟨hurun, (congrArg VisitUnit.visit (husame .visit (by decide) (by decide))).trans h1,
      (congrArg Engine.crq (husame .engine (by decide) (by decide))).trans h2,
      (congrArg Engine.op (husame .engine (by decide) (by decide))).trans h3⟩
  have hidle (hrd : ready) (hm : (readProfile ws).clamp.journalWin ≠ u.active.journalWin) : u.upload.state = .idle := by
    rw [huactive] at hm
    exact (congrArg Upload.state (husame .upload (by decide) (by decide))).trans (hrd.2.2.2 hm)
  have hring : u.journal = s.journal := husame .journal (by decide) (by decide)
  refine ⟨fun hg => ?_, fun hg hn => ?_, fun hg hrd hm hj => ?_, fun hg hrd hj => ?_⟩
  · refine hreject .rejectedCheck r (.of_path rfl) (fun b hb hb' => ?_) (by rw [hr]; rfl) ?_
    · rw [hr]
      cases b <;> simp at hb hb' <;> rfl
    · rw [requestAdoption, hshadow, if_neg fun hp => hg ((profileGood_iff ws).mp hp)]
  · have hwaits : judgeCandidate u = u := by
      have hnr : candidateReady u ws = false := by
        rw [Bool.eq_false_iff]
        intro hcr
        obtain ⟨h1, h2, h3, h4⟩ := of_candidateReady hcr
        refine hn ⟨(congrArg VisitUnit.visit (husame .visit (by decide) (by decide))).symm.trans h1,
          (congrArg Engine.crq (husame .engine (by decide) (by decide))).symm.trans h2,
          (congrArg Engine.op (husame .engine (by decide) (by decide))).symm.trans h3, fun hm => ?_⟩
        exact (congrArg Upload.state (husame .upload (by decide) (by decide))).symm.trans (h4 (by rw [huactive]; exact hm))
      simp only [judgeCandidate, hcu, hnr, Bool.not_false, if_true]
    rw [hgood hg, hwaits] at hexec
    refine ⟨_, hexec, fun b hb => ?_, hpasses u hugrows, ?_⟩
    · have hsb := husame b (by rintro rfl; simp at hb) (by rintro rfl; simp at hb)
      cases b <;> simp at hb <;> simp [SameBlock] <;> exact hsb
    · rw [(endAct_keeps _).2.2.2.2.2.2.2.2.1, huprofile]
  · refine hreject .rejectedJournal u hugrows husame (by rw [huprofile]) ((hgood hg).trans ?_)
    exact judgeCandidate_rejects (hjudges hrd) (by rw [huactive]; exact hm)
      (hidle hrd (by rw [huactive]; exact hm)) (by rw [hring]; exact hj) hcu
  · have hcal : u.calendar = s.calendar := husame .calendar (by decide) (by decide)
    have hev : u.events = s.events := husame .events (by decide) (by decide)
    have heng : u.engine = s.engine := husame .engine (by decide) (by decide)
    have hvis : u.visit = s.visit := husame .visit (by decide) (by decide)
    rw [hgood hg, judgeCandidate_adopts (hjudges hrd)
      (fun hm => ⟨hidle hrd hm, by rw [hring]; exact hj (by rw [huactive] at hm; exact hm)⟩) hcu] at hexec
    obtain ⟨⟨h1, h2, h3, h4, h5, h6⟩, -, h7, h8⟩ : _ ∧ _ := by
      simpa only [State.unadopted, Prod.mk.injEq] using adopt_unadopted ws u
    obtain ⟨hA, h5', hsound⟩ := adopt_events ws u
    obtain ⟨heB, hesound, hej⟩ := effected_events ws u
    have hrestarting : Restarting u.active new u ↔ restarting := by rw [Restarting, huactive, heng]
    have hbegins : Begins ws u ↔ starting ∨ restarting := by
      show (_ ∨ Restarting u.active new u) ↔ _
      rw [hrestarting, huactive]
    refine ⟨_, hexec, fun b hb => ?_, hpasses _ (hugrows.trans (adopt_grows ws u)), ?_, ?_, ?_, ?_, fun hq => ?_, ?_, ?_, ?_, ?_,
      fun hs => ?_, fun hs hl => ?_, fun hs hl => ?_, fun hs hl => ?_, fun hs1 hs2 hs3 => ?_, fun hn => ?_,
      fun hn hm hq => adopt_waiting ws u (by rw [hring]; exact hq) hurun hn (by rw [huactive]; exact hm)⟩
    · have hblocks (b : Block) (hb : b ∈ [Block.store, .pins, .wand, .visit, .upload, .pending]) :
          SameBlock b s (adopt ws u) := by
        have hsb := husame b (by rintro rfl; simp at hb) (by rintro rfl; simp at hb)
        cases b <;> simp at hb <;> simp only [SameBlock, h1, h2, h3, h4, h5, h6] <;> exact hsb
      have hsb := hblocks b (by cases b <;> simp at hb <;> simp)
      cases b <;> simp at hb <;> simp [SameBlock] <;> exact hsb
    · rw [(endAct_keeps _).2.2.2.2.2.2.2.2.1, adopt_profile, huprofile]
    · rw [(endAct_keeps _).2.2.2.2.2.2.2.2.2.1, adopt_raised]
    · rw [(endAct_keeps _).2.2.2.2.2.2.2.2.2.1, h5', heB, hev]
      by_cases hc : new = readProfile ws
      · simp [Profile.clampsMade, show (readProfile ws).clamp = readProfile ws from hc, hc]
      · simp [Profile.clampsMade, show (readProfile ws).clamp ≠ readProfile ws from hc, hc]
    · rw [(endAct_keeps _).2.2.2.2.2.2.1, h8.1, h8.2, hring]
    · rw [(endAct_keeps _).2.2.2.2.2.2.1, adopt_systemQueue ws u (by rw [hring]; exact hq), hring]
      have hentry : adoptEntry new (readProfile ws).clampsMade (effected ws u).reading = ⟨.profileAdopt, 0, s.reading,
          (if new.mode = .maintenance then 2048 else 0) + (if new = readProfile ws then 0 else 4096), 65535, 65535,
          0#32, 0#32, 0#32, new.generation⟩ := by
        have hreading : (effected ws u).reading = s.reading := by rw [effected_reading, State.reading, hcal]; rfl
        rw [adoptEntry_eq, hreading]
      exact congrArg (fun e => s.journal.systemQueue ++ [e]) hentry
    · rw [(endAct_keeps _).2.2.2.1, adopt_calendar, effected, adoptEffects_calendar, (raiseClamped_keeps ..).2.1, huactive]
      simp only [State.setProfile_calendar, hcal]
      rfl
    · rw [(endAct_keeps _).2.2.2.2.2.2.2.2.2.1, hsound, hesound, hev]
    · rw [(endAct_keeps _).2.2.1, adopt_engine, effected, adoptEffects_stateMap, (raiseClamped_keeps ..).1, huactive]
      simp only [State.setProfile_engine, heng]
      rfl
    · simp only [Engine.work, Prod.mk.injEq] at h7
      simp only [(endAct_keeps _).2.2.1, h7, heng]
    · rw [(endAct_keeps _).2.2.1, adopt_sweep_stopping ws u (by rw [huactive]; exact hs), heng]
    · rw [(endAct_keeps _).2.2.1, (adopt_sweep_runs ws u (hbegins.mpr (.inl hs)) hl).1 (by rw [huactive]; exact hs)]
      simp only [recoveryBegun, State.reading, heng, hcal]
      rfl
    · rw [(endAct_keeps _).2.2.1, (adopt_sweep_runs ws u (hbegins.mpr (.inr hs)) hl).2.1 (hrestarting.mpr hs)]
      simp only [sweepRestarted, heng]
      rfl
    · obtain ⟨hidle, hlatch⟩ := adopt_sweep_ends ws u (hbegins.mpr hs) hl
      rw [(endAct_keeps _).2.2.1, (endAct_keeps _).2.2.2.2.2.2.2.2.2.1, hidle, hlatch, hev]
      exact ⟨rfl, rfl⟩
    · rw [(endAct_keeps _).2.2.1, adopt_sweep_keeping ws u (by rw [huactive]; exact hs1)
        (mt hbegins.mp (not_or.mpr ⟨hs2, hs3⟩)), heng, huactive]
    · rw [(endAct_keeps _).2.2.2.2.2.2.2.2.2.1, adopt_latchA_same ws u (by rw [hbegins]; exact hn), hev]

end Sys2Proof.Machine

/-! PROOFS. The end of a start (section 10.4): what it posts, what it releases and how the recovery pass stands. -/

namespace Sys2Proof.Machine

/-! ### Entries for STATUS words -/

/-- The queue of `s` has at most grown in `t`, and only by STATUS words of numbers below 32. -/
def PlacesStatus (s t : State) : Prop :=
  t.active.statusWin = s.active.statusWin ∧
    ∃ ws : List (Nat × Word), t.path.pwq = s.path.pwq ++ statusEntries s ws ∧ ∀ p ∈ ws, p.1 < 32

theorem PlacesStatus.of_path {s t : State} (hp : t.path.pwq = s.path.pwq) (ha : t.active.statusWin = s.active.statusWin) :
    PlacesStatus s t :=
  ⟨ha, [], by simpa [statusEntries] using hp, by simp⟩

theorem PlacesStatus.trans {s t u : State} (h : PlacesStatus s t) (k : PlacesStatus t u) : PlacesStatus s u := by
  obtain ⟨ha, ws, hp, hw⟩ := h
  obtain ⟨ka, vs, kp, kw⟩ := k
  refine ⟨ka.trans ha, ws ++ vs, ?_, fun p hm => (List.mem_append.mp hm).elim (hw p) (kw p)⟩
  rw [kp, hp, statusEntries_congr ha, List.append_assoc]
  simp [statusEntries]

theorem produce_places {ws : List (Nat × Word)} (h : ∀ p ∈ ws, p.1 < 32) (o : GroupOwner) (b : Bool) (s : State) :
    PlacesStatus s (produce o ws b s) := by
  refine ⟨by simp [State.active], ?_⟩
  unfold produce
  split
  · exact ⟨[], by simp [statusEntries], by simp⟩
  · split
    · exact ⟨[], by simp [statusEntries, replaceWaiting], by simp⟩
    · split
      · exact ⟨ws, rfl, h⟩
      · exact ⟨[], by simp [statusEntries, beginWait], by simp⟩

theorem record_lt (e : Event) {k : Nat} (h : e.record = some k) : k < 4 := by
  cases e <;> simp [Event.record] at h <;> omega

theorem raise_places (e : Event) (d : Nat) (s : State) : PlacesStatus s (raise e d s) := by
  unfold raise
  split
  · next k hk =>
    have hlt : k < 4 := record_lt e hk
    refine .trans (.of_path (s := s) (t := s.setEvents _) rfl rfl) ?_
    refine .trans (.of_path (t := State.setEvents _ _) rfl rfl) (produce_places ?_ ..)
    intro p hp
    simp only [stampMirror, List.mem_cons, List.not_mem_nil, or_false] at hp
    rcases hp with rfl | rfl <;> dsimp only <;> omega
  · exact .of_path rfl rfl

theorem systemEntry_places (e : JEntry) (s : State) : PlacesStatus s (systemEntry e s) := by
  unfold systemEntry
  split
  · exact .of_path rfl rfl
  · refine .trans (.of_path (s := s) (t := countLoss s) rfl rfl) (.trans (produce_places ?_ ..) (raise_places ..))
    simp

/-! ### The words of a start (R181) -/

section
variable (m : State)

theorem startWords_lt {p : StorePath} {n : Nat} (h : n ∈ startWords p) : n < 32 := by
  cases hc : p.repairedConsumer <;> cases ht : p.repairedTail <;> simp [startWords, hc, ht] at h <;> omega

theorem startWords_length (p : StorePath) : (startWords p).length ≤ 21 := by
  cases hc : p.repairedConsumer <;> cases ht : p.repairedTail <;> simp [startWords, hc, ht]

theorem writeStartWords_reports : Reports m (writeStartWords m) (statusWords m (startWords m.path)) := by
  have h := (produce_reports .startUp ((statusWords m (startWords m.path)).take 16) true m).trans
    (produce_reports .startUp ((statusWords m (startWords m.path)).drop 16) true _)
  rwa [List.take_append_drop] at h

theorem writeStartWords_places : PlacesStatus m (writeStartWords m) := by
  have hw : ∀ p ∈ statusWords m (startWords m.path), p.1 < 32 := by
    intro p hp
    obtain ⟨n, hn, rfl⟩ := List.mem_map.mp hp
    exact startWords_lt hn
  exact (produce_places (fun p hp => hw p (List.mem_of_mem_take hp)) ..).trans
    (produce_places (fun p hp => hw p (List.mem_of_mem_drop hp)) ..)

theorem writeStartWords_keeps : (writeStartWords m).store = m.store ∧ (writeStartWords m).pins = m.pins ∧
    (writeStartWords m).engine = m.engine ∧ (writeStartWords m).calendar = m.calendar ∧ (writeStartWords m).wand = m.wand ∧
    (writeStartWords m).visit = m.visit ∧ (writeStartWords m).journal = m.journal ∧
    (writeStartWords m).upload = m.upload ∧ (writeStartWords m).profile = m.profile ∧
    (writeStartWords m).events = m.events ∧ (writeStartWords m).pending = m.pending := by
  simp [writeStartWords]

/-- The start with its words placed, its entry asked for and START_UP raised. -/
def announced : State := raise .startUp 0 (systemEntry (startEntry (writeStartWords m)) (writeStartWords m))

/-- The start with CLOCK_INVALID raised as well. -/
def started : State := raiseClockInvalid (announced m)

theorem raiseClockInvalid_keeps : (raiseClockInvalid m).store = m.store ∧ (raiseClockInvalid m).pins = m.pins ∧
    (raiseClockInvalid m).engine = m.engine ∧ (raiseClockInvalid m).calendar = m.calendar ∧
    (raiseClockInvalid m).wand = m.wand ∧ (raiseClockInvalid m).visit = m.visit ∧
    (raiseClockInvalid m).journal = m.journal ∧ (raiseClockInvalid m).upload = m.upload ∧
    (raiseClockInvalid m).profile = m.profile ∧ (raiseClockInvalid m).path = m.path ∧
    (raiseClockInvalid m).pending = m.pending := by
  unfold raiseClockInvalid
  split
  · simp
  · simp [raise_plain (e := .clockInvalid) rfl]

theorem raiseClockInvalid_events : (raiseClockInvalid m).events =
    { m.events with latchB := m.events.latchB ||| if m.calendar.valid then 0#12 else 2#12 } := by
  unfold raiseClockInvalid
  cases m.calendar.valid
  · simp [raise_plain (e := .clockInvalid) rfl, EventUnit.latch, Event.place]
  · simp

theorem startEntry_writeStartWords : startEntry (writeStartWords m) = startEntry m := by
  obtain ⟨⟨-, -, h3, -, h5, h6, -⟩, -⟩ := (writeStartWords_reports m).grows
  obtain ⟨-, -, -, hc, -, -, -, -, hp, -⟩ := writeStartWords_keeps m
  simp only [startEntry, State.reading, h3, h5, h6, hc, hp]

theorem started_keeps : (started m).store = m.store ∧ (started m).pins = m.pins ∧
    (started m).engine = m.engine ∧ (started m).calendar = m.calendar ∧ (started m).wand = m.wand ∧
    (started m).visit = m.visit ∧ (started m).upload = m.upload ∧ (started m).profile = m.profile ∧
    (started m).pending = m.pending ∧ (started m).journal = (systemEntry (startEntry m) m).journal := by
  obtain ⟨h1, h2, h3, h4, h5, h6, h7, h8, h9, h10, h11⟩ :=
    raiseClockInvalid_keeps (announced m)
  obtain ⟨k1, k2, k3, k4, k5, k6, k7, k8, k9, -, k11⟩ := writeStartWords_keeps m
  unfold started
  rw [h1, h2, h3, h4, h5, h6, h7, h8, h9, h11]
  simp only [announced, raise_keeps, systemEntry_keeps, systemEntry_journal, k1, k2, k3, k4, k5, k6, k7, k8, k9, k11,
    startEntry_writeStartWords, and_self]

theorem started_grows : PathGrows m (started m) := by
  have h : PathGrows (writeStartWords m) (announced m) :=
    pathGrows_of_still (by simp [StorePath.still, announced]) ((systemEntry_grown ..).trans (raise_grown ..))
  exact (writeStartWords_reports m).grows.trans (h.trans (.of_path (raiseClockInvalid_keeps _).2.2.2.2.2.2.2.2.2.1))

theorem started_places : PlacesStatus m (started m) := by
  have h : PlacesStatus (writeStartWords m) (announced m) := (systemEntry_places ..).trans (raise_places ..)
  obtain ⟨-, -, -, -, -, -, -, -, hp, hpath, -⟩ := raiseClockInvalid_keeps (announced m)
  exact (writeStartWords_places m).trans (h.trans (.of_path (t := started m) (by rw [started, hpath])
    (by simp only [State.active, started, hp])))

/-- START_UP, CLOCK_INVALID while the clock is not valid, and JOURNAL_LOST when the entry finds no room. -/
theorem started_events : (started m).events.latchA = m.events.latchA ∧
    (started m).events.latchB = m.events.latchB ||| (if 4 ≤ m.journal.systemQueue.length then 128#12 else 0#12) ||| 1#12 |||
      (if m.calendar.valid then 0#12 else 2#12) := by
  obtain ⟨-, -, -, hc, -, -, hj, -, -, hev, -⟩ := writeStartWords_keeps m
  obtain ⟨hA, hB⟩ := systemEntry_latches (startEntry (writeStartWords m)) (writeStartWords m)
  rw [hev] at hA
  rw [hev, hj] at hB
  unfold started announced
  rw [raiseClockInvalid_events, raise_plain (e := .startUp) rfl]
  simp [EventUnit.latch, Event.place, hA, hB, hc]

/-- The system append queue with room takes the START_UP entry, its group waiting, and no stamp is noted. -/
theorem started_room (h : m.journal.systemQueue.length < 4) :
    (started m).path.pwq = (writeStartWords m).path.pwq ∧ (started m).path.waiting ≠ [] ∧
      (started m).events.stamps = m.events.stamps ∧
      (started m).journal = { m.journal with systemQueue := m.journal.systemQueue ++ [startEntry m] } := by
  obtain ⟨-, -, -, -, -, -, hj, -, -, hev, -⟩ := writeStartWords_keeps m
  have hroom : (writeStartWords m).journal.systemQueue.length < 4 := by rw [hj]; exact h
  refine ⟨?_, ?_, ?_, ?_⟩
  · unfold started announced
    rw [(raiseClockInvalid_keeps _).2.2.2.2.2.2.2.2.2.1, raise_plain (e := .startUp) rfl, systemEntry_room hroom]
    rfl
  · unfold started announced
    rw [(raiseClockInvalid_keeps _).2.2.2.2.2.2.2.2.2.1, raise_plain (e := .startUp) rfl, systemEntry_room hroom]
    simp [beginWait]
  · unfold started announced
    rw [raiseClockInvalid_events, raise_plain (e := .startUp) rfl, systemEntry_room hroom]
    simp [EventUnit.latch, Event.place, hev]
  · rw [(started_keeps m).2.2.2.2.2.2.2.2.2, systemEntry_journal, if_pos h]

theorem started_disabled (h : m.active.statusWin.enable = false) : (started m).path.pwq = m.path.pwq := by
  have h1 := ((writeStartWords_reports m).posts.disabled h).1
  have ha : (writeStartWords m).active.statusWin.enable = false := by
    rw [(writeStartWords_reports m).posts.window]
    exact h
  have h2 : (systemEntry (startEntry (writeStartWords m)) (writeStartWords m)).path.pwq = (writeStartWords m).path.pwq := by
    unfold systemEntry
    split
    · rfl
    · simp only [raise, Event.record, stampEvent]
      rw [produce_disabled (by simpa [State.active] using ha), State.setEvents_path,
        produce_disabled (s := countLoss _) (by simpa [State.active, countLoss] using ha)]
      rfl
  unfold started announced
  rw [(raiseClockInvalid_keeps _).2.2.2.2.2.2.2.2.2.1, raise_plain (e := .startUp) rfl, State.setEvents_path, h2, h1]

/-! ### The held access and the recovery pass -/

/-- A held access outside every window goes to the store as the part becomes RUNNING. -/
theorem releaseHeld_plain (h : PlainHeld m m.active) : releaseHeld (enterRunning (started m)) =
    (started m).setPath { (started m).path with
      state := .running, stage := .none, upstream := released m.path.upstream } := by
  obtain ⟨-, hup, -⟩ := started_grows m
  have hact : (started m).active = m.active := by simp only [State.active, (started_keeps m).2.2.2.2.2.2.2.1]
  unfold releaseHeld
  rcases h with h | ⟨a, h, hr, hq, hn⟩
  · have he : (enterRunning (started m)).path.upstream = .idle := hup.trans h
    split
    · next a hheld => exact absurd (he.symm.trans hheld) Upstream.noConfusion
    · have hrel : released m.path.upstream = m.path.upstream := by rw [h]; rfl
      rw [hrel, ← hup]
      rfl
  · have he : (enterRunning (started m)).path.upstream = .held a .startStop := hup.trans h
    have hr' : regionOf (enterRunning (started m)).active a.addr = .outside := by
      rw [← hr, ← hact]
      rfl
    have hfree : queueHolds (enterRunning (started m)) a.addr = false := by
      rw [Bool.eq_false_iff, ne_eq, queueHolds_iff]
      rintro ⟨e, hm, hea⟩
      obtain ⟨-, ws, hp, hw⟩ := started_places m
      have hm' : e ∈ m.path.pwq ++ statusEntries m ws := hp ▸ hm
      rcases List.mem_append.mp hm' with hm' | hm'
      · exact hq e hm' hea
      · obtain ⟨p, hpw, rfl⟩ := List.mem_map.mp hm'
        exact hn p.1 (hw p hpw) hea
    simp only [he, judge_outside (busyAt_outside hr') hfree (guardAt_outside hr') hr']
    rw [h]
    rfl

/-- The part RUNNING, its held access on its way, before the recovery pass. -/
def begun : State := (started m).setPath { (started m).path with
  state := .running, stage := .none, upstream := released m.path.upstream }

theorem begun_service : (begun m).service = m.service := by
  have hp : (begun m).profile = m.profile := (started_keeps m).2.2.2.2.2.2.2.1
  rw [State.service, State.active, hp]
  rfl

theorem startComplete_eq (h : PlainHeld m m.active) :
    startComplete m = if m.service then recoveryPass (begun m) else begun m := by
  have hs : startComplete m = if (releaseHeld (enterRunning (started m))).service then
      recoveryPass (releaseHeld (enterRunning (started m))) else releaseHeld (enterRunning (started m)) := rfl
  rw [hs, releaseHeld_plain m h]
  exact if_congr (iff_of_eq (congrArg (· = true) (begun_service m))) rfl rfl

/-- In MAINTENANCE mode a recovery pass does not start; in SERVICE mode it starts, and over no loan slot it ends. -/
theorem startComplete_cases (h : PlainHeld m m.active) :
    (m.active.mode = .maintenance → startComplete m = begun m) ∧
      (m.active.mode = .service → 0 < m.active.loanCount →
        startComplete m = setSweep (recoveryBegun (begun m)) (begun m)) ∧
      (m.active.mode = .service → m.active.loanCount = 0 →
        startComplete m = sweepEnd (setSweep (recoveryBegun (begun m)) (begun m))) := by
  have hl : (begun m).active.loanCount = m.active.loanCount := by
    simp only [State.active, begun, State.setPath_profile, (started_keeps m).2.2.2.2.2.2.2.1]
  obtain ⟨hrun, hend⟩ := endIfDone_running (sw := recoveryBegun (begun m)) (s := begun m) rfl rfl
  rw [hl] at hrun hend
  rw [startComplete_eq m h]
  refine ⟨fun hm => ?_, fun hm h0 => ?_, fun hm h0 => ?_⟩
  · exact if_neg (by simp [State.service, hm])
  · rw [if_pos (by simp [State.service, hm]), recoveryPass_eq, hrun h0]
  · rw [if_pos (by simp [State.service, hm]), recoveryPass_eq, hend h0]

/-- The end of a sweep in a running part with a group waiting or no STATUS window leaves the queue. -/
theorem sweepEnd_pwq {s : State} (h : s.path.waiting ≠ [] ∨ s.active.statusWin.enable = false) :
    (sweepEnd s).path.pwq = s.path.pwq := by
  have hp (ws : List (Nat × Word)) (t : State) (ht : t.path = s.path) (ha : t.profile = s.profile) :
      (produce .sweepEnd ws false t).path.pwq = s.path.pwq := by
    rcases h with h | h
    · unfold produce
      rw [ht]
      split
      · exact congrArg _ ht
      · simp [GroupOwner.replaces, h, beginWait, ht]
    · rw [produce_disabled (by simpa only [State.active, ha] using h), ht]
  simp only [sweepEnd, raise_plain (e := .sweepDone) rfl, State.setEvents_path]
  exact hp _ _ rfl rfl

/-- What the end of a start does to the blocks. -/
structure StartEnds (t : State) : Prop where
  only : OnlyChanges [.path, .engine, .journal, .events] m t
  stage : (t.path.state, t.path.stage) = (.running, .none)
  flags : (t.path.startKind, t.path.repairedTail, t.path.repairedConsumer) =
    (m.path.startKind, m.path.repairedTail, m.path.repairedConsumer)
  upstream : t.path.upstream = released m.path.upstream
  journal : t.journal = (started m).journal
  latchB : t.events.latchB = (started m).events.latchB
  stamps : t.events.stamps = (started m).events.stamps
  interrupted : t.engine.interruptedWord = m.engine.interruptedWord
  queue : ((started m).path.waiting ≠ [] ∨ m.active.statusWin.enable = false) → t.path.pwq = (started m).path.pwq
  maintenance : m.active.mode = .maintenance → t.engine.sweep = m.engine.sweep ∧ t.events.latchA = m.events.latchA
  sweeping : m.active.mode = .service → 0 < m.active.loanCount →
    t.engine.sweep = recoveryBegun m ∧ t.events.latchA = m.events.latchA
  swept : m.active.mode = .service → m.active.loanCount = 0 →
    t.engine.sweep.state = .idle ∧ t.events.latchA = m.events.latchA ||| 16384#15 ∧
      t.engine.sweep.lastSwept = if m.calendar.valid then m.calendar.day else m.engine.sweep.lastSwept

theorem startComplete_ends (h : PlainHeld m m.active) : StartEnds m (startComplete m) := by
  obtain ⟨h1, h2, h3, h4, h5, h6, h7, h8, h9, -⟩ := started_keeps m
  obtain ⟨⟨-, -, g3, -, g5, g6, -, -⟩, -, -⟩ := started_grows m
  have hA := (started_events m).1
  have hbegun : recoveryBegun (begun m) = recoveryBegun m := by
    simp only [recoveryBegun, begun, State.setPath_engine, State.setPath_calendar, State.reading, h3, h4]
  have hmode : m.active.mode = .maintenance ∨ m.active.mode = .service := by cases m.active.mode <;> simp
  obtain ⟨c1, c2, c3⟩ := startComplete_cases m h
  have hact : (begun m).active = m.active := by simp only [State.active, begun, State.setPath_profile, h8]
  rcases hmode with hm | hm
  · rw [c1 hm]
    refine ⟨fun b hb => ?_, rfl, ?_, rfl, rfl, rfl, rfl, ?_, fun _ => rfl, fun _ => ⟨h3 ▸ rfl, hA⟩, fun hs => ?_, fun hs => ?_⟩
    · cases b <;> simp at hb <;> simp [SameBlock, begun, h1, h2, h4, h5, h6, h7, h8, h9]
    · simp [begun, g3, g5, g6]
    · exact congrArg Engine.interruptedWord h3
    · rw [hm] at hs; cases hs
    · rw [hm] at hs; cases hs
  · rcases Nat.eq_zero_or_pos m.active.loanCount with h0 | h0
    · rw [c3 hm h0]
      obtain ⟨u, hu⟩ : ∃ u, u = setSweep (recoveryBegun (begun m)) (begun m) := ⟨_, rfl⟩
      have hkeeps : u.store = m.store ∧ u.pins = m.pins ∧ u.calendar = m.calendar ∧ u.wand = m.wand ∧
          u.visit = m.visit ∧ u.upload = m.upload ∧ u.profile = m.profile ∧ u.pending = m.pending := by
        rw [hu]
        exact ⟨h1, h2, h4, h5, h6, h7, h8, h9⟩
      obtain ⟨k1, k2, k4, k5, k6, k7, k8, k9⟩ := hkeeps
      rw [← hu]
      refine ⟨fun b hb => ?_, ?_, ?_, ?_, ?_, ?_, ?_, ?_, fun hw => ?_, fun hs => ?_, fun _ hp => ?_, fun _ _ => ⟨?_, ?_, ?_⟩⟩
      · cases b <;> simp at hb <;> simp [SameBlock, k1, k2, k4, k5, k6, k7, k8, k9]
      · simp [hu, setSweep, begun]
      · simp [hu, setSweep, begun, g3, g5, g6]
      · simp [hu, setSweep, begun]
      · simp [hu, setSweep, begun]
      · rw [sweepEnd_events, hu]
        rfl
      · rw [sweepEnd_events, hu]
        rfl
      · rw [← h3]
        simp [sweepEnd, hu, setSweep, begun]
      · have hw' : u.path.waiting ≠ [] ∨ u.active.statusWin.enable = false := by
          rw [State.active, k8, hu]
          exact hw
        rw [sweepEnd_pwq hw', hu]
        rfl
      · rw [hm] at hs; cases hs
      · omega
      · simp [sweepEnd]
      · rw [sweepEnd_events, ← hA, hu]
        rfl
      · have hsw : u.engine.sweep = recoveryBegun m := by rw [hu, hbegun]; rfl
        simp only [sweepEnd, raise_keeps, produce_keeps, State.setEngine_engine, hsw]
        cases hv : m.calendar.valid <;> simp [recoveryBegun, hv, State.reading, Reading.instant]
    · rw [c2 hm h0]
      refine ⟨fun b hb => ?_, rfl, ?_, rfl, rfl, rfl, rfl, ?_, fun _ => rfl, fun hs => ?_, fun _ _ => ⟨hbegun, hA⟩, fun _ hz => ?_⟩
      · cases b <;> simp at hb <;> simp [SameBlock, begun, setSweep, h1, h2, h4, h5, h6, h7, h8, h9]
      · simp [begun, setSweep, g3, g5, g6]
      · show (started m).engine.interruptedWord = _
        rw [h3]
      · rw [hm] at hs; cases hs
      · omega

end

/-! ### A start completes -/

/-- What stands between `s` and the state `m` in which its start completes: the words `before` placed, the rest of what a
start's end is judged by as it was. -/
structure StartReady (s m : State) (before : List QEntry) : Prop where
  starting : m.path.state = .starting
  held : PlainHeld m m.active
  upstream : m.path.upstream = s.path.upstream
  latchA : m.events.latchA = s.events.latchA
  reading : m.reading = s.reading
  systemQueue : m.journal.systemQueue = s.journal.systemQueue
  sweep : m.engine.sweep.state = s.engine.sweep.state
  before_length : before.length ≤ 2
  opened : m.active.statusWin.enable = true → s.path.waiting = [] → s.path.pwq.length ≤ 1 →
    s.journal.systemQueue.length < 4 → m.path.waiting = [] ∧ m.path.pwq = s.path.pwq ++ before
  disabled : m.active.statusWin.enable = false → m.path.pwq = s.path.pwq

section
variable {s m t : State} {before : List QEntry}

/-- The START_UP entry, field by field. -/
theorem startEntry_eq (hp : (t.path.startKind, t.path.repairedTail, t.path.repairedConsumer) =
    (m.path.startKind, m.path.repairedTail, m.path.repairedConsumer)) (hc : t.calendar = m.calendar)
    (hpr : t.profile = m.profile) : startEntry m = entryOfStart t := by
  simp only [Prod.mk.injEq] at hp
  obtain ⟨hk, ht, hr⟩ := hp
  simp only [startEntry, plainEntry, entryOfStart, State.reading, hk, ht, hr, hc, hpr]
  cases m.path.startKind <;> cases m.profile.defaultInForce <;> cases m.path.repairedTail <;>
    cases m.path.repairedConsumer <;> rfl

/-- The STATUS words of a start are those of the state it ends in (R181). -/
theorem startWords_eq (h : StartEnds m t) (hroom : m.journal.systemQueue.length < 4) :
    statusWords m (startWords m.path) = wordsOfStart t := by
  obtain ⟨-, -, hst, hj⟩ := started_room m hroom
  have hflags := h.flags
  simp only [Prod.mk.injEq] at hflags
  obtain ⟨-, hft, hfc⟩ := hflags
  have hcal : t.calendar = m.calendar := h.only .calendar (by simp)
  have hwand : t.wand = m.wand := h.only .wand (by simp)
  have hvisit : t.visit = m.visit := h.only .visit (by simp)
  have hup : t.upload = m.upload := h.only .upload (by simp)
  have hprof : t.profile = m.profile := h.only .profile (by simp)
  have hstamps : t.events.stamps = m.events.stamps := h.stamps.trans hst
  have hloss : lossWord t.journal = lossWord m.journal ∧ t.journal.tail = m.journal.tail := by
    rw [h.journal, hj]
    exact ⟨rfl, rfl⟩
  simp only [wordsOfStart, stampWords, stampMirror, EventUnit.stamp, hcal, hwand, hvisit, hup, hprof, hstamps, hft, hfc,
    hloss, h.interrupted]
  cases hc : m.path.repairedConsumer <;> cases ht : m.path.repairedTail <;> simp [startWords, statusWords, statusValue, hc, ht, EventUnit.stamp]

/-- A start completes as R181 says. -/
theorem startComplete_completes (h : StartReady s m before) : StartCompletes s (startComplete m) before := by
  have he := startComplete_ends m h.held
  obtain ⟨t, ht⟩ : ∃ t, t = startComplete m := ⟨_, rfl⟩
  rw [← ht] at he ⊢
  have hcal : t.calendar = m.calendar := he.only .calendar (by simp)
  have hprof : t.profile = m.profile := he.only .profile (by simp)
  have hact : t.active = m.active := congrArg ProfileUnit.active hprof
  have hread := h.reading
  simp only [State.reading, Reading.mk.injEq] at hread
  obtain ⟨hday, hmin, -, hvalid⟩ := hread
  have hB := he.latchB.trans (started_events m).2
  refine ⟨he.stage, by rw [he.upstream, h.upstream], ?_, fun hv => ?_, fun hq => ?_, fun hm => ?_, fun hm h0 => ?_,
    fun hm h0 => ?_, fun hen hw hl hq => ?_, fun hd => ?_⟩
  · simp [hB]
  · rw [hB, hvalid, hv]
    simp
  · rw [he.journal, (started_room m (by rw [h.systemQueue]; exact hq)).2.2.2, startEntry_eq he.flags hcal hprof, h.systemQueue]
  · obtain ⟨h1, h2⟩ := he.maintenance (hact ▸ hm)
    exact ⟨by rw [h1, h.sweep], by rw [h2, h.latchA]⟩
  · obtain ⟨h1, h2⟩ := he.sweeping (hact ▸ hm) (hact ▸ h0)
    refine ⟨by rw [h2, h.latchA], ?_⟩
    rw [h1]
    simp only [recoveryBegun, hvalid, State.reading, Reading.instant, hday, hmin]
  · obtain ⟨h1, h2, -⟩ := he.swept (hact ▸ hm) (hact ▸ h0)
    exact ⟨h1, by rw [h2, h.latchA]⟩
  · have hq' : m.journal.systemQueue.length < 4 := by rw [h.systemQueue]; exact hq
    rw [hact] at hen
    obtain ⟨hmw, hmp⟩ := h.opened hen hw hl hq
    obtain ⟨hsp, hsw, -⟩ := started_room m hq'
    have hlen := startWords_length m.path
    have hb := h.before_length
    have hopen : Open m (statusWords m (startWords m.path)).length := by
      refine ⟨hen, .inl h.starting, hmw, ?_⟩
      simp only [hmp, List.length_append, statusWords, List.length_map]
      omega
    rw [he.queue (.inl hsw), hsp, ((writeStartWords_reports m).posts.opened hopen).1, hmp, startWords_eq he hq',
      statusEntries_congr (s := m) (t := t) (by rw [hact])]
  · rw [hact] at hd
    rw [he.queue (.inr hd), started_disabled m hd, h.disabled hd]

/-- The end of the act leaves a start completed. -/
theorem StartCompletes.acted (h : StartCompletes s t before) : StartCompletes s (endAct t) before := h

end

end Sys2Proof.Machine

/-! PROOFS. The list load (R57) and the decisions that wait for its end (R63, R64, R76). -/

namespace Sys2Proof.Machine

/-! ### Decisions -/

/-- A decision complete: the engine in COMMIT, its group at the end of the line (R14). -/
theorem endAct_toCommit (op : Op) (d : Decided) (s : State) : endAct (toCommit op d s) = afterDecision s op d := by
  simp [toCommit, beginWait, setOp, afterDecision, endAct]
  rfl

section
variable {s : State} {op : Op} {r : Reading}

theorem answered_loan {i : Nat} (h : op.kind = .entry (.loan i)) : answered s op r = loanAnswered s op i r := by
  simp [answered, h]

theorem answered_renew {i : Nat} {prior : LoanState} (h : op.kind = .entry (.renew i prior)) :
    answered s op r = renewAnswered s op i prior r := by
  simp [answered, h]

/-- A RETURN answered takes its fine from the calendar (R76). -/
theorem answered_ret {i : Nat} {prior : LoanState} (h : op.kind = .entry (.ret i prior)) (hv : r.valid = true) :
    answered s op r = .plan (returned s.active op i prior r (s.openCal.fine op.status.hourLoan op.due r.instant
      (op.item s.active).grace (op.item s.active).rate (op.item s.active).cap)) := by
  simp [answered, h, returnFine, hv]

/-- The due request of a LOAN. -/
def loanDue (s : State) (op : Op) (r : Reading) : DueResult :=
  s.openCal.due (op.item s.active).hours r.instant (op.item s.active).period s.active.minHourLoan op.record.expiry
    (op.cls s.active).dueNotPastExpiry

/-- The due request of a RENEW. -/
def renewDue (s : State) (op : Op) (r : Reading) : DueResult :=
  s.openCal.due op.status.hourLoan r.instant (op.item s.active).period s.active.minHourLoan op.record.expiry
    (op.cls s.active).dueNotPastExpiry

/-- A LOAN by the answer to its due request (R63). -/
theorem loanAnswered_cases (i : Nat) :
    (loanDue s op r = .dateLimit → loanAnswered s op i r = .plan (loanRefused s.active op i r 15)) ∧
      (loanDue s op r = .expiryNear → loanAnswered s op i r = .plan (loanRefused s.active op i r 11)) ∧
      (∀ d nod short, loanDue s op r = .due d nod short →
        loanAnswered s op i r = .grant (loanGranted s.active op i r d nod short)) := by
  have hl : loanAnswered s op i r = match loanDue s op r with
      | .due d nod short => .grant (loanGranted s.active op i r d nod short)
      | .dateLimit => .plan (loanRefused s.active op i r 15)
      | .expiryNear => .plan (loanRefused s.active op i r 11) := rfl
  refine ⟨fun h => ?_, fun h => ?_, fun d nod short h => ?_⟩ <;> rw [hl, h]

/-- A RENEW by the answer to its due request (R64). -/
theorem renewAnswered_cases (i : Nat) (prior : LoanState) :
    (renewDue s op r = .dateLimit → renewAnswered s op i prior r = .plan (renewRefused s.active op i prior r 15)) ∧
      (renewDue s op r = .expiryNear → renewAnswered s op i prior r = .plan (renewRefused s.active op i prior r 11)) ∧
      (∀ d nod short, renewDue s op r = .due d nod short →
        renewAnswered s op i prior r = .grant (renewGranted op i r d nod short)) := by
  have hl : renewAnswered s op i prior r = match renewDue s op r with
      | .due d nod short => .grant (renewGranted op i r d nod short)
      | .dateLimit => .plan (renewRefused s.active op i prior r 15)
      | .expiryNear => .plan (renewRefused s.active op i prior r 11) := rfl
  refine ⟨fun h => ?_, fun h => ?_, fun d nod short h => ?_⟩ <;> rw [hl, h]

theorem decideAfterLoad_answers (he : s.engine.state = .decide) (ho : s.engine.op = some op) (hr : op.reading = some r) :
    decideAfterLoad s = toCommit op (answered s op r) s := by
  simp [decideAfterLoad, he, ho, hr]

theorem decideAfterLoad_idle (he : s.engine.state ≠ .decide) : decideAfterLoad s = s := by
  unfold decideAfterLoad
  split
  · next h _ => exact absurd h he
  · rfl

end

/-! ### The list load -/

/-- The Calendar Unit once the read of word `n` has returned `w`. -/
def loadPlaced (n : Nat) (w : Word) (s : State) : State :=
  s.setCalendar { s.calendar with table := s.calendar.table.set n w, load := if n < 60 then some (n + 1) else none }

section
variable {s : State} {n : Nat}

theorem exec_listLoadReadDone (hl : s.calendar.load = some n)
    (hr : readServed s .listLoad (s.active.calendarWin.at n) = true) :
    exec .listLoadReadDone s = .next (endAct (loadReturned n (internalRead s (s.active.calendarWin.at n)) s)) := by
  have hready : loadReady s = some (n, s.active.calendarWin.at n) := by simp [loadReady, nextLoad, hl, hr]
  show execListLoadReadDone s = _
  simp [execListLoadReadDone, hready, done]

theorem loadReturned_cases (w : Word) : (n < 60 → loadReturned n w s = loadPlaced n w s) ∧
    (60 ≤ n → s.path.stage = .listLoad → loadReturned n w s = startComplete (loadPlaced n w s)) ∧
    (60 ≤ n → s.path.stage ≠ .listLoad → loadReturned n w s = decideAfterLoad (loadPlaced n w s)) := by
  refine ⟨fun h => if_pos h, fun h hs => ?_, fun h hs => ?_⟩
  · exact (if_neg (Nat.not_lt.mpr h)).trans (if_pos hs)
  · exact (if_neg (Nat.not_lt.mpr h)).trans (if_neg hs)

/-- Settles O41. -/
theorem listLoadPlacesWords : Obligations.ListLoadPlacesWords := by
  intro s n hl hr table
  have hexec := exec_listLoadReadDone hl hr
  obtain ⟨w, hw⟩ : ∃ w, w = internalRead s (s.active.calendarWin.at n) := ⟨_, rfl⟩
  obtain ⟨hnext, hstart, hlast⟩ := loadReturned_cases (s := s) (n := n) w
  rw [← hw] at hexec
  have hplaced (h : 60 ≤ n) : loadPlaced n w s = s.setCalendar { s.calendar with table := table, load := none } := by
    rw [loadPlaced, if_neg (Nat.not_lt.mpr h), hw]
  refine ⟨fun h => ?_, fun h hs he => ?_, fun h hs he op r ho hrd => ?_, fun h hs hst hp => ?_⟩
  · rw [hexec, hnext h, loadPlaced, if_pos h, hw]
    rfl
  · rw [hexec, hlast h hs, hplaced h, decideAfterLoad_idle (by exact he)]
    rfl
  · intro cal item due becomes
    obtain ⟨u, hu⟩ : ∃ u, u = s.setCalendar { s.calendar with table := table, load := none } := ⟨_, rfl⟩
    have hanswer : becomes (answered u op r) := by
      show exec .listLoadReadDone s = _
      rw [hexec, hlast h hs, hplaced h, ← hu, decideAfterLoad_answers (by rw [hu]; exact he) (by rw [hu]; exact ho) hrd,
        endAct_toCommit, hu]
      rfl
    refine ⟨fun i prior hk hv => ?_, fun i hk => ?_, fun i prior hk => ?_⟩
    · rw [answered_ret hk hv, hu] at hanswer
      exact hanswer
    · rw [answered_loan hk] at hanswer
      obtain ⟨h1, h2, h3⟩ := loanAnswered_cases (s := u) (op := op) (r := r) i
      rw [hu] at hanswer h1 h2 h3
      exact ⟨fun hd => (h1 hd) ▸ hanswer, fun hd => (h2 hd) ▸ hanswer, fun d nod short hd => (h3 d nod short hd) ▸ hanswer⟩
    · rw [answered_renew hk] at hanswer
      obtain ⟨h1, h2, h3⟩ := renewAnswered_cases (s := u) (op := op) (r := r) i prior
      rw [hu] at hanswer h1 h2 h3
      exact ⟨fun hd => (h1 hd) ▸ hanswer, fun hd => (h2 hd) ▸ hanswer, fun d nod short hd => (h3 d nod short hd) ▸ hanswer⟩
  · obtain ⟨u, hu⟩ : ∃ u, u = s.setCalendar { s.calendar with table := table, load := none } := ⟨_, rfl⟩
    have hready : StartReady s u [] := by
      rw [hu]
      exact ⟨hst, hp, rfl, rfl, rfl, rfl, rfl, by simp, fun _ hwait _ _ => ⟨hwait, (List.append_nil _).symm⟩, fun _ => rfl⟩
    have hends := startComplete_ends u hready.held
    refine ⟨endAct (startComplete u), ?_, fun b hb => ?_, ?_, (startComplete_completes hready).acted⟩
    · rw [hexec, hstart h hs, hplaced h, hu]
    · have hsame := hends.only b (by cases b <;> simp at hb ⊢)
      cases b <;> simp at hb <;> simpa [SameBlock, hu] using hsame
    · have hcal := hends.only .calendar (by simp)
      rw [(endAct_keeps _).2.2.2.1]
      exact hcal.trans (by rw [hu]; rfl)

end

end Sys2Proof.Machine

/-! PROOFS. What a start restores (R179, R180). -/

namespace Sys2Proof.Machine

/-! ### The counts restored and repaired -/

section
variable (r : Restored) (v : State)

/-- The entries between the restored pointers. -/
def Restored.gap : Nat := (r.w12 - r.w13).toNat

/-- The state once the counts have been restored, repaired and judged. -/
def restored : State := judgeLow (repairConsumer (repairTail (restoreCounts r v)))

theorem restore_eq : restore r v = startLoad (restored r v) := rfl

/-- The tail repaired, or as it was restored. -/
theorem repairTail_cases : (r.gap ≤ v.active.capacity → repairTail (restoreCounts r v) = restoreCounts r v) ∧
    (v.active.capacity < r.gap → repairTail (restoreCounts r v) = raise .journalLost (v.active.statusAddr 13).toNat
      { restoreCounts r v with
        journal := { v.journal with head := r.w12, tail := r.w12, lossCount := min (field r.w20 0 16 + 1) 65535 }
        path := { v.path with repairedTail := true } }) :=
  ⟨fun h => if_neg (Nat.not_lt.mpr h), fun h => if_pos h⟩

theorem repairTail_journal : (repairTail (restoreCounts r v)).journal = { v.journal with
    head := r.w12
    tail := if r.gap ≤ v.active.capacity then r.w13 else r.w12
    lossCount := if r.gap ≤ v.active.capacity then field r.w20 0 16 else min (field r.w20 0 16 + 1) 65535 } := by
  obtain ⟨h1, h2⟩ := repairTail_cases r v
  by_cases h : r.gap ≤ v.active.capacity
  · simp only [h1 h, h, if_true]
    rfl
  · simp only [h2 (Nat.lt_of_not_le h), h, if_false, raise_keeps]

theorem repairTail_restored : (repairTail (restoreCounts r v)).engine = (restoreCounts r v).engine ∧
    (repairTail (restoreCounts r v)).wand = (restoreCounts r v).wand ∧
    (repairTail (restoreCounts r v)).events.latchA = v.events.latchA ∧
    (repairTail (restoreCounts r v)).events.latchB =
      v.events.latchB ||| if r.gap ≤ v.active.capacity then 0#12 else 128#12 := by
  obtain ⟨h1, h2⟩ := repairTail_cases r v
  by_cases h : r.gap ≤ v.active.capacity
  · rw [h1 h, if_pos h]
    exact ⟨rfl, rfl, rfl, by simp; rfl⟩
  · rw [h2 (Nat.lt_of_not_le h), if_neg h, raise_journalLost_events]
    simp
    exact ⟨rfl, rfl⟩

/-- The tail's repair posts the stamp of JOURNAL_LOST. -/
theorem repairTail_posts : Posts v (repairTail (restoreCounts r v)) (if r.gap ≤ v.active.capacity then []
    else stampMirror (repairTail (restoreCounts r v)).events 3) := by
  obtain ⟨h1, h2⟩ := repairTail_cases r v
  by_cases h : r.gap ≤ v.active.capacity
  · rw [h1 h, if_pos h]
    exact .of_path rfl rfl rfl rfl
  · rw [if_neg h, h2 (Nat.lt_of_not_le h)]
    exact (Posts.of_path (by rfl) (by rfl) (by rfl) (by rfl)).after (raise_posts_stamp rfl)

theorem repairTail_places : PlacesStatus v (repairTail (restoreCounts r v)) := by
  obtain ⟨h1, h2⟩ := repairTail_cases r v
  by_cases h : r.gap ≤ v.active.capacity
  · rw [h1 h]
    exact .of_path rfl rfl
  · rw [h2 (Nat.lt_of_not_le h)]
    exact .trans (.of_path (s := v) (by rfl) (by rfl)) (raise_places ..)

theorem repairTail_path : (repairTail (restoreCounts r v)).path.upstream = v.path.upstream ∧
    (repairTail (restoreCounts r v)).path.startReads = v.path.startReads := by
  obtain ⟨h1, h2⟩ := repairTail_cases r v
  by_cases h : r.gap ≤ v.active.capacity
  · rw [h1 h]
    exact ⟨rfl, rfl⟩
  · rw [h2 (Nat.lt_of_not_le h)]
    simp

/-- The consumer's repair changes the wand and a flag. -/
theorem repairConsumer_cases (s : State) : (s.wand.unread ≤ 32 → repairConsumer s = s) ∧
    (32 < s.wand.unread → repairConsumer s = { s with
      wand := { s.wand with consumerCopy := word s.wand.producer.toNat }
      path := { s.path with repairedConsumer := true } }) :=
  ⟨fun h => if_neg (Nat.not_lt.mpr h), fun h => if_pos h⟩

theorem repairConsumer_stands (s : State) : (repairConsumer s).engine = s.engine ∧ (repairConsumer s).events = s.events ∧
    (repairConsumer s).path.pwq = s.path.pwq ∧ (repairConsumer s).path.waiting = s.path.waiting ∧
    (repairConsumer s).path.upstream = s.path.upstream ∧ (repairConsumer s).path.startReads = s.path.startReads ∧
    (repairConsumer s).store = s.store ∧ (repairConsumer s).pins = s.pins ∧ (repairConsumer s).calendar = s.calendar ∧
    (repairConsumer s).visit = s.visit ∧ (repairConsumer s).pending = s.pending := by
  obtain ⟨h1, h2⟩ := repairConsumer_cases s
  by_cases h : s.wand.unread ≤ 32
  · rw [h1 h]
    simp
  · rw [h2 (Nat.lt_of_not_le h)]
    simp

/-- What a start's restoring does to the blocks. -/
structure Restores (m : State) : Prop where
  only : OnlyChanges [.path, .engine, .wand, .journal, .events] v m
  path : (m.path.state, m.path.stage, m.path.upstream, m.path.startReads) =
    (v.path.state, v.path.stage, v.path.upstream, v.path.startReads)
  engine : m.engine = (restoreCounts r v).engine
  wand : m.wand = { v.wand with
    producer := r.w11.setWidth 16
    consumerCopy := if (r.w11.setWidth 16 - r.w1.setWidth 16 : BitVec 16).toNat ≤ 32 then word (field r.w1 0 16)
      else word (field r.w11 0 16) }
  pointers : m.journal.head = r.w12 ∧ m.journal.tail = (if r.gap ≤ v.active.capacity then r.w13 else r.w12) ∧
    m.journal.lossCount =
      (if r.gap ≤ v.active.capacity then field r.w20 0 16 else min (field r.w20 0 16 + 1) 65535) ∧
    m.journal.systemQueue = v.journal.systemQueue
  latchA : m.events.latchA = v.events.latchA
  latchB : ∃ low : Bool, m.events.latchB = v.events.latchB ||| (if r.gap ≤ v.active.capacity then 0#12 else 128#12) |||
    (if low then 64#12 else 0#12)
  posts : Posts v m (if r.gap ≤ v.active.capacity then [] else stampMirror m.events 3)
  places : PlacesStatus v m

theorem word_setWidth16 (w : Word) : word (w.setWidth 16).toNat = word (field w 0 16) := by
  simp [word, field]

/-- The consumer count of a restored copy. -/
theorem unread_restored : (restoreCounts r v).wand.unread = (r.w11.setWidth 16 - r.w1.setWidth 16 : BitVec 16).toNat := by
  have h : (word (field r.w1 0 16)).setWidth 16 = r.w1.setWidth 16 := by
    rw [← word_setWidth16]
    exact BitVec.eq_of_toNat_eq (by simp [word])
  show (r.w11.setWidth 16 - (word (field r.w1 0 16)).setWidth 16 : BitVec 16).toNat = _
  rw [h]

theorem repairConsumer_wand : (repairConsumer (repairTail (restoreCounts r v))).wand = { v.wand with
    producer := r.w11.setWidth 16
    consumerCopy := if (r.w11.setWidth 16 - r.w1.setWidth 16 : BitVec 16).toNat ≤ 32 then word (field r.w1 0 16)
      else word (field r.w11 0 16) } := by
  have hw := (repairTail_restored r v).2.1
  obtain ⟨h1, h2⟩ := repairConsumer_cases (repairTail (restoreCounts r v))
  rw [hw, unread_restored] at h1 h2
  by_cases h : (r.w11.setWidth 16 - r.w1.setWidth 16 : BitVec 16).toNat ≤ 32
  · rw [h1 h, hw, if_pos h]
    rfl
  · rw [h2 (Nat.lt_of_not_le h), if_neg h, ← word_setWidth16 r.w11]
    rfl

theorem restored_restores : Restores r v (restored r v) := by
  obtain ⟨u, hu⟩ : ∃ u, u = repairTail (restoreCounts r v) := ⟨_, rfl⟩
  obtain ⟨c1, c2, c3, c4, c5, c6, c7, c8, c9, c10, c11⟩ := repairConsumer_stands u
  obtain ⟨c12, c13, c14, c15, c16⟩ := repairConsumer_keeps u
  have hlow := judgeLow_journal (repairConsumer u)
  have hev := judgeLow_events (repairConsumer u)
  obtain ⟨e1, e2, e3, e4⟩ := repairTail_restored r v
  obtain ⟨p1, p2⟩ := repairTail_path r v
  have hj := repairTail_journal r v
  have hwand := repairConsumer_wand r v
  obtain ⟨k1, k2, k3, k4, k5⟩ := repairTail_keeps (restoreCounts r v)
  have hblocks : u.store = v.store ∧ u.pins = v.pins ∧ u.calendar = v.calendar ∧ u.visit = v.visit ∧
      u.pending = v.pending := by
    obtain ⟨h1, h2⟩ := repairTail_cases r v
    rw [hu]
    by_cases h : r.gap ≤ v.active.capacity
    · rw [h1 h]
      exact ⟨rfl, rfl, rfl, rfl, rfl⟩
    · rw [h2 (Nat.lt_of_not_le h)]
      simp
      exact ⟨rfl, rfl, rfl, rfl, rfl⟩
  obtain ⟨b1, b2, b3, b4, b5⟩ := hblocks
  have hposts := repairTail_posts r v
  have hplaces := repairTail_places r v
  rw [← hu] at e1 e2 e3 e4 p1 p2 hj hwand k1 k2 k3 k4 k5 hposts hplaces
  have hm : restored r v = judgeLow (repairConsumer u) := by rw [hu]; rfl
  rw [hm]
  have hstamps : stampMirror (judgeLow (repairConsumer u)).events 3 = stampMirror u.events 3 := by
    rw [hev, c2]
    rfl
  refine ⟨fun b hb => ?_, ?_, ?_, ?_, ?_, ?_, ⟨decide ((repairConsumer u).freeEntries ≤ (repairConsumer u).active.reserve ∧
    (repairConsumer u).journal.lowArmed = true), ?_⟩, ?_, ?_⟩
  · cases b <;> simp at hb <;> simp [SameBlock, c7, c8, c9, c10, c11, b1, b2, b3, b4, b5, k3, k4]
  · simp [c5, c6, p1, p2, k1, k2]
  · simp [c1, e1]
  · simpa using hwand
  · rw [hlow, c16, hj]
    exact ⟨rfl, rfl, rfl, rfl⟩
  · rw [hev, c2, e3]
  · rw [hev, c2, e4]
    simp
  · rw [hstamps]
    refine hposts.keep (.of_path (by rw [judgeLow_path, c3]) (by rw [judgeLow_path, c4]) (by rw [judgeLow_path, c12]) ?_)
    simp [State.active]
  · refine hplaces.trans (.of_path (by rw [judgeLow_path, c3]) ?_)
    simp [State.active]

end

/-! ### A start that restores and completes -/

/-- `v` is `s` as a start takes up its restoring: the reads put away, a profile in force. -/
structure TakesUp (s v : State) : Prop where
  only : OnlyChanges [.path, .upload, .profile, .events] s v
  path : v.path = { s.path with startReads := [] }
  latchA : v.events.latchA = s.events.latchA

section
variable {s v m : State} {r : Restored}

/-- The words that the tail's repair places before those of the start. -/
def repairWords (r : Restored) (v t : State) : List QEntry :=
  if r.gap ≤ v.active.capacity then [] else statusEntries v (stampMirror t.events 3)

theorem startReady_of_restores (hs : s.path.state = .starting) (hv : TakesUp s v) (hm : Restores r v m)
    (hheld : PlainHeld s v.active) : StartReady s m (repairWords r v m) := by
  have hprof : m.profile = v.profile := hm.only .profile (by simp)
  have hact : m.active = v.active := congrArg ProfileUnit.active hprof
  have hcal : m.calendar = s.calendar := (hm.only .calendar (by simp)).trans (hv.only .calendar (by simp))
  have hpath := hm.path
  simp only [Prod.mk.injEq, hv.path] at hpath
  obtain ⟨hst, -, hup, -⟩ := hpath
  have hpw : v.path.pwq = s.path.pwq ∧ v.path.waiting = s.path.waiting := by rw [hv.path]; exact ⟨rfl, rfl⟩
  have hen : v.engine = s.engine := hv.only .engine (by simp)
  have hjo : v.journal = s.journal := hv.only .journal (by simp)
  refine ⟨hst.trans hs, ?_, hup, hm.latchA.trans hv.latchA, ?_, ?_, ?_, ?_, fun hw hwait hl _ => ?_, fun hd => ?_⟩
  · rcases hheld with h | ⟨a, h, hr, hq, hn⟩
    · exact .inl (hup.trans h)
    · refine .inr ⟨a, hup.trans h, by rw [hact]; exact hr, fun e he => ?_, fun n hn' => by rw [hact]; exact hn n hn'⟩
      obtain ⟨-, ws, hp, hlt⟩ := hm.places
      rw [hp, hpw.1] at he
      rcases List.mem_append.mp he with he | he
      · exact hq e he
      · obtain ⟨p, hpm, rfl⟩ := List.mem_map.mp he
        exact hn p.1 (hlt p hpm)
  · simp only [State.reading, hcal]
  · rw [hm.pointers.2.2.2, hjo]
  · rw [hm.engine, ← hen]
    rfl
  · unfold repairWords
    split
    · simp
    · simp [statusEntries, stampMirror]
  · have hopen : Open v (if r.gap ≤ v.active.capacity then [] else stampMirror m.events 3 : List (Nat × Word)).length := by
      refine ⟨by rw [← hact]; exact hw, .inl (by rw [hv.path]; exact hs), hpw.2.trans hwait, ?_⟩
      rw [hpw.1]
      split
      · simp only [List.length_nil]; omega
      · simp only [stampMirror, List.length_cons, List.length_nil]; omega
    obtain ⟨hp, hw'⟩ := hm.posts.opened hopen
    refine ⟨hw', ?_⟩
    rw [hp, hpw.1, repairWords]
    split <;> rfl
  · rw [(hm.posts.disabled (by rw [← hact]; exact hd)).1, hpw.1]

/-- The last-swept day at the end of a start: the clock's when the recovery pass has ended at once. -/
theorem startEnds_lastSwept {t : State} (h : StartEnds m t) : t.engine.sweep.lastSwept =
    if m.active.mode = .service ∧ m.active.loanCount = 0 ∧ m.calendar.valid = true then m.calendar.day
    else m.engine.sweep.lastSwept := by
  rcases (by cases m.active.mode <;> simp : m.active.mode = .maintenance ∨ m.active.mode = .service) with hm | hm
  · rw [(h.maintenance hm).1, if_neg (by simp [hm])]
  · rcases Nat.eq_zero_or_pos m.active.loanCount with h0 | h0
    · rw [(h.swept hm h0).2.2]
      simp [hm, h0]
    · rw [(h.sweeping hm h0).1, if_neg (by omega)]
      rfl

/-- The latches 4, 5 and 7 of latch B at the end of a start. -/
theorem startEnds_latchB {t : State} (h : StartEnds m t) :
    t.events.latchB.getLsbD 4 = m.events.latchB.getLsbD 4 ∧ t.events.latchB.getLsbD 5 = m.events.latchB.getLsbD 5 ∧
      (m.events.latchB.getLsbD 7 = true → t.events.latchB.getLsbD 7 = true) := by
  rw [h.latchB, (started_events m).2]
  refine ⟨?_, ?_, fun h7 => by simp [h7]⟩ <;> split <;> split <;> simp

theorem restores_latchB (h : Restores r v m) :
    m.events.latchB.getLsbD 4 = v.events.latchB.getLsbD 4 ∧ m.events.latchB.getLsbD 5 = v.events.latchB.getLsbD 5 ∧
      (v.active.capacity < r.gap → m.events.latchB.getLsbD 7 = true) := by
  obtain ⟨low, hB⟩ := h.latchB
  rw [hB]
  refine ⟨?_, ?_, fun h7 => by simp [Nat.not_le.mpr h7]⟩ <;> split <;> split <;> simp

/-- What a start that restores its counts and completes leaves. -/
structure Finishes (s v : State) (r : Restored) (t : State) : Prop where
  completes : StartCompletes s t (repairWords r v t)
  lastSwept : t.engine.sweep.lastSwept =
    if t.active.mode = .service ∧ t.active.loanCount = 0 ∧ s.calendar.valid = true then s.calendar.day
    else min (field r.w17 0 16) 36524
  calendar : t.calendar = s.calendar
  store : t.store = s.store
  pins : t.pins = s.pins
  profile : t.profile = v.profile
  upload : t.upload = v.upload
  wand : t.wand = { s.wand with
    producer := r.w11.setWidth 16
    consumerCopy := if (r.w11.setWidth 16 - r.w1.setWidth 16 : BitVec 16).toNat ≤ 32 then word (field r.w1 0 16)
      else word (field r.w11 0 16) }
  head : t.journal.head = r.w12
  tail : t.journal.tail = if r.gap ≤ v.active.capacity then r.w13 else r.w12
  loss : s.journal.systemQueue.length < 4 → t.journal.lossCount =
    if r.gap ≤ v.active.capacity then field r.w20 0 16 else min (field r.w20 0 16 + 1) 65535
  latch4 : t.events.latchB.getLsbD 4 = v.events.latchB.getLsbD 4
  latch5 : t.events.latchB.getLsbD 5 = v.events.latchB.getLsbD 5
  latch7 : v.active.capacity < r.gap → t.events.latchB.getLsbD 7 = true

theorem restore_finishes (hs : s.path.state = .starting) (hv : TakesUp s v) (hheld : PlainHeld s v.active)
    (hcal : v.active.calendarWin.enable = false) : Finishes s v r (endAct (restore r v)) := by
  obtain ⟨m, hm⟩ : ∃ m, m = restored r v := ⟨_, rfl⟩
  have hr := restored_restores r v
  rw [← hm] at hr
  have hprof : m.profile = v.profile := hr.only .profile (by simp)
  have hact : m.active = v.active := congrArg ProfileUnit.active hprof
  have hready := startReady_of_restores hs hv hr hheld
  have he := startComplete_ends m hready.held
  obtain ⟨t, ht⟩ : ∃ t, t = startComplete m := ⟨_, rfl⟩
  have hrestore : restore r v = t := by
    rw [restore_eq, ← hm, ht]
    exact if_neg (by rw [hact, hcal]; simp)
  rw [← ht] at he
  have hfull := startComplete_completes hready
  rw [← ht] at hfull
  have hwords (hq : s.journal.systemQueue.length < 4) : repairWords r v m = repairWords r v t := by
    have hst := he.stamps.trans (started_room m (by rw [hready.systemQueue]; exact hq)).2.2.1
    simp only [repairWords, stampMirror, EventUnit.stamp, hst]
  have hmcal : m.calendar = s.calendar := (hr.only .calendar (by simp)).trans (hv.only .calendar (by simp))
  have htact : t.active = m.active := congrArg ProfileUnit.active (he.only .profile (by simp))
  have hjt : t.journal = (systemEntry (startEntry m) m).journal := he.journal.trans (started_keeps m).2.2.2.2.2.2.2.2.2
  rw [systemEntry_journal] at hjt
  obtain ⟨hp1, hp2, hp3, hp4⟩ := hr.pointers
  obtain ⟨hb4, hb5, hb7⟩ := startEnds_latchB he
  obtain ⟨hc4, hc5, hc7⟩ := restores_latchB hr
  rw [hrestore]
  constructor
  case completes =>
    obtain ⟨f1, f2, f3, f4, f5, f6, f7, f8, f9, f10⟩ := hfull.acted
    exact ⟨f1, f2, f3, f4, f5, f6, f7, f8, fun h1 h2 h3 h4 => by rw [f9 h1 h2 h3 h4, hwords h4]; rfl, f10⟩
  case lastSwept =>
    have hsw : m.engine.sweep.lastSwept = min (field r.w17 0 16) 36524 := by rw [hr.engine]; rfl
    rw [(endAct_keeps _).2.2.1, startEnds_lastSwept he, hsw, hmcal, ← htact]
    rfl
  case calendar => rw [(endAct_keeps _).2.2.2.1]; exact (he.only .calendar (by simp)).trans hmcal
  case store =>
    rw [(endAct_keeps _).1]
    exact (he.only .store (by simp)).trans ((hr.only .store (by simp)).trans (hv.only .store (by simp)))
  case pins =>
    rw [(endAct_keeps _).2.1]
    exact (he.only .pins (by simp)).trans ((hr.only .pins (by simp)).trans (hv.only .pins (by simp)))
  case profile => rw [(endAct_keeps _).2.2.2.2.2.2.2.2.1]; exact (he.only .profile (by simp)).trans hprof
  case upload =>
    rw [(endAct_keeps _).2.2.2.2.2.2.2.1]
    exact (he.only .upload (by simp)).trans (hr.only .upload (by simp))
  case wand =>
    rw [(endAct_keeps _).2.2.2.2.1]
    have hsv : v.wand = s.wand := hv.only .wand (by simp)
    rw [← hsv]
    exact (he.only .wand (by simp)).trans hr.wand
  case head =>
    rw [(endAct_keeps _).2.2.2.2.2.2.1, hjt, ← hp1]
    split <;> rfl
  case tail =>
    rw [(endAct_keeps _).2.2.2.2.2.2.1, hjt, ← hp2]
    split <;> rfl
  case loss =>
    intro hq
    rw [(endAct_keeps _).2.2.2.2.2.2.1, hjt, if_pos (by rw [hready.systemQueue]; exact hq), ← hp3]
  case latch4 => rw [(endAct_keeps _).2.2.2.2.2.2.2.2.2.1, hb4, hc4]
  case latch5 => rw [(endAct_keeps _).2.2.2.2.2.2.2.2.2.1, hb5, hc5]
  case latch7 =>
    intro h7
    rw [(endAct_keeps _).2.2.2.2.2.2.2.2.2.1]
    exact hb7 (hc7 h7)

end

end Sys2Proof.Machine

/-! PROOFS. The reads of a start: the profile region and the status mirrors (R179, R180). -/

namespace Sys2Proof.Machine

section
variable {s v : State} {r : Restored}

/-- What a start that goes on to its list load leaves. -/
structure Loads (v : State) (r : Restored) (t : State) : Prop where
  only : OnlyChanges [.path, .engine, .calendar, .wand, .journal, .events] v t
  stage : t.path.stage = .listLoad
  path : (t.path.state, t.path.startReads) = (v.path.state, v.path.startReads)
  calendar : t.calendar = { v.calendar with load := some 0 }
  sweep : t.engine.sweep = { v.engine.sweep with lastSwept := min (field r.w17 0 16) 36524 }
  wand : t.wand = { v.wand with
    producer := r.w11.setWidth 16
    consumerCopy := if (r.w11.setWidth 16 - r.w1.setWidth 16 : BitVec 16).toNat ≤ 32 then word (field r.w1 0 16)
      else word (field r.w11 0 16) }
  head : t.journal.head = r.w12
  tail : t.journal.tail = if r.gap ≤ v.active.capacity then r.w13 else r.w12
  loss : t.journal.lossCount =
    if r.gap ≤ v.active.capacity then field r.w20 0 16 else min (field r.w20 0 16 + 1) 65535
  latch4 : t.events.latchB.getLsbD 4 = v.events.latchB.getLsbD 4
  latch5 : t.events.latchB.getLsbD 5 = v.events.latchB.getLsbD 5
  latch7 : v.active.capacity < r.gap → t.events.latchB.getLsbD 7 = true

theorem restore_loads (hcal : v.active.calendarWin.enable = true) : Loads v r (endAct (restore r v)) := by
  obtain ⟨m, hm⟩ : ∃ m, m = restored r v := ⟨_, rfl⟩
  have hr := restored_restores r v
  rw [← hm] at hr
  have hact : m.active = v.active := congrArg ProfileUnit.active (hr.only .profile (by simp))
  have hrestore : restore r v = beginLoad (m.setPath { m.path with stage := .listLoad }) := by
    rw [restore_eq, ← hm]
    exact if_pos (by rw [hact, hcal])
  have hmcal : m.calendar = v.calendar := hr.only .calendar (by simp)
  have hpath := hr.path
  simp only [Prod.mk.injEq] at hpath
  obtain ⟨hp1, -, -, hp4⟩ := hpath
  obtain ⟨hc4, hc5, hc7⟩ := restores_latchB hr
  obtain ⟨hj1, hj2, hj3, -⟩ := hr.pointers
  rw [hrestore]
  constructor
  case only =>
    intro b hb
    have hsame := hr.only b (by cases b <;> simp at hb ⊢)
    cases b <;> simp at hb <;> exact hsame
  case stage => rfl
  case path => rw [← hp1, ← hp4]; rfl
  case calendar => rw [← hmcal]; rfl
  case sweep =>
    show m.engine.sweep = _
    rw [hr.engine]
    rfl
  case wand => exact hr.wand
  case head => exact hj1
  case tail => exact hj2
  case loss => exact hj3
  case latch4 => exact hc4
  case latch5 => exact hc5
  case latch7 => exact hc7

/-! ### The profile put in force (R177, R179) -/

/-- A start takes up its restoring with the profile `p` in force, its default flag and what latch B gains. -/
def takenUp (s : State) (shadow : List Word) (p : Profile) (byDefault : Bool) (bits : BitVec 12) : State :=
  { s with
    path := { s.path with startReads := [] }
    upload := .freshWith p.upload
    profile := { s.profile with shadow := shadow, active := p, defaultInForce := byDefault }
    events := { s.events with latchB := s.events.latchB ||| bits } }

theorem takenUp_takesUp (s : State) (shadow : List Word) (p : Profile) (b : Bool) (bits : BitVec 12) :
    TakesUp s (takenUp s shadow p b bits) :=
  ⟨fun b hb => by cases b <;> simp at hb <;> rfl, rfl, rfl⟩

/-- A profile put in force raises PROFILE_CLAMPED when it was clamped, and no other bit of latch B. -/
theorem takenUp_bits (s : State) (ws : List Word) (p q : Profile) (b : Bool) :
    (takenUp s ws p b (if p = q then 0#12 else 32#12)).events.latchB.getLsbD 5 =
        (s.events.latchB.getLsbD 5 || decide (p ≠ q)) ∧
      (takenUp s ws p b (if p = q then 0#12 else 32#12)).events.latchB.getLsbD 4 = s.events.latchB.getLsbD 4 := by
  by_cases hc : p = q <;> simp [takenUp, hc]

/-- The reads of the profile region once they have all returned. -/
theorem profileReturned_eq {p : Profile} {b : Bool} {bits : BitVec 12} {ws reads : List Word}
    (h : putInForce ws (setStartReads [] (setStartReads reads (s.setProfile { s.profile with shadow := ws }))) =
      { takenUp s ws p b bits with upload := s.upload }) :
    profileReturned (setStartReads reads (s.setProfile { s.profile with shadow := ws })) =
      if p.statusWin.enable then (takenUp s ws p b bits).setPath { s.path with startReads := [], stage := .statusReads }
      else restore ⟨0#32, 0#32, 0#32, 0#32, 0#32, 0#32⟩ (takenUp s ws p b bits) := by
  have hws : (setStartReads reads (s.setProfile { s.profile with shadow := ws })).profile.shadow = ws := rfl
  simp only [profileReturned, hws, h]
  rfl

theorem putInForce_good {ws reads : List Word} (h : profileGood ws = true) :
    putInForce ws (setStartReads [] (setStartReads reads (s.setProfile { s.profile with shadow := ws }))) =
      { takenUp s ws (readProfile ws).clamp false
          (if (readProfile ws).clamp = readProfile ws then 0#12 else 32#12) with upload := s.upload } := by
  rw [putInForce, if_pos h]
  by_cases hc : (readProfile ws).clamp = readProfile ws
  · have hmade : (readProfile ws).clampsMade = false := by simp [Profile.clampsMade, hc]
    simp only [raiseClamped, hmade, if_pos hc, takenUp, BitVec.or_zero]
    rfl
  · have hmade : (readProfile ws).clampsMade = true := by simp [Profile.clampsMade, hc]
    simp only [raiseClamped, hmade, if_neg hc, if_true, raise_plain (e := .profileClamped) rfl]
    rfl

theorem putInForce_bad {ws reads : List Word} (h : profileGood ws = false) :
    putInForce ws (setStartReads [] (setStartReads reads (s.setProfile { s.profile with shadow := ws }))) =
      { takenUp s ws defaultProfile true 16#12 with upload := s.upload } := by
  rw [putInForce, if_neg (by simp [h]), raise_plain (e := .profileRejected) rfl]
  rfl

theorem exec_startProfileReadDone {a : Addr} (ha : a = BitVec.ofNat 22 s.path.startReads.length)
    (hs : s.path.stage = .profileReads) (hr : readServed s .startUp a = true) :
    exec .startProfileReadDone s = .next (endAct (profileRead (internalRead s a) s)) := by
  have hready : startReadReady s .profileReads = some a := by simp [startReadReady, nextStartAddr, hs, ← ha, hr]
  show execStartProfileReadDone s = _
  simp [execStartProfileReadDone, hready, done]

theorem exec_startStatusReadDone {a : Addr}
    (ha : a = s.active.statusAddr ([11, 1, 12, 13, 17, 20].getD s.path.startReads.length 20))
    (hs : s.path.stage = .statusReads) (hr : readServed s .startUp a = true) :
    exec .startStatusReadDone s = .next (endAct (statusRead (internalRead s a) s)) := by
  have hready : startReadReady s .statusReads = some a := by
    simp only [startReadReady, nextStartAddr, hs, restoredWords, ← ha, hr]
    simp
  show execStartStatusReadDone s = _
  simp [execStartStatusReadDone, hready, done]

end

/-- The words restored under a profile without a STATUS window. -/
def zerosRestored : Restored := ⟨0#32, 0#32, 0#32, 0#32, 0#32, 0#32⟩

theorem zerosRestored_gap (n : Nat) : zerosRestored.gap ≤ n := Nat.zero_le n

theorem profileRead_cases (w : Word) (s : State) :
    (s.path.startReads.length < 127 → profileRead w s = setStartReads (s.path.startReads ++ [w])
      (s.setProfile { s.profile with shadow := s.profile.shadow.set s.path.startReads.length w })) ∧
    (127 ≤ s.path.startReads.length → profileRead w s = profileReturned (setStartReads (s.path.startReads ++ [w])
      (s.setProfile { s.profile with shadow := s.profile.shadow.set s.path.startReads.length w }))) :=
  ⟨fun h => if_pos (by omega), fun h => if_neg (by omega)⟩

theorem statusRead_cases (w : Word) (s : State) :
    (s.path.startReads.length < 5 → statusRead w s = setStartReads (s.path.startReads ++ [w]) s) ∧
    (5 ≤ s.path.startReads.length →
      statusRead w s = restore (.of (s.path.startReads ++ [w])) (setStartReads [] s)) := by
  have hlen : (s.path.startReads ++ [w]).length = s.path.startReads.length + 1 := by simp
  have hwords : restoredWords.length = 6 := rfl
  exact ⟨fun h => if_pos (by omega), fun h => if_neg (by omega)⟩

/-- Settles O57. -/
theorem startRestores : Obligations.StartRestores := by
  intro s hs n swept completed
  refine ⟨fun a ha hst hr => ?_, fun a ha hst hr => ?_⟩
  · intro shadow good new uploads inForce zeroed
    obtain ⟨hnext, hlast⟩ := profileRead_cases (internalRead s a) s
    have hexec := exec_startProfileReadDone ha hst hr
    have hgood (h : good) : profileGood shadow = true := (profileGood_iff shadow).mpr h
    obtain ⟨v, hv⟩ : ∃ v, v = takenUp s shadow new false (if new = readProfile shadow then 0#12 else 32#12) := ⟨_, rfl⟩
    have htakes : TakesUp s v := by rw [hv]; exact takenUp_takesUp ..
    have hforce (h : good) (hn : 127 ≤ n) : profileRead (internalRead s a) s =
        if new.statusWin.enable then v.setPath { s.path with startReads := [], stage := .statusReads }
        else restore zerosRestored v := by
      rw [hlast hn, profileReturned_eq (putInForce_good (hgood h)), hv]
      rfl
    have hbits : v.events.latchB.getLsbD 5 = (s.events.latchB.getLsbD 5 || decide (new ≠ readProfile shadow)) ∧
        v.events.latchB.getLsbD 4 = s.events.latchB.getLsbD 4 := by
      rw [hv]
      exact takenUp_bits ..
    have hzero {t : State} (hw : (t.wand.producer, t.wand.consumerCopy) = (0#16, 0#32)) (hh : t.journal.head = 0#32)
        (ht : t.journal.tail = 0#32) (hl : s.journal.systemQueue.length < 4 → t.journal.lossCount = 0) : zeroed t := by
      simp only [Prod.mk.injEq] at hw
      exact ⟨by rw [hw.1, hw.2, hh, ht], hl⟩
    have hdone {p : Profile} {b : Bool} {bits : BitVec 12} {t : State}
        (hf : Finishes s (takenUp s shadow p b bits) zerosRestored t) : completed t [] 0 ∧ zeroed t := by
      have hgap := zerosRestored_gap (takenUp s shadow p b bits).active.capacity
      have hcomp := hf.completes
      rw [repairWords, if_pos hgap] at hcomp
      refine ⟨⟨hcomp, hf.lastSwept, hf.calendar, hf.store, hf.pins⟩, hzero (by rw [hf.wand]; rfl) hf.head
        (by rw [hf.tail, if_pos hgap]; rfl) fun hq => by rw [hf.loss hq, if_pos hgap]; rfl⟩
    refine ⟨fun h => ?_, fun h hg hw => ?_, fun h hg hw hc => ?_, fun h hg hw hc hp => ?_, fun h hg hp => ?_⟩
    · rw [hexec, hnext h]
      rfl
    · refine ⟨_, hexec, ?_⟩
      rw [hforce hg h, if_pos hw]
      refine ⟨fun b hb => ?_, rfl, hs, rfl, ⟨?_, ?_, hbits⟩, ?_⟩
      · rw [hv]
        cases b <;> simp at hb <;> rfl
      · rw [hv]; rfl
      · rw [hv]; rfl
      · rw [hv]; rfl
    · refine ⟨_, hexec, ?_⟩
      have hl : Loads v zerosRestored (endAct (restore zerosRestored v)) := restore_loads (by rw [hv]; exact hc)
      rw [hforce hg h, if_neg (by rw [hw]; simp)]
      have hpath := hl.path
      simp only [Prod.mk.injEq] at hpath
      obtain ⟨hp1, hp2⟩ := hpath
      have hgap := zerosRestored_gap v.active.capacity
      have hprof := hl.only .profile (by simp)
      have hupl := hl.only .upload (by simp)
      have hvs := htakes.only
      refine ⟨fun b hb => ?_, hl.stage, ?_, ?_, ?_, ⟨?_, ?_, ?_, ?_⟩, ?_, ?_⟩
      · have h1 := hl.only b (by cases b <;> simp at hb ⊢)
        have h2 := hvs b (by cases b <;> simp at hb ⊢)
        cases b <;> simp at hb <;> exact Eq.trans h1 h2
      · rw [hp1, hv]; exact hs
      · rw [hp2, hv]; rfl
      · rw [hl.calendar, hv]; rfl
      · exact hprof.trans (by rw [hv]; rfl)
      · have hact : (endAct (restore zerosRestored v)).active = v.active := congrArg ProfileUnit.active hprof
        simp only [uploads, hact, hupl.trans rfl]
        rw [hv]
        rfl
      · rw [hl.latch5, hbits.1]
      · rw [hl.latch4, hbits.2]
      · exact hzero (by rw [hl.wand]; rfl) hl.head (by rw [hl.tail, if_pos hgap]; rfl)
          fun _ => by rw [hl.loss, if_pos hgap]; rfl
      · rw [hl.sweep]; rfl
    · refine ⟨_, hexec, ?_⟩
      have hf : Finishes s v zerosRestored (endAct (restore zerosRestored v)) :=
        restore_finishes hs htakes (by rw [hv]; exact hp) (by rw [hv]; exact hc)
      rw [hforce hg h, if_neg (by rw [hw]; simp)]
      obtain ⟨h1, h2⟩ := hdone (hv ▸ hf)
      have hact : (endAct (restore zerosRestored v)).active = v.active := congrArg ProfileUnit.active hf.profile
      refine ⟨by rw [hv]; exact h1, ⟨?_, ?_, ?_, ?_⟩, by rw [hv]; exact h2⟩
      · rw [hf.profile, hv]; rfl
      · simp only [uploads, hact, hf.upload]
        rw [hv]
        rfl
      · rw [hf.latch5, hbits.1]
      · rw [hf.latch4, hbits.2]
    · refine ⟨_, hexec, ?_⟩
      have hbad : profileGood shadow = false := Bool.eq_false_iff.mpr fun hc => hg ((profileGood_iff shadow).mp hc)
      obtain ⟨u, hu⟩ : ∃ u, u = takenUp s shadow defaultProfile true 16#12 := ⟨_, rfl⟩
      have hf : Finishes s u zerosRestored (endAct (restore zerosRestored u)) :=
        restore_finishes hs (by rw [hu]; exact takenUp_takesUp ..) (by rw [hu]; exact hp) (by rw [hu]; rfl)
      have hread : profileRead (internalRead s a) s = restore zerosRestored u := by
        rw [hlast h, profileReturned_eq (putInForce_bad hbad), if_neg (by decide), hu]
        rfl
      rw [hread]
      obtain ⟨h1, h2⟩ := hdone (hu ▸ hf)
      have hact : (endAct (restore zerosRestored u)).active = u.active := congrArg ProfileUnit.active hf.profile
      refine ⟨by rw [hu]; exact h1, by rw [hu]; exact h2, ?_, ?_, ?_⟩
      · simp only [uploads, hact, hf.upload]
        rw [hu]
        rfl
      · rw [hf.profile, hu]; rfl
      · rw [hf.latch4, hu]
        simp [takenUp]
  · intro reads gap counted loss
    obtain ⟨hnext, hlast⟩ := statusRead_cases (internalRead s a) s
    have hexec := exec_startStatusReadDone ha hst hr
    obtain ⟨v, hv⟩ : ∃ v, v = setStartReads [] s := ⟨_, rfl⟩
    have htakes : TakesUp s v := by
      rw [hv]
      exact ⟨fun b hb => by cases b <;> simp at hb <;> rfl, rfl, rfl⟩
    have hact : v.active = s.active := by rw [hv]; rfl
    refine ⟨fun h => ?_, fun h hc => ?_, fun h hc hp => ?_⟩
    · rw [hexec, hnext h]
      rfl
    · refine ⟨_, hexec, ?_⟩
      have hl : Loads v (.of reads) (endAct (restore (.of reads) v)) := restore_loads (by rw [hact]; exact hc)
      rw [hlast h, ← hv]
      have hpath := hl.path
      simp only [Prod.mk.injEq] at hpath
      obtain ⟨hp1, hp2⟩ := hpath
      refine ⟨fun b hb => ?_, hl.stage, ?_, ?_, ?_, ⟨?_, hl.head, ?_, ?_⟩, ?_, ?_⟩
      · have h1 := hl.only b (by cases b <;> simp at hb ⊢)
        have h2 : b ≠ .path → SameBlock b s v := fun _ => by rw [hv]; cases b <;> simp at hb <;> rfl
        cases b <;> simp at hb <;> exact Eq.trans h1 (h2 (by simp))
      · rw [hp1, hv]; exact hs
      · rw [hp2, hv]; rfl
      · rw [hl.calendar, hv]; rfl
      · rw [hl.wand, hv]; rfl
      · rw [hl.tail, hact]; rfl
      · intro h7
        exact hl.latch7 (by rw [hact]; exact h7)
      · rw [hl.loss, hact]; rfl
      · rw [hl.sweep, hv]; rfl
    · refine ⟨_, hexec, ?_⟩
      rw [hlast h, ← hv]
      have hf : Finishes s v (.of reads) (endAct (restore (.of reads) v)) :=
        restore_finishes hs htakes (by rw [hact]; exact hp) (by rw [hact]; exact hc)
      generalize endAct (restore (.of reads) v) = t at hf ⊢
      have hwords (t : State) : repairWords (.of reads) v t =
          if gap ≤ s.active.capacity then [] else statusEntries s (stampMirror t.events 3) := by
        rw [hv]; rfl
      have hcomp := hf.completes
      rw [hwords] at hcomp
      refine ⟨⟨hcomp, hf.lastSwept, hf.calendar, hf.store, hf.pins⟩, ⟨hf.wand, hf.head, ?_, ?_⟩, ?_, fun hq => ?_⟩
      · rw [hf.tail, hact]; rfl
      · intro h7
        exact hf.latch7 (by rw [hact]; exact h7)
      · rw [hf.profile, hv]; rfl
      · rw [hf.loss hq, hact]; rfl

end Sys2Proof.Machine

/-! PROOFS. The end of an operation: its claims, the sweep record and the candidate that waits (R15, R82, R87). -/

namespace Sys2Proof.Machine

/-! ### The claims -/

section
variable (op : Op) (s : State)

/-- A busy set once the claims of the operation have ended. -/
def Op.freed (busy : List Claim) : List Claim :=
  let slotFreed := match op.kind.slot with
    | some i => busy.erase (.loan i)
    | none => busy
  match op.borrower with
  | some b => slotFreed.erase (.borrower b)
  | none => slotFreed

theorem releaseClaims_eq : releaseClaims op s = s.setEngine { s.engine with busy := op.freed s.engine.busy } := by
  unfold releaseClaims Op.freed
  cases op.kind.slot <;> cases op.borrower <;> rfl

variable {op}

theorem freed_of_slot {i : Nat} (h : op.kind.slot = some i) : op.freed s.engine.busy = busyWithout s i op.borrower := by
  unfold Op.freed busyWithout
  rw [h] <;> cases op.borrower <;> rfl

theorem freed_of_borrower {b : Nat} (h : op.kind.slot = none) (hb : op.borrower = some b) (busy : List Claim) :
    op.freed busy = busy.erase (.borrower b) := by
  unfold Op.freed
  rw [h, hb]

end

/-! ### The sweep record once a step has finished -/

/-- The sweep ends with the step that finishes now (R87). -/
def SweepEnds (s : State) : Prop := s.engine.sweep.state = .running ∧
  s.active.loanCount ≤ if s.engine.sweep.restarted then s.engine.sweep.cursor else s.engine.sweep.cursor + 1

section
variable {s u : State} {m : Nat}

theorem sweepAfterStep_ends (h : SweepEnds s) : sweepAfterStep s m =
    ({ s.engine.sweep with
        state := .idle
        cursor := if s.engine.sweep.restarted then s.engine.sweep.cursor else s.engine.sweep.cursor + 1
        marks := m
        recovery := false
        lastSwept := match s.engine.sweep.target with
          | some i => i.day
          | none => s.engine.sweep.lastSwept
        restarted := false },
      put 0 16 (match s.engine.sweep.target with
          | some i => i.day
          | none => s.engine.sweep.lastSwept) ||| put 16 15 m) := if_pos h

theorem sweepAfterStep_goesOn (h : ¬ SweepEnds s) : sweepAfterStep s m =
    ({ s.engine.sweep with
        cursor := if s.engine.sweep.restarted then s.engine.sweep.cursor else s.engine.sweep.cursor + 1
        marks := m
        restarted := false }, s.engine.sweepWord) := if_neg h

/-- The sweep ends exactly when the record returns to IDLE. -/
theorem sweepEnds_iff : SweepEnds s ↔ s.engine.sweep.state = .running ∧ (sweepAfterStep s m).1.state = .idle := by
  by_cases h : SweepEnds s
  · rw [sweepAfterStep_ends h]
    simp [h, h.1]
  · rw [sweepAfterStep_goesOn h]
    refine ⟨fun hc => absurd hc h, fun hc => ?_⟩
    have : s.engine.sweep.state = .idle := hc.2
    rw [hc.1] at this
    cases this

theorem wordsAfterStep_ends (h : SweepEnds s) : wordsAfterStep s m = [(17, (sweepAfterStep s m).2)] :=
  if_pos (sweepEnds_iff.mp h)

theorem wordsAfterStep_goesOn (h : ¬ SweepEnds s) : wordsAfterStep s m = [] := if_neg fun hc => h (sweepEnds_iff.mpr hc)

/-- What a step's end makes of the record depends on the record, its word and the slot count. -/
theorem sweepAfterStep_congr (he : u.engine.sweep = { s.engine.sweep with marks := u.engine.sweep.marks })
    (hw : u.engine.sweepWord = s.engine.sweepWord) (hp : u.profile = s.profile) :
    sweepAfterStep u m = sweepAfterStep s m ∧ wordsAfterStep u m = wordsAfterStep s m ∧ (SweepEnds u ↔ SweepEnds s) := by
  have ha : u.active = s.active := congrArg ProfileUnit.active hp
  have hs : SweepEnds u ↔ SweepEnds s := by
    unfold SweepEnds
    rw [he, ha]
  have hst : sweepAfterStep u m = sweepAfterStep s m := by
    by_cases h : SweepEnds s
    · rw [sweepAfterStep_ends h, sweepAfterStep_ends (hs.mpr h), he]
    · rw [sweepAfterStep_goesOn h, sweepAfterStep_goesOn (fun hc => h (hs.mp hc)), he, hw]
  refine ⟨hst, ?_, hs⟩
  by_cases h : SweepEnds s
  · rw [wordsAfterStep_ends h, wordsAfterStep_ends (hs.mpr h), hst]
  · rw [wordsAfterStep_goesOn h, wordsAfterStep_goesOn (fun hc => h (hs.mp hc))]

end

/-! ### The engine IDLE again -/

/-- The operation ended, before a waiting candidate is judged. -/
def finished (op : Op) (s : State) : State := stepEnds op.kind (releaseClaims op (setOp .idle none s))

theorem finishIdle_eq (op : Op) (s : State) : finishIdle op s = judgeCandidate (finished op s) := rfl

section
variable {op : Op} {s : State}

/-- The end of an entry's operation changes the engine alone. -/
theorem finished_entry {e : CrqEntry} (h : op.kind = .entry e) : finished op s =
    s.setEngine { s.engine with state := .idle, op := none, busy := op.freed s.engine.busy } := by
  simp only [finished, stepEnds, h, releaseClaims_eq]
  rfl

/-- The sweep record with its cursor advanced by a step. -/
def Sweep.advanced (sw : Sweep) : Sweep :=
  { sw with cursor := if sw.restarted then sw.cursor else sw.cursor + 1, restarted := false }

/-- The state of a step that has ended, before its sweep is judged. -/
def stepped (op : Op) (s : State) : State :=
  s.setEngine { s.engine with
    state := .idle, op := none, busy := op.freed s.engine.busy, sweep := s.engine.sweep.advanced }

theorem finished_step {i : Nat} {target : Option Instant} (h : op.kind = .sweepStep i target) :
    finished op s = endIfDone (stepped op s) := by
  simp only [finished, stepEnds, h, releaseClaims_eq]
  rfl

theorem finished_step_goesOn {i : Nat} {target : Option Instant} (h : op.kind = .sweepStep i target) (hn : ¬ SweepEnds s) :
    finished op s = s.setEngine { s.engine with
      state := .idle
      op := none
      busy := op.freed s.engine.busy
      sweep := (sweepAfterStep s s.engine.sweep.marks).1 } := by
  rw [finished_step h, sweepAfterStep_goesOn hn, endIfDone, if_neg]
  · rfl
  · intro hc
    simp only [Bool.and_eq_true, decide_eq_true_eq] at hc
    exact hn hc

theorem finished_step_ends {i : Nat} {target : Option Instant} (h : op.kind = .sweepStep i target) (he : SweepEnds s) :
    finished op s = sweepEnd (stepped op s) := by
  rw [finished_step h]
  exact endIfDone_of_le (s := stepped op s) he.1 he.2

/-- The words and the record of a sweep that ends. -/
theorem sweepEnd_eq (s : State) : sweepEnd s = raise .sweepDone 0 (produce .sweepEnd
    [(17, sweepWordOf { s.engine.sweep with
      state := .idle
      recovery := false
      lastSwept := match s.engine.sweep.target with
        | some t => t.day
        | none => s.engine.sweep.lastSwept })] false (s.setEngine { s.engine with
    sweep := { s.engine.sweep with
      state := .idle
      recovery := false
      lastSwept := match s.engine.sweep.target with
        | some t => t.day
        | none => s.engine.sweep.lastSwept }
    sweepWord := sweepWordOf { s.engine.sweep with
      state := .idle
      recovery := false
      lastSwept := match s.engine.sweep.target with
        | some t => t.day
        | none => s.engine.sweep.lastSwept } })) := rfl

/-- What the end of a step does (R82, R87). -/
structure StepEnded (op : Op) (i : Nat) (s t : State) : Prop where
  only : OnlyChanges [.path, .engine, .events] s t
  engine : t.engine = { s.engine with
    state := .idle
    op := none
    busy := busyWithout s i op.borrower
    sweep := (sweepAfterStep s s.engine.sweep.marks).1
    sweepWord := (sweepAfterStep s s.engine.sweep.marks).2 }
  latchA : t.events = { s.events with latchA := s.events.latchA |||
    (if s.engine.sweep.state = .running ∧ (sweepAfterStep s s.engine.sweep.marks).1.state = .idle then 16384#15 else 0#15) }
  reports : Reports s t (wordsAfterStep s s.engine.sweep.marks)

theorem finished_stepEnded {i : Nat} {target : Option Instant} (h : op.kind = .sweepStep i target) :
    StepEnded op i s (finished op s) := by
  have hslot : op.freed s.engine.busy = busyWithout s i op.borrower := freed_of_slot s (by rw [h]; rfl)
  by_cases he : SweepEnds s
  · rw [finished_step_ends h he]
    constructor
    case only =>
      intro b hb
      cases b <;> simp at hb <;> simp [SameBlock, stepped]
    case engine =>
      rw [sweepAfterStep_ends he, sweepEnd_eq, ← hslot]
      simp only [raise_keeps, produce_keeps]
      rfl
    case latchA =>
      rw [if_pos (sweepEnds_iff.mp he), sweepEnd_events]
      rfl
    case reports =>
      rw [wordsAfterStep_ends he, sweepAfterStep_ends he, sweepEnd_eq]
      refine (Reports.of_path (by rfl) (by rfl)).after (.keep (produce_reports ..) (raise_reports rfl ..))
  · rw [finished_step_goesOn h he]
    constructor
    case only =>
      intro b hb
      cases b <;> simp at hb <;> rfl
    case engine =>
      rw [← hslot, sweepAfterStep_goesOn he]
      rfl
    case latchA =>
      rw [if_neg fun hc => he (sweepEnds_iff.mpr hc)]
      simp
    case reports =>
      rw [wordsAfterStep_goesOn he]
      exact .of_path rfl rfl

/-! ### The candidate at the finish -/

@[simp] theorem sweepEnd_withoutCandidate : sweepEnd (withoutCandidate s) = withoutCandidate (sweepEnd s) := by
  simp [sweepEnd]

@[simp] theorem finished_withoutCandidate : finished op (withoutCandidate s) = withoutCandidate (finished op s) := by
  have hc (t : State) : endIfDone (withoutCandidate t) = withoutCandidate (endIfDone t) := by
    unfold endIfDone
    rw [sweepEnd_withoutCandidate, apply_ite withoutCandidate]
    rfl
  cases h : op.kind with
  | entry e => rw [finished_entry h, finished_entry h]; rfl
  | sweepStep i target => rw [finished_step h, finished_step h, ← hc]; rfl

/-- What a finish leaves of what a candidate waits for. -/
theorem finished_keeps : (finished op s).profile = s.profile ∧ (finished op s).visit = s.visit ∧
    (finished op s).engine.crq = s.engine.crq ∧ (finished op s).engine.op = none ∧
    (finished op s).path.state = s.path.state := by
  cases h : op.kind with
  | entry e => rw [finished_entry h]; exact ⟨rfl, rfl, rfl, rfl, rfl⟩
  | sweepStep i target =>
    obtain ⟨ho, he, -, hr⟩ := finished_stepEnded (s := s) h
    exact ⟨ho .profile (by simp), ho .visit (by simp), by rw [he], by rw [he], hr.posts.state⟩

theorem finished_candidate {s0 : State} (h : FinishAdoptsNothing s0) (hp : s.profile = s0.profile)
    (hv : s.visit.visit = none → s0.visit.visit = none) (he : s.engine.crq = s0.engine.crq)
    (hs : s.path.state = s0.path.state) : finishIdle op s = finished op s := by
  obtain ⟨k1, k2, k3, -, k5⟩ := finished_keeps (op := op) (s := s)
  rw [finishIdle_eq]
  refine judgeCandidate_idles ?_
  unfold AdoptsNothing
  rw [k1, k2, k3, k5, hp, he, hs]
  rcases h with h | h | h | h
  · exact .inl h
  · exact .inr (.inl fun hc => h (hv hc))
  · exact .inr (.inr (.inl h))
  · exact .inr (.inr (.inr (.inr h)))

theorem finished_judges (hv : s.visit.visit = none) (he : s.engine.crq = []) (hs : s.path.state = .running) :
    Judges (finished op s) := by
  obtain ⟨-, k2, k3, k4, k5⟩ := finished_keeps (op := op) (s := s)
  exact ⟨k5.trans hs, by rw [k2, hv], k3.trans he, k4⟩

end

end Sys2Proof.Machine

/-! PROOFS. The last fetch read of an operation (R13, R83, R87): payments, returns, patron evaluations and sweep steps. -/

namespace Sys2Proof.Machine

section
variable {s : State} {op : Op} {w : FetchWord} {d : Word}

theorem keep_borrower (op : Op) (w : FetchWord) (d : Word) : (op.keep w d).borrower = op.borrower := by cases w <;> rfl

/-- The last read of the words asked for, but for a w1, ends the fetch. -/
theorem fetchReturned_last (hw : w ≠ .slot 1) (ht : op.todo = [w]) :
    fetchReturned op w d s = afterFetch (op.keep w d) s := by
  have he : (op.keep w d).todo.isEmpty = true := by rw [keep_todo, ht]; rfl
  simp [fetchReturned, hw, he]

theorem exec_lastFetch (hst : s.engine.state = .fetch) (hop : s.engine.op = some op) (ht : op.todo = [w])
    (hw : w ≠ .slot 1) (hr : readServed s .engine (fetchAddr s op w) = true) : exec .fetchReadDone s =
      .next (endAct (afterFetch (op.keep w (internalRead s (fetchAddr s op w))) s)) := by
  rw [execFetchReadDone_served hst hop ht hr, fetchReturned_last hw ht]

theorem afterFetch_entry {e : CrqEntry} (h : op.kind = .entry e) : afterFetch op s = enterDecide op s := by
  simp [afterFetch, h]

/-- The operation with the reading it takes on entering DECIDE. -/
def Op.readAt (op : Op) (s : State) : Op := { op with reading := some s.reading }

/-- Checks that come to a decision complete it. -/
theorem enterDecide_decided {x : Decided} (h : judgeOp s op s.reading = .decided x) :
    endAct (enterDecide op s) = afterDecision s (op.readAt s) x := by
  have he : enterDecide op s = toCommit (op.readAt s) x s := by simp only [enterDecide, h]; rfl
  rw [he, endAct_toCommit]

/-- A question to the Calendar Unit is answered at once, or waits for the end of a list load (R57). -/
theorem enterDecide_asks (h : judgeOp s op s.reading = .ask) :
    (s.calendar.load = none →
      endAct (enterDecide op s) = afterDecision s (op.readAt s) (answered s op s.reading)) ∧
    (s.calendar.load ≠ none → endAct (enterDecide op s) = afterQuestion s (op.readAt s)) := by
  refine ⟨fun hl => ?_, fun hl => ?_⟩
  · have he : enterDecide op s = toCommit (op.readAt s) (answered s op s.reading) s := by
      simp only [enterDecide, h, hl]
      rfl
    rw [he, endAct_toCommit]
  · have he : enterDecide op s = setOp .decide (some (op.readAt s)) s := by
      obtain ⟨n, hn⟩ := Option.ne_none_iff_exists'.mp hl
      simp only [enterDecide, h, hn]
      rfl
    rw [he]
    rfl

theorem enterDecide_noChange (h : judgeOp s op s.reading = .noChange) : enterDecide op s = finishIdle op s := by
  simp only [enterDecide, h]

end

/-! ### Sweep and recovery steps -/

section
variable {s : State} {op : Op} {i : Nat} {target : Option Instant}

/-- A loan past due, by the cases of Table 5-5. -/
theorem pastDue_iff (st : StatusWord) (due : Instant) : pastDue st due target = true ↔ ∃ x, target = some x ∧
    st.state = .lent ∧ ((st.hourLoan = true ∧ due.before x = true) ∨ (st.hourLoan = false ∧ due.day < x.day)) := by
  cases target with
  | none => simp [pastDue]
  | some x => cases hh : st.hourLoan <;> simp [pastDue, hh]

theorem afterFetch_reads (h : op.kind = .sweepStep i target) (hp : pastDue op.status op.due target = true)
    (hw : ∀ p ∈ op.slotWords, p.1 ≠ 1) : afterFetch op s =
      setOp .fetch (some { op with todo := [.slot 1, .slot 2, .slot 3, .slot 4] }) s := by
  have hany : (op.slotWords.any fun p => p.1 = 1) = false := by simpa using hw
  simp [afterFetch, h, hp, hany]

theorem afterFetch_decides (h : op.kind = .sweepStep i target)
    (hp : pastDue op.status op.due target = true → ∃ p ∈ op.slotWords, p.1 = 1) : afterFetch op s = enterDecide op s := by
  simp only [afterFetch, h]
  by_cases hd : pastDue op.status op.due target = true
  · have hany : (op.slotWords.any fun p => p.1 = 1) = true := by simpa using hp hd
    rw [if_neg (by simp [hany])]
  · rw [if_neg (by simp [hd])]

theorem judgeOp_step (h : op.kind = .sweepStep i target) (r : Reading) :
    (pastDue op.status op.due target = true → judgeOp s op r = .decided (.plan (marked s.active op i r))) ∧
    (pastDue op.status op.due target = false → op.status.state = .inProgress → s.engine.sweep.recovery = true →
      judgeOp s op r = .decided (.plan (resolution op))) ∧
    (pastDue op.status op.due target = false → ¬ (op.status.state = .inProgress ∧ s.engine.sweep.recovery = true) →
      judgeOp s op r = .noChange) := by
  refine ⟨fun hp => ?_, fun hp hs hr => ?_, fun hp hn => ?_⟩
  · simp [judgeOp, h, stepOutcome, hp]
  · simp [judgeOp, h, stepOutcome, hp, hs, hr]
  · simp [judgeOp, h, stepOutcome, hp, hn]

end

/-- Settles O18. -/
theorem lastFetchReadDecides : Obligations.LastFetchReadDecides := by
  intro s op w hst hop ht hw hr op1 read rec_ c item
  have hexec : exec .fetchReadDone s = .next (endAct (afterFetch op1 s)) := exec_lastFetch hst hop ht hw hr
  have hkind : op1.kind = op.kind := keep_kind ..
  have hdecided {x : Decided} (hj : judgeOp s op1 s.reading = .decided x) {e : CrqEntry} (hk : op.kind = .entry e) :
      exec .fetchReadDone s = .next (afterDecision s read x) := by
    rw [hexec, afterFetch_entry (hkind.trans hk), enterDecide_decided hj]
    rfl
  refine ⟨fun b amount hk => ?_, fun i prior hk => ?_, fun b hk => ?_, fun i target hk => ?_⟩
  · refine ⟨hdecided (by simp only [judgeOp, hkind, hk]) hk, rfl⟩
  · have hk1 : op1.kind = .entry (.ret i prior) := hkind.trans hk
    have hask (hv : s.calendar.valid = true) : judgeOp s op1 s.reading = .ask := by
      simp only [judgeOp, hk1]
      exact if_pos hv
    intro fine
    refine ⟨fun hv => hdecided ?_ hk, fun hv hl => ?_, fun hv hl => ?_⟩
    · simp only [judgeOp, hk1]
      exact if_neg (by rw [State.reading, hv]; simp)
    · rw [hexec, afterFetch_entry hk1, (enterDecide_asks (hask hv)).1 hl, answered_ret hk1 hv]
      rfl
    · rw [hexec, afterFetch_entry hk1, (enterDecide_asks (hask hv)).2 hl]
      rfl
  · exact hdecided (by simp only [judgeOp, hkind, hk]; rfl) hk
  · have hk1 : op1.kind = .sweepStep i target := hkind.trans hk
    have hb1 : op1.borrower = op.borrower := keep_borrower ..
    intro past interrupted
    have hpast : past ↔ pastDue op1.status op1.due target = true := (pastDue_iff ..).symm
    have hnot (h : ¬ past) : pastDue op1.status op1.due target = false :=
      Bool.eq_false_iff.mpr fun hc => h (hpast.mpr hc)
    obtain ⟨hj1, hj2, hj3⟩ := judgeOp_step (s := s) hk1 s.reading
    have hstep (h : ¬ past) : afterFetch op1 s = enterDecide op1 s :=
      afterFetch_decides hk1 fun hc => absurd (hpast.mpr hc) h
    have hidle (hp : ¬ past) (hi : ¬ interrupted) : exec .fetchReadDone s = .next (endAct (finishIdle op1 s)) := by
      rw [hexec, hstep hp, enterDecide_noChange (hj3 (hnot hp) hi)]
    have hfree : op1.freed s.engine.busy = busyWithout s i op.borrower := by
      rw [freed_of_slot s (i := i) (by rw [hk1]; rfl), hb1]
    refine ⟨fun hp hn => ?_, fun hp hy => ?_, fun hp hi => ?_, fun hp hi ha hc => ?_, fun hp hi ha hrun hst' hend => ?_,
      fun ws hp hi hc hv hq hrun => ?_⟩
    · rw [hexec, afterFetch_reads hk1 (hpast.mp hp) hn, setOp, ← hst]
      rfl
    · rw [hexec, afterFetch_decides hk1 fun _ => hy, enterDecide_decided (hj1 (hpast.mp hp))]
      rfl
    · rw [hexec, hstep hp, enterDecide_decided (hj2 (hnot hp) hi.1 hi.2)]
      rfl
    · have hgo : ¬ SweepEnds s := by
        rintro ⟨-, hle⟩
        split at hle <;> omega
      rw [hidle hp hi, finished_candidate ha rfl id rfl rfl, finished_step_goesOn hk1 hgo, hfree]
      rfl
    · have hsw := finished_stepEnded (s := s) hk1
      have hends : SweepEnds s := by
        by_contra hgo
        rw [sweepAfterStep_goesOn hgo] at hend
        exact hgo ⟨hrun, hend⟩
      have hev := hsw.latchA
      rw [if_pos (sweepEnds_iff.mp hends)] at hev
      have hrep := hsw.reports.keep (endAct_reports _)
      refine ⟨endAct (finished op1 s), ?_, fun b hb => ?_, hrep.grows, ?_, ?_, hrep.posts.queues hst'⟩
      · rw [hidle hp hi, finished_candidate ha rfl id rfl rfl]
      · have := hsw.only b hb
        cases b <;> simp at hb <;> simpa [SameBlock] using this
      · rw [(endAct_keeps _).2.2.1, hsw.engine, hb1]
      · rw [(endAct_keeps _).2.2.2.2.2.2.2.2.2.1, hev]
    · have hk0 : judgeOp (withoutCandidate s) op1 (withoutCandidate s).reading = .noChange :=
        (judgeOp_step (s := withoutCandidate s) hk1 _).2.2 (hnot hp) hi
      refine judgedAfter_of_judgeCandidate (u := finished op1 s) (finished_judges hv hq hrun) (finished_keeps.1) hc
        (hidle hp hi) ?_
      have h0 : exec .fetchReadDone (withoutCandidate s) = .next (endAct (afterFetch op1 (withoutCandidate s))) :=
        exec_lastFetch (s := withoutCandidate s) hst hop ht hw hr
      rw [h0, afterFetch_decides hk1 fun hc' => absurd (hpast.mpr hc') hp, enterDecide_noChange hk0, finishIdle_eq,
        finished_withoutCandidate, judgeCandidate_none (.inl rfl)]

end Sys2Proof.Machine

/-! PROOFS. Loans and renewals decided by the checks of Table 1-8, in their order (R12, R13, R17, R19 to R22). -/

namespace Sys2Proof.Machine

/-! ### Checks in order -/

theorem firstFailing_fails {b : Bool} {n : Nat} {l : List (Bool × Nat)} (h : b = true) : firstFailing ((b, n) :: l) = some n := by
  simp [firstFailing, h]

theorem firstFailing_passes {b : Bool} {n : Nat} {l : List (Bool × Nat)} (h : b = false) :
    firstFailing ((b, n) :: l) = firstFailing l := by
  simp [firstFailing, h]

section
variable {s : State} {op : Op} {i n : Nat} {prior : LoanState} {r : Reading}

theorem judgeOp_loan (h : op.kind = .entry (.loan i)) :
    (loanRefusal s op r = some n → judgeOp s op r = .decided (.plan (loanRefused s.active op i r n))) ∧
      (loanRefusal s op r = none → judgeOp s op r = .ask) := by
  refine ⟨fun hr => ?_, fun hr => ?_⟩ <;> simp only [judgeOp, h, hr]

theorem judgeOp_renew (h : op.kind = .entry (.renew i prior)) :
    (renewRefusal s op prior r = some n → judgeOp s op r = .decided (.plan (renewRefused s.active op i prior r n))) ∧
      (renewRefusal s op prior r = none → judgeOp s op r = .ask) := by
  refine ⟨fun hr => ?_, fun hr => ?_⟩ <;> simp only [judgeOp, h, hr]

/-- The bits of a verdict on the words as fetched (Table 2-3). -/
theorem verdict_bits (p : Profile) (op : Op) (r : Reading) (hv : r.valid = true) :
    (op.verdict p r).expired = decide (op.record.expiry + (p.borrowerClass op.record.cls).cardGrace < r.day) ∧
      (op.verdict p r).manual = op.record.manualBlock ∧
      (op.verdict p r).fines = latchAfter (p.borrowerClass op.record.cls) op.record.fines op.record.latch ∧
      (op.verdict p r).overdue = decide ((p.borrowerClass op.record.cls).overdueLimit < op.record.overdueCount) ∧
      (op.verdict p r).limit = decide ((p.borrowerClass op.record.cls).loanLimit ≤ op.record.loansOut) := by
  refine ⟨?_, rfl, rfl, rfl, rfl⟩
  show (r.valid && _) = _
  rw [hv]
  exact Bool.true_and _

end

/-! ### Status words -/

/-- The status word of a refused LOAN holds the state and the reason alone (R20). -/
theorem refusedStatus_encode {n : Nat} (h : n < 32) : (refusedStatus n).encode = word (8 + 256 * n) := by
  have hall : ∀ n < 32, (refusedStatus n).encode = word (8 + 256 * n) := by decide
  exact hall n h

/-- The status word of a granted LOAN (R17). -/
theorem lentStatus_encode (hourLoan shortened nod : Bool) : (lentStatus hourLoan shortened nod).encode =
    put 0 4 5 ||| put 20 1 (flag hourLoan) ||| put 21 1 (flag shortened) ||| put 22 1 (flag nod) := by
  revert hourLoan shortened nod
  decide

/-- The events of a fine latch that ends clear (R32). -/
theorem latchEvents_cleared (c : BorrowerClass) (before : Bool) :
    latchEvents c before false = if before && c.reportBoth then [.fineBlockCleared] else [] := by
  cases before <;> simp [latchEvents]

section
variable {s : State} {op : Op} {i b : Nat} {r : Reading}

/-- What a LOAN of a borrower that passes every check commits. -/
theorem loanGranted_eq {p : Profile} {d : Instant} {nod short : Bool} (hb : op.borrower = some b)
    (he : ¬ op.record.expiry + (p.borrowerClass op.record.cls).cardGrace < r.day)
    (hm : op.record.manualBlock = false)
    (hf : ¬ latchAfter (p.borrowerClass op.record.cls) op.record.fines op.record.latch = true)
    (ho : ¬ (p.borrowerClass op.record.cls).overdueLimit < op.record.overdueCount) :
    loanGranted p op i r d nod short =
      { mapState := some .lent
        borrowerWords := [(3, countsWord (min (op.record.loansOut + 1) 255) op.record.overdueCount false
          ⟨false, false, false, false,
            decide ((p.borrowerClass op.record.cls).loanLimit ≤ min (op.record.loansOut + 1) 255)⟩), (6, put 0 16 r.day)]
        slotWords := [(5, instantWord r.instant false), (6, instantWord d false), (7, 0#32)]
        link := true
        status := some (put 0 4 5 ||| put 20 1 (flag (p.itemClass op.itemNo).hours) ||| put 21 1 (flag short) |||
          put 22 1 (flag nod))
        entry := some (op.slotEntry .loan i r (flag (p.itemClass op.itemNo).hours + 2 * flag short + 4 * flag nod)
          (instantWord d false))
        resolved := none
        events := .requestDone :: ((if op.record.latch && (p.borrowerClass op.record.cls).reportBoth then
          [.fineBlockCleared] else []) ++ (if 255 < op.record.loansOut + 1 then [.countClamped] else []))
        reason := none
        tone := some .lent
        slip := some ⟨i, d, (p.itemClass op.itemNo).hours, short, false, lastTen op.digits⟩ } := by
  have hl : op.firstLatch p = false := by simpa [Op.firstLatch, Op.cls] using hf
  have hw (n : Nat) (w : Word) : op.borrowerWord n w = [(n, w)] := by simp [Op.borrowerWord, hb]
  have hverdict : verdictOf (p.borrowerClass op.record.cls) op.record (min (op.record.loansOut + 1) 255)
      op.record.overdueCount false r = ⟨false, false, false, false,
        decide ((p.borrowerClass op.record.cls).loanLimit ≤ min (op.record.loansOut + 1) 255)⟩ := by
    simp [verdictOf, hm, he, ho]
  simp only [loanGranted, emptyPlan, hl, hw, Op.cls, hverdict, lentStatus_encode, latchEvents_cleared, clampEvent, Op.item]
  simp

end

/-- The checks of a LOAN with the clock valid, each against the words as fetched. -/
theorem loanRefusal_eq {s : State} {op : Op} {r : Reading} (hv : r.valid = true) : loanRefusal s op r = firstFailing
    [(op.borrower.isNone || !s.visiting op.index, 2), (!(s.active.itemClass op.itemNo).loanable, 4),
      ((s.active.itemClass op.itemNo).hours && !(s.active.borrowerClass op.record.cls).hourLoans, 12),
      (decide (op.record.expiry + (s.active.borrowerClass op.record.cls).cardGrace < r.day), 5),
      (op.record.manualBlock, 6),
      (latchAfter (s.active.borrowerClass op.record.cls) op.record.fines op.record.latch, 7),
      (decide ((s.active.borrowerClass op.record.cls).overdueLimit < op.record.overdueCount), 8),
      (decide ((s.active.borrowerClass op.record.cls).loanLimit ≤ op.record.loansOut), 9),
      (decide (s.freeEntries ≤ s.active.reserve), 10)] := by
  obtain ⟨h1, h2, h3, h4, h5⟩ := verdict_bits s.active op r hv
  unfold loanRefusal
  rw [firstFailing_passes (by rw [hv]; rfl), h1, h2, h3, h4, h5]
  rfl

/-- The checks of a RENEW with the clock valid. -/
theorem renewRefusal_eq {s : State} {op : Op} {prior : LoanState} {r : Reading} (hv : r.valid = true) :
    renewRefusal s op prior r = firstFailing
      [(op.borrower.isNone, 3), (decide (prior = .overdue), 14),
        (decide ((s.active.itemClass op.itemNo).renewalLimit ≤ op.status.renewals), 13),
        (decide (op.record.expiry + (s.active.borrowerClass op.record.cls).cardGrace < r.day), 5),
        (op.record.manualBlock, 6),
        (latchAfter (s.active.borrowerClass op.record.cls) op.record.fines op.record.latch, 7),
        (decide ((s.active.borrowerClass op.record.cls).overdueLimit < op.record.overdueCount), 8),
        (decide (s.freeEntries ≤ s.active.reserve), 10)] := by
  obtain ⟨h1, h2, h3, h4, -⟩ := verdict_bits s.active op r hv
  unfold renewRefusal
  rw [firstFailing_passes (by rw [hv]; rfl), h1, h2, h3, h4]
  rfl

/-- What a RENEW commits that keeps `due` with these flags (R19). -/
def renewPlan (op : Op) (i : Nat) (r : Reading) (due : Instant) (nod short : Bool) : Plan :=
  { mapState := some .lent
    borrowerWords := [(6, put 0 16 r.day)]
    slotWords := [(6, instantWord due false)]
    link := true
    status := some { op.status with
      state := .lent
      kind := 0
      reason := 0
      renewals := op.status.renewals + 1
      shortened := short
      noOpenDay := nod
      lastRefused := false }.encode
    entry := some (op.slotEntry .renew i r (2 * flag short + 4 * flag nod + 16 * (op.status.renewals + 1))
      (instantWord due false))
    resolved := none
    events := [.requestDone]
    reason := none
    tone := some .lent
    slip := some ⟨i, due, op.status.hourLoan, short, true, lastTen op.digits⟩ }

/-- A RENEW granted keeps the later of the computed and the old due instant (R19). -/
theorem renewGranted_eq {op : Op} {i b : Nat} {r : Reading} {d : Instant} {nod short : Bool} (hb : op.borrower = some b) :
    (op.due.before d = true → renewGranted op i r d nod short = renewPlan op i r d nod short) ∧
      (op.due.before d = false →
        renewGranted op i r d nod short = renewPlan op i r op.due op.status.noOpenDay op.status.shortened) := by
  have hw : op.borrowerWord 6 (put 0 16 r.day) = [(6, put 0 16 r.day)] := by simp [Op.borrowerWord, hb]
  refine ⟨fun h => ?_, fun h => ?_⟩ <;> simp only [renewGranted, h, hw] <;> rfl

/-- Settles O20. -/
theorem loanAndRenewDecided : Obligations.LoanAndRenewDecided := by
  intro s op i w hst hop ht hw hr op1 read item rec_ c expired latched overdue due entry refusal waits becomes
  have hexec : exec .fetchReadDone s = .next (endAct (afterFetch op1 s)) := exec_lastFetch hst hop ht hw hr
  have hkind : op1.kind = op.kind := keep_kind ..
  have hborrower : op1.borrower = op.borrower := keep_borrower ..
  have hdecided {x : Decided} (hj : judgeOp s op1 s.reading = .decided x) {e : CrqEntry} (hk : op.kind = .entry e) :
      becomes x := by
    show exec .fetchReadDone s = _
    rw [hexec, afterFetch_entry (hkind.trans hk), enterDecide_decided hj]
    rfl
  have hasks (hj : judgeOp s op1 s.reading = .ask) {e : CrqEntry} (hk : op.kind = .entry e) :
      (s.calendar.load ≠ none → waits) ∧ (s.calendar.load = none → becomes (answered s op1 s.reading)) := by
    obtain ⟨h1, h2⟩ := enterDecide_asks hj
    refine ⟨fun hl => ?_, fun hl => ?_⟩
    · show exec .fetchReadDone s = _
      rw [hexec, afterFetch_entry (hkind.trans hk), h2 hl]
      rfl
    · show exec .fetchReadDone s = _
      rw [hexec, afterFetch_entry (hkind.trans hk), h1 hl]
      rfl
  refine ⟨fun hk => ?_, fun prior hk => ?_⟩
  · intro refused visiting out granted
    have hk1 : op1.kind = .entry (.loan i) := hkind.trans hk
    have hplan {n : Nat} (hn : n < 32) : Decided.plan (loanRefused s.active op1 i s.reading n) =
        refusal .refused (word (8 + 256 * n)) n 0 (some .alarm) := by
      rw [← refusedStatus_encode hn]
      rfl
    have hrefused {n : Nat} (hn : n < 32) (h : loanRefusal s op1 s.reading = some n) : refused n := by
      have hd := hdecided ((judgeOp_loan hk1).1 h) hk
      rw [hplan hn] at hd
      exact hd
    have hbits : (op1.borrower.isNone || !s.visiting op1.index) = false ↔ visiting := by
      rw [Bool.or_eq_false_iff, hborrower, Bool.not_eq_false', visiting_iff]
      exact and_congr_left fun _ => by cases op.borrower <;> simp
    refine ⟨fun hv => hrefused (by decide) (firstFailing_fails (by rw [State.reading, hv]; rfl)), fun hv => ?_⟩
    have c2 := loanRefusal_eq (s := s) (op := op1) (r := s.reading) hv
    have hvisit (h : visiting) := c2.trans (firstFailing_passes (hbits.mpr h))
    refine ⟨fun hn => hrefused (by decide) (c2.trans (firstFailing_fails ?_)), fun hvis hn => ?_, fun hvis hl => ?_⟩
    · exact (Bool.eq_false_or_eq_true _).resolve_right fun h => hn (hbits.mp h)
    · exact hrefused (by decide) ((hvisit hvis).trans (firstFailing_fails (by rw [hn]; rfl)))
    have c12 := (hvisit hvis).trans (firstFailing_passes (by rw [hl]; rfl))
    refine ⟨fun hh hc => ?_, fun hh => ?_⟩
    · exact hrefused (by decide) (c12.trans (firstFailing_fails (by rw [hh, hc]; rfl)))
    have c5 := c12.trans (firstFailing_passes (by rcases hh with hh | hh <;> rw [hh] <;> simp))
    refine ⟨fun he => hrefused (by decide) (c5.trans (firstFailing_fails (decide_eq_true he))), fun he => ?_⟩
    have c6 := c5.trans (firstFailing_passes (decide_eq_false he))
    refine ⟨fun hm => hrefused (by decide) (c6.trans (firstFailing_fails hm)), fun hm => ?_⟩
    have c7 := c6.trans (firstFailing_passes hm)
    refine ⟨fun hf => hrefused (by decide) (c7.trans (firstFailing_fails hf)), fun hf => ?_⟩
    have c8 := c7.trans (firstFailing_passes (Bool.eq_false_iff.mpr hf))
    refine ⟨fun ho => hrefused (by decide) (c8.trans (firstFailing_fails (decide_eq_true ho))), fun ho => ?_⟩
    have c9 := c8.trans (firstFailing_passes (decide_eq_false ho))
    refine ⟨fun ht' => hrefused (by decide) (c9.trans (firstFailing_fails (decide_eq_true ht'))), fun ht' => ?_⟩
    have c10 := c9.trans (firstFailing_passes (decide_eq_false (Nat.not_le.mpr ht')))
    refine ⟨fun hj => hrefused (by decide) (c10.trans (firstFailing_fails (decide_eq_true hj))), fun hj => ?_⟩
    have cnone := c10.trans (firstFailing_passes (decide_eq_false (Nat.not_le.mpr hj)))
    obtain ⟨hwaits, hanswer⟩ := hasks ((judgeOp_loan (n := 0) hk1).2 cnone) hk
    obtain ⟨a1, a2, a3⟩ := loanAnswered_cases (s := s) (op := op1) (r := s.reading) i
    rw [answered_loan hk1] at hanswer
    refine ⟨hwaits, fun hload => ⟨fun hd => ?_, fun hd => ?_, fun d nod short hd b hb => ?_⟩⟩
    · have h := hanswer hload
      rw [a1 hd, hplan (by decide)] at h
      exact h
    · have h := hanswer hload
      rw [a2 hd, hplan (by decide)] at h
      exact h
    · have h := hanswer hload
      rw [a3 d nod short hd, loanGranted_eq (hborrower.trans hb) he hm hf ho] at h
      exact h
  · intro old refused granted
    have hk1 : op1.kind = .entry (.renew i prior) := hkind.trans hk
    have hrefused {n : Nat} (h : renewRefusal s op1 prior s.reading = some n) : refused n :=
      hdecided ((judgeOp_renew hk1).1 h) hk
    refine ⟨fun hv => hrefused (firstFailing_fails (by rw [State.reading, hv]; rfl)), fun hv => ?_⟩
    have c3 := renewRefusal_eq (s := s) (op := op1) (prior := prior) (r := s.reading) hv
    rw [hborrower] at c3
    refine ⟨fun hb => hrefused (c3.trans (firstFailing_fails (by rw [hb]; rfl))), fun hb => ?_⟩
    obtain ⟨b, hb⟩ := Option.ne_none_iff_exists'.mp hb
    have c14 := c3.trans (firstFailing_passes (by rw [hb]; rfl))
    refine ⟨fun hp => hrefused (c14.trans (firstFailing_fails (decide_eq_true hp))), fun hp => ?_⟩
    have c13 := c14.trans (firstFailing_passes (decide_eq_false hp))
    refine ⟨fun hl => hrefused (c13.trans (firstFailing_fails (decide_eq_true hl))), fun hl => ?_⟩
    have c5 := c13.trans (firstFailing_passes (decide_eq_false (Nat.not_le.mpr hl)))
    refine ⟨fun he => hrefused (c5.trans (firstFailing_fails (decide_eq_true he))), fun he => ?_⟩
    have c6 := c5.trans (firstFailing_passes (decide_eq_false he))
    refine ⟨fun hm => hrefused (c6.trans (firstFailing_fails hm)), fun hm => ?_⟩
    have c7 := c6.trans (firstFailing_passes hm)
    refine ⟨fun hf => hrefused (c7.trans (firstFailing_fails hf)), fun hf => ?_⟩
    have c8 := c7.trans (firstFailing_passes (Bool.eq_false_iff.mpr hf))
    refine ⟨fun ho => hrefused (c8.trans (firstFailing_fails (decide_eq_true ho))), fun ho => ?_⟩
    have c10 := c8.trans (firstFailing_passes (decide_eq_false ho))
    refine ⟨fun hj => hrefused (c10.trans (firstFailing_fails (decide_eq_true hj))), fun hj => ?_⟩
    have cnone := c10.trans (firstFailing_passes (decide_eq_false (Nat.not_le.mpr hj)))
    obtain ⟨hwaits, hanswer⟩ := hasks ((judgeOp_renew (n := 0) hk1).2 cnone) hk
    obtain ⟨a1, a2, a3⟩ := renewAnswered_cases (s := s) (op := op1) (r := s.reading) i prior
    rw [answered_renew hk1] at hanswer
    refine ⟨hwaits, fun hload => ⟨fun hd => ?_, fun hd => ?_, fun d nod short hd => ⟨fun hlater => ?_, fun hold => ?_⟩⟩⟩
    · have h := hanswer hload
      rw [a1 hd] at h
      exact h
    · have h := hanswer hload
      rw [a2 hd] at h
      exact h
    · have h := hanswer hload
      rw [a3 d nod short hd, (renewGranted_eq (hborrower.trans hb)).1 hlater] at h
      exact h
    · have h := hanswer hload
      rw [a3 d nod short hd, (renewGranted_eq (hborrower.trans hb)).2 hold] at h
      exact h

end Sys2Proof.Machine

/-! PROOFS. The commit of a decided operation (R14 to R16): the act, its events and its end. -/

namespace Sys2Proof.Machine

/-! ### Events of latch A -/

/-- The bits of latch A that events set. -/
def eventBits : List Event → BitVec 15
  | [] => 0#15
  | e :: es => (1#15 <<< e.place) ||| eventBits es

theorem eventBits_append (es fs : List Event) : eventBits (es ++ fs) = eventBits es ||| eventBits fs := by
  induction es with
  | nil => simp [eventBits]
  | cons e es ih => simp [eventBits, ih, BitVec.or_assoc]

/-- Events of latch A without stamps change that latch alone. -/
theorem raiseAll_eq {es : List Event} (h : ∀ e ∈ es, e.record = none ∧ e.place < 15) (s : State) :
    raiseAll es s = s.setEvents { s.events with latchA := s.events.latchA ||| eventBits es } := by
  induction es generalizing s with
  | nil =>
    simp only [raiseAll, eventBits, BitVec.or_zero]
    rfl
  | cons e es ih =>
    obtain ⟨hr, hp⟩ := h e (List.mem_cons_self ..)
    have hone : raise e 0 s = s.setEvents { s.events with latchA := s.events.latchA ||| (1#15 <<< e.place) } := by
      rw [raise_plain hr, EventUnit.latch, if_pos hp]
    have hrest : raiseAll (e :: es) s = raiseAll es (raise e 0 s) := rfl
    rw [hrest, hone, ih fun x hx => h x (List.mem_cons_of_mem _ hx)]
    simp only [eventBits, State.setEvents_events, ← BitVec.or_assoc]
    rfl

theorem eventBits_latchEvents (c : BorrowerClass) (before after : Bool) :
    eventBits (latchEvents c before after) = latchBits c before after := by
  cases before <;> cases after <;> cases hr : c.reportBoth <;> simp [latchEvents, latchBits, eventBits, Event.place, hr]

theorem eventBits_clampEvent (b : Bool) : eventBits (clampEvent b) = if b then 64#15 else 0#15 := by
  cases b <;> simp [clampEvent, eventBits, Event.place]

/-- The events of a fine latch and of the counts are of latch A, and have no stamp. -/
theorem plain_latchEvents {c : BorrowerClass} {before after : Bool} :
    ∀ e ∈ latchEvents c before after, e.record = none ∧ e.place < 15 := by
  intro e he
  unfold latchEvents at he
  split at he
  · simp only [List.mem_singleton] at he; subst he; decide
  · split at he
    · simp only [List.mem_singleton] at he; subst he; decide
    · cases he

theorem plain_clampEvent {b : Bool} : ∀ e ∈ clampEvent b, e.record = none ∧ e.place < 15 := by
  intro e he
  cases b
  · cases he
  · simp only [clampEvent, if_true, List.mem_singleton] at he; subst he; decide

theorem plain_suspectEvent {b : Option Nat} : ∀ e ∈ suspectEvent b, e.record = none ∧ e.place < 15 := by
  intro e he
  cases b
  · simp only [suspectEvent, Option.isNone_none, if_true, List.mem_singleton] at he; subst he; decide
  · cases he

/-! ### The act -/

section
variable {s : State} {op : Op} {d : Decided} {plan : Plan}

/-- A commit group at the front with 16 free queue entries is admitted. -/
theorem exec_commitAdmit (h : CommitAdmitted s op d) :
    exec .commitAdmit s = .next (endAct (settleVisit (commitOp op d s))) := by
  show execCommitAdmit s = _
  simp only [execCommitAdmit, commitReady_eq_some_iff.mpr h, done]

/-- Once no operation is in flight, an orderly stop discards the open visit. -/
theorem settleVisit_eq {u : State} (h : u.engine.op = none) : settleVisit u = u.setVisit (settledVisit u u.visit) := by
  unfold settleVisit settledVisit
  by_cases hs : u.path.state = .stopping
  · simp [hs, h, clearVisit]
  · simp only [hs, decide_false, Bool.false_and, Bool.false_eq_true, if_false]
    rfl

/-- The state a commit leaves when its finish adopts no candidate. -/
def committed (op : Op) (r : State) : State := endAct ((finished op r).setVisit (settledVisit r r.visit))

/-- A commit that ends as `r` and whose finish adopts no candidate. -/
theorem exec_commit {r : State} (h : CommitReady s op d) (hc : commitOp op d s = finishIdle op r)
    (hp : r.profile = s.profile) (hv : r.visit.visit = none → s.visit.visit = none) (he : r.engine.crq = s.engine.crq)
    (hs : r.path.state = s.path.state) : exec .commitAdmit s = .next (committed op r) := by
  obtain ⟨k1, k2, k3, k4, k5⟩ := finished_keeps (op := op) (s := r)
  rw [exec_commitAdmit h.1, hc, finished_candidate h.2 hp hv he hs, settleVisit_eq k4]
  simp only [settledVisit, k2, k5]
  rfl

/-- A plan placed and reported, before its operation ends. -/
def reported (op : Op) (plan : Plan) (q : State) : State :=
  countMark op plan (reportFinish plan (passGrant op plan (recordPlan op plan q)))

theorem commitPlan_eq : commitPlan op plan s =
    finishIdle op (reported op plan (placeGroup op plan (leaveWait .engineCommit s))) := rfl

/-- A plan without grant, reason or tone reports its events and records its slot's state. -/
theorem reported_quiet {q : State} (hs : plan.slip = none) (hr : plan.reason = none) (ht : plan.tone = none)
    (hk : op.kind.isStep = false) (he : ∀ e ∈ plan.events, e.record = none ∧ e.place < 15) : reported op plan q =
      (recordPlan op plan q).setEvents { q.events with latchA := q.events.latchA ||| eventBits plan.events } := by
  have hq : (recordPlan op plan q).events = q.events := by
    unfold recordPlan
    split <;> rfl
  unfold reported passGrant reportFinish
  rw [hs, hr, ht]
  unfold countMark
  rw [hk, ← hq]
  exact raiseAll_eq he _

theorem recordPlan_none {q : State} (h : plan.mapState = none) : recordPlan op plan q = q := by
  unfold recordPlan
  rw [h]

theorem recordPlan_some {q : State} {v : LoanState} {i : Nat} (h : plan.mapState = some v) (hi : op.kind.slot = some i) :
    recordPlan op plan q = q.setEngine { q.engine with stateMap := mapSet q.engine.stateMap i v } := by
  unfold recordPlan
  rw [h, hi]
  rfl

/-- What the end of an entry's commit leaves of `r`. -/
theorem committed_entry {e : CrqEntry} {r : State} (h : op.kind = .entry e) : committed op r = { r with
    engine := { r.engine with state := .idle, op := none, busy := op.freed r.engine.busy }
    visit := settledVisit r r.visit
    path := { r.path with fresh := 0 } } := by
  rw [committed, finished_entry h]
  rfl

/-! ### The entry -/

/-- A journal entry kept with the words `ws`, seen from a state whose queue ends with `es`. -/
theorem entryKept_of {t : State} {e : JEntry} {ws es : List QEntry}
    (hq : t.path.pwq = (appendKept e ws (leaveWait .engineCommit s)).path.pwq ++ es)
    (hj : t.journal = (appendKept e ws (leaveWait .engineCommit s)).journal)
    (hp : t.profile = s.profile)
    (hB : t.events.latchB = (appendKept e ws (leaveWait .engineCommit s)).events.latchB) : EntryKept s t e ws es := by
  have hfree : t.freeEntries = (appendKept e ws (leaveWait .engineCommit s)).freeEntries :=
    freeEntries_congr (by rw [hp]; simp [leaveWait]) (by rw [hj]) (by rw [hj])
  refine ⟨?_, ?_, ?_⟩
  · rw [hq, appendKept_path, entryPlaced]
    simp only [mirrors, statusEntries, mirrorWrite, ← List.append_assoc]
    rfl
  · rw [hj, hfree, appendKept_journal]
    rfl
  · rw [hB, hfree, appendKept_events]
    rfl

/-- The line of groups that the commit leaves when no other group waited. -/
theorem leaveWait_empty (h : CommitAdmitted s op d) (hl : s.path.waiting.length = 1) :
    (leaveWait .engineCommit s).path.waiting = [] := dropGroup_single h.2.2.2.1 hl

/-- The STATUS words that a commit posts once its group stands in the queue of `q`: with no other group waiting and room for
them they stand behind the group. -/
theorem posted_behind {q t : State} {ws : List (Nat × Word)} (hpost : Posts q t ws)
    (ha : q.active.statusWin = s.active.statusWin) (hs : q.path.state = s.path.state)
    (hw : s.path.waiting.length = 1 → q.path.waiting = [])
    (hroom : s.active.statusWin.enable = true → q.path.pwq.length + ws.length ≤ 24) :
    ∃ es, t.path.pwq = q.path.pwq ++ es ∧
      (s.path.state = .running → s.path.waiting.length = 1 → es = mirrors s ws) := by
  obtain ⟨es, hes⟩ := hpost.grown.exists
  refine ⟨es, hes, fun hr h1 => ?_⟩
  unfold mirrors
  cases he : s.active.statusWin.enable
  · have h2 := (hpost.disabled (by rw [ha, he])).1
    rw [hes] at h2
    rw [if_neg (by simp)]
    exact List.append_right_eq_self.mp h2
  · have h2 := (hpost.opened ⟨by rw [ha, he], .inr (hs.trans hr), hw h1, hroom he⟩).1
    rw [hes] at h2
    rw [if_pos rfl, List.append_cancel_left h2, statusEntries_congr ha]

/-- A journal entry lost with the words `ws`. -/
theorem entryLost_of {t : State} {ws : List QEntry} (h : CommitAdmitted s op d) (hlen : ws.length ≤ 8)
    (hq : t.path.pwq = (appendLost ws (leaveWait .engineCommit s)).path.pwq)
    (hj : t.journal = (appendLost ws (leaveWait .engineCommit s)).journal)
    (hB : t.events.latchB = (appendLost ws (leaveWait .engineCommit s)).events.latchB)
    (hst : t.events.stamps = (appendLost ws (leaveWait .engineCommit s)).events.stamps) : EntryLost s t ws := by
  obtain ⟨k, hk⟩ : ∃ k, k = leaveWait .engineCommit s := ⟨_, rfl⟩
  rw [← hk] at hq hj hB hst
  have hmirror : stampMirror t.events 3 = stampMirror (appendLost ws k).events 3 := by
    simp only [stampMirror, EventUnit.stamp, hst]
  have hdropped : (entryDropped ws k).path.pwq =
      s.path.pwq ++ ws ++ mirrors s [(20, word (min (s.journal.lossCount + 1) 65535))] := by
    rw [entryDropped, hk]
    simp only [mirrors, statusEntries, mirrorWrite, ← List.append_assoc]
    rfl
  obtain ⟨es, hes, hbehind⟩ := posted_behind (s := s) (appendLost_posts ws k) (by rw [hk]; rfl) (by rw [hk]; rfl)
    (fun h1 => by rw [entryDropped, hk, leaveWait_empty h h1]; rfl) fun hw => by
      have h8 := h.2.2.2.2
      have h2 : (stampMirror (appendLost ws k).events 3).length = 2 := rfl
      have h3 : (mirrors s [(20, word (min (s.journal.lossCount + 1) 65535))]).length = 1 := by
        simp [mirrors, hw, statusEntries]
      rw [h2, hdropped, List.length_append, List.length_append, h3]
      omega
  refine ⟨⟨es, by rw [hq, hes, hdropped], fun hr h1 => by rw [hbehind hr h1, hmirror]⟩, ?_, ?_, ?_⟩
  · rw [hj, appendLost_journal, hk]
    rfl
  · rw [hB, appendLost_events, hk]
    rfl
  · rw [hst, appendLost_events, hk]
    rfl

theorem leaveWait_grows (o : GroupOwner) (s : State) : PathGrows s (leaveWait o s) :=
  pathGrows_of_still (by simp [StorePath.still, leaveWait]) (by simp [Grown, leaveWait])

theorem appendKept_grows (e : JEntry) (ws : List QEntry) (s : State) : PathGrows s (appendKept e ws s) := by
  refine pathGrows_of_still (by simp [StorePath.still]) ?_
  rw [Grown, appendKept_path]
  exact List.prefix_append ..

theorem appendLost_grows (ws : List QEntry) (s : State) : PathGrows s (appendLost ws s) := by
  refine pathGrows_of_still (by simp [StorePath.still]) ?_
  exact (List.prefix_append ..).trans (appendLost_posts ws s).grown

/-- The group of a plan with an entry: kept with a free journal entry, and lost without one. -/
theorem placeGroup_entry {e : JEntry} (he : plan.entry = some e) :
    (0 < s.freeEntries → placeGroup op plan (leaveWait .engineCommit s) =
      appendKept e (groupWords s op plan true) (leaveWait .engineCommit s)) ∧
    (s.freeEntries = 0 → e.kind.counted = true → placeGroup op plan (leaveWait .engineCommit s) =
      appendLost (groupWords s op plan false) (leaveWait .engineCommit s)) ∧
    (s.freeEntries = 0 → e.kind.counted = false → placeGroup op plan (leaveWait .engineCommit s) =
      enqueue (groupWords s op plan false) (leaveWait .engineCommit s)) := by
  have hf : (leaveWait .engineCommit s).freeEntries = s.freeEntries := rfl
  have hg (b : Bool) : groupWords (leaveWait .engineCommit s) op plan b = groupWords s op plan b := rfl
  refine ⟨fun h => ?_, fun h hc => ?_, fun h hc => ?_⟩ <;> unfold placeGroup <;> rw [he] <;> simp only [hf, hg, h, if_true]
  · rw [if_neg (by simp), if_pos hc]
  · rw [if_neg (by simp), if_neg (by simp [hc])]

/-- What a quiet entry's commit does: a plan that raises events of latch A alone and passes no grant. -/
structure QuietCommit (op : Op) (plan : Plan) (e : JEntry) (s t : State) : Prop where
  only : OnlyChanges [.path, .engine, .visit, .journal, .events] s t
  grows : PathGrows s t
  visit : t.visit = settledVisit s s.visit
  engine : t.engine = { (recordPlan op plan s).engine with state := .idle, op := none, busy := op.freed s.engine.busy }
  latchA : t.events.latchA = s.events.latchA ||| eventBits plan.events
  sounder : t.events.sounder = s.events.sounder
  kept : 0 < s.freeEntries → EntryKept s t e (groupWords s op plan true) [] ∧ t.events.stamps = s.events.stamps
  lost : s.freeEntries = 0 → EntryLost s t (groupWords s op plan false)

theorem commit_quiet {c : CrqEntry} {e : JEntry} (h : CommitReady s op (.plan plan)) (hk : op.kind = .entry c)
    (he : plan.entry = some e) (hcount : e.kind.counted = true) (hs : plan.slip = none) (hr : plan.reason = none)
    (ht : plan.tone = none) (hev : ∀ x ∈ plan.events, x.record = none ∧ x.place < 15)
    (hlen : (groupWords s op plan false).length ≤ 8) :
    ∃ t, exec .commitAdmit s = .next t ∧ QuietCommit op plan e s t := by
  have hstep : op.kind.isStep = false := by rw [hk]; rfl
  obtain ⟨q, hq⟩ : ∃ q, q = placeGroup op plan (leaveWait .engineCommit s) := ⟨_, rfl⟩
  have hcommit : commitOp op (.plan plan) s = finishIdle op (reported op plan q) := by
    show commitDecided op plan s = _
    rw [commitDecided, hstep, hq, ← commitPlan_eq]
    rfl
  obtain ⟨hkept, hlost, -⟩ := placeGroup_entry (s := s) (op := op) he
  rw [← hq] at hkept hlost
  have hblocks : q.store = s.store ∧ q.pins = s.pins ∧ q.engine = s.engine ∧ q.calendar = s.calendar ∧ q.wand = s.wand ∧
      q.visit = s.visit ∧ q.upload = s.upload ∧ q.profile = s.profile ∧ q.pending = s.pending ∧
      q.events.latchA = s.events.latchA ∧ q.events.sounder = s.events.sounder ∧ PathGrows s q := by
    rcases Nat.eq_zero_or_pos s.freeEntries with hz | hp
    · rw [hlost hz hcount]
      refine ⟨?_, ?_, ?_, ?_, ?_, ?_, ?_, ?_, ?_, ?_, ?_, (leaveWait_grows ..).trans (appendLost_grows ..)⟩ <;>
        simp [leaveWait, appendLost_events]
    · rw [hkept hp]
      refine ⟨?_, ?_, ?_, ?_, ?_, ?_, ?_, ?_, ?_, ?_, ?_, (leaveWait_grows ..).trans (appendKept_grows ..)⟩ <;>
        simp [leaveWait, appendKept_events]
  obtain ⟨b1, b2, b3, b4, b5, b6, b7, b8, b9, b10, b11, hgrow⟩ := hblocks
  have hrec (u : State) : (recordPlan op plan u) = u.setEngine (recordPlan op plan u).engine ∧
      (u.engine = s.engine → (recordPlan op plan u).engine = (recordPlan op plan s).engine) := by
    unfold recordPlan
    split
    · exact ⟨rfl, fun hu => by simp only [recordState, State.setEngine_engine, hu]⟩
    · exact ⟨rfl, id⟩
  have hfin : reported op plan q = (q.setEngine (recordPlan op plan s).engine).setEvents
      { q.events with latchA := q.events.latchA ||| eventBits plan.events } := by
    rw [reported_quiet hs hr ht hstep hev, (hrec q).1, (hrec q).2 b3]
  have hcrq : (recordPlan op plan s).engine.crq = s.engine.crq ∧
      (recordPlan op plan s).engine.busy = s.engine.busy := by
    unfold recordPlan
    split <;> exact ⟨rfl, rfl⟩
  have hexec : exec .commitAdmit s = .next (committed op (reported op plan q)) := by
    refine exec_commit h hcommit ?_ ?_ ?_ ?_ <;> rw [hfin]
    · exact b8
    · exact fun hv => b6 ▸ hv
    · exact hcrq.1
    · exact hgrow.1.1
  refine ⟨_, hexec, ?_⟩
  rw [committed_entry hk, hfin]
  constructor
  case only =>
    intro b hb
    cases b <;> simp at hb <;> simp [SameBlock, b1, b2, b4, b5, b7, b8, b9]
  case grows => exact hgrow
  case visit =>
    have hst : q.path.state = s.path.state := hgrow.1.1
    simp only [settledVisit, State.setEvents_path, State.setEngine_path, State.setEvents_visit, State.setEngine_visit, b6, hst]
  case engine =>
    simp only [State.setEvents_engine, State.setEngine_engine, hcrq.2]
  case latchA => simp only [State.setEvents_events, b10]
  case sounder => simp only [State.setEvents_events, b11]
  case kept =>
    intro hp
    have hqk := hkept hp
    refine ⟨entryKept_of ?_ ?_ b8 ?_, ?_⟩
    · rw [List.append_nil, ← hqk]
      rfl
    · rw [← hqk]
      rfl
    · rw [← hqk]
      rfl
    · show q.events.stamps = _
      rw [hqk, appendKept_events]
      rfl
  case lost =>
    intro hz
    have hql := hlost hz hcount
    refine entryLost_of h.1 hlen ?_ ?_ ?_ ?_ <;> rw [← hql] <;> rfl

end

end Sys2Proof.Machine

/-! PROOFS. Commits of payments, returns and patron evaluations, and the candidate judged at the finish of a commit. -/

namespace Sys2Proof.Machine

/-! ### Commits without the candidate -/

section
variable {s : State} {op : Op} {plan : Plan}

@[simp] theorem raiseAll_withoutCandidate (es : List Event) (s : State) :
    raiseAll es (withoutCandidate s) = withoutCandidate (raiseAll es s) := by
  unfold raiseAll
  induction es generalizing s with
  | nil => rfl
  | cons e es ih => simpa using ih (raise e 0 s)

@[simp] theorem requestTone_withoutCandidate (p : Pattern) (s : State) :
    requestTone p (withoutCandidate s) = withoutCandidate (requestTone p s) := by
  unfold requestTone
  rw [apply_ite withoutCandidate]
  rfl

@[simp] theorem judgeLow_withoutCandidate (s : State) : judgeLow (withoutCandidate s) = withoutCandidate (judgeLow s) := by
  unfold judgeLow
  rw [apply_ite withoutCandidate, apply_ite withoutCandidate, ← raise_withoutCandidate]
  rfl

@[simp] theorem appendGrant_withoutCandidate (e : SlipEntry) (b : Nat) (s : State) :
    appendGrant e b (withoutCandidate s) = withoutCandidate (appendGrant e b s) := by
  unfold appendGrant
  cases hv : s.visit.visit with
  | none => simp [hv]
  | some v =>
    simp only [withoutCandidate_visit, hv, withoutCandidate_running, askSlipIfEnabled_withoutCandidate]
    cases s.running <;> simp [apply_ite withoutCandidate]

theorem placeGroup_withoutCandidate (s : State) :
    placeGroup op plan (withoutCandidate s) = withoutCandidate (placeGroup op plan s) := by
  have hk (e : JEntry) (ws : List QEntry) : appendKept e ws (withoutCandidate s) = withoutCandidate (appendKept e ws s) := by
    rw [appendKept_eq, appendKept_eq, ← judgeLow_withoutCandidate]
    rfl
  have hl (ws : List QEntry) : appendLost ws (withoutCandidate s) = withoutCandidate (appendLost ws s) := by
    rw [appendLost_eq, appendLost_eq, ← raise_withoutCandidate]
    rfl
  have hf : (withoutCandidate s).freeEntries = s.freeEntries := rfl
  have hg (b : Bool) : groupWords (withoutCandidate s) op plan b = groupWords s op plan b := rfl
  unfold placeGroup
  split <;> simp only [hk, hl, hf, hg, apply_ite withoutCandidate, enqueue_withoutCandidate]
  rfl

theorem reported_withoutCandidate (s : State) :
    reported op plan (withoutCandidate s) = withoutCandidate (reported op plan s) := by
  have hrec : recordPlan op plan (withoutCandidate s) = withoutCandidate (recordPlan op plan s) := by
    unfold recordPlan
    split <;> rfl
  have hpass (t : State) : passGrant op plan (withoutCandidate t) = withoutCandidate (passGrant op plan t) := by
    unfold passGrant
    split
    · exact appendGrant_withoutCandidate ..
    · rfl
  have hrep (t : State) : reportFinish plan (withoutCandidate t) = withoutCandidate (reportFinish plan t) := by
    unfold reportFinish requestToneIf raiseReason
    cases plan.tone <;> cases plan.reason <;> simp
  have hmark (t : State) : countMark op plan (withoutCandidate t) = withoutCandidate (countMark op plan t) := by
    unfold countMark
    rw [apply_ite withoutCandidate]
    rfl
  unfold reported
  rw [hrec, hpass, hrep, hmark]

/-- The act `f` ends with the judgement of the candidate in the state it leaves the engine IDLE in, and would end so without
one. -/
def EndsJudged (f : State → State) (s : State) : Prop :=
  ∃ u, f s = judgeCandidate u ∧ f (withoutCandidate s) = judgeCandidate (withoutCandidate u) ∧
    u.profile = s.profile ∧ (s.visit.visit = none → u.visit.visit = none) ∧ u.engine.crq = s.engine.crq ∧
    u.engine.op = none ∧ u.path.state = s.path.state

theorem endsJudged_finish {f : State → State} {r : State} (h : f s = finishIdle op r)
    (h0 : f (withoutCandidate s) = finishIdle op (withoutCandidate r)) (hp : r.profile = s.profile)
    (hv : s.visit.visit = none → r.visit.visit = none) (he : r.engine.crq = s.engine.crq)
    (hs : r.path.state = s.path.state) : EndsJudged f s := by
  obtain ⟨k1, k2, k3, k4, k5⟩ := finished_keeps (op := op) (s := r)
  refine ⟨finished op r, h, ?_, k1.trans hp, fun hn => ?_, k3.trans he, k4, k5.trans hs⟩
  · rw [h0, finishIdle_eq, finished_withoutCandidate]
  · rw [k2]
    exact hv hn

/-- What a plan placed and reported leaves of what a candidate waits for. -/
theorem reported_keeps (q : State) : (reported op plan q).profile = q.profile ∧
    (q.visit.visit = none → (reported op plan q).visit.visit = none) ∧
    (reported op plan q).engine.crq = q.engine.crq ∧ (reported op plan q).path.state = q.path.state := by
  have hmark (t : State) : (countMark op plan t).profile = t.profile ∧ (countMark op plan t).visit = t.visit ∧
      (countMark op plan t).engine.crq = t.engine.crq ∧ (countMark op plan t).path = t.path := by
    unfold countMark
    split <;> exact ⟨rfl, rfl, rfl, rfl⟩
  have hrec : (recordPlan op plan q).profile = q.profile ∧ (recordPlan op plan q).visit = q.visit ∧
      (recordPlan op plan q).engine.crq = q.engine.crq ∧ (recordPlan op plan q).path = q.path := by
    unfold recordPlan
    split <;> exact ⟨rfl, rfl, rfl, rfl⟩
  have hpass (t : State) : (passGrant op plan t).profile = t.profile ∧
      (t.visit.visit = none → (passGrant op plan t).visit.visit = none) ∧
      (passGrant op plan t).engine = t.engine ∧ (passGrant op plan t).path.state = t.path.state := by
    unfold passGrant
    split
    · refine ⟨by simp, fun hn => ?_, by simp, by simp⟩
      simp [appendGrant, hn]
    · exact ⟨rfl, id, rfl, rfl⟩
  have hrep (t : State) : (reportFinish plan t).profile = t.profile ∧ (reportFinish plan t).visit = t.visit ∧
      (reportFinish plan t).engine = t.engine ∧ (reportFinish plan t).path.state = t.path.state := by
    unfold reportFinish raiseReason
    cases plan.reason <;> simp
  obtain ⟨m1, m2, m3, m4⟩ := hmark (reportFinish plan (passGrant op plan (recordPlan op plan q)))
  obtain ⟨r1, r2, r3, r4⟩ := hrec
  obtain ⟨p1, p2, p3, p4⟩ := hpass (recordPlan op plan q)
  obtain ⟨f1, f2, f3, f4⟩ := hrep (passGrant op plan (recordPlan op plan q))
  refine ⟨m1.trans (f1.trans (p1.trans r1)), fun hn => ?_, ?_, ?_⟩
  · rw [reported, m2, f2]
    exact p2 (by rw [r2]; exact hn)
  · rw [reported, m3, f3, p3, r3]
  · rw [reported, m4, f4, p4, r4]

theorem placeGroup_keeps (s : State) : (placeGroup op plan s).profile = s.profile ∧
    (placeGroup op plan s).visit = s.visit ∧ (placeGroup op plan s).engine.crq = s.engine.crq ∧
    (placeGroup op plan s).path.state = s.path.state := by
  unfold placeGroup
  split
  · split
    · simp
    · split
      · simp
      · exact ⟨rfl, rfl, rfl, rfl⟩
  · exact ⟨rfl, rfl, rfl, rfl⟩
  · exact ⟨rfl, rfl, rfl, rfl⟩

theorem commitPlan_endsJudged (op : Op) (plan : Plan) (s : State) : EndsJudged (commitPlan op plan) s := by
  obtain ⟨q, hq⟩ : ∃ q, q = placeGroup op plan (leaveWait .engineCommit s) := ⟨_, rfl⟩
  obtain ⟨r1, r2, r3, r4⟩ := reported_keeps (op := op) (plan := plan) q
  obtain ⟨p1, p2, p3, p4⟩ := placeGroup_keeps (op := op) (plan := plan) (leaveWait .engineCommit s)
  rw [← hq] at p1 p2 p3 p4
  refine endsJudged_finish (op := op) (r := reported op plan q) (by rw [commitPlan_eq, hq]) ?_ (r1.trans p1)
    (fun hn => r2 (by rw [p2]; exact hn)) (r3.trans p3) (r4.trans p4)
  have hl : leaveWait .engineCommit (withoutCandidate s) = withoutCandidate (leaveWait .engineCommit s) := rfl
  rw [commitPlan_eq, hl, placeGroup_withoutCandidate, ← hq, reported_withoutCandidate]

/-- The state of a PATRON_OPEN committed, before its operation ends. -/
def patronReported (op : Op) (w3 : Word) (v : Verdict) (fines : Nat) (events : List Event) (s : State) : State :=
  let b := op.borrower.getD 65535
  let ws := patronWords b v fines
  let s1 := enqueue (patronGroup s op w3 (if s.visiting b then some ws else none)) (leaveWait .engineCommit s)
  let s2 := if s.visiting b then deliverVerdict v ws s1 else s1
  if s.service then raiseAll events s2 else s2

theorem commitPatron_eq (op : Op) (w3 : Word) (v : Verdict) (fines : Nat) (events : List Event) (s : State) :
    commitPatron op w3 v fines events s = finishIdle op (patronReported op w3 v fines events s) := rfl

theorem deliverVerdict_withoutCandidate (v : Verdict) (ws : Word × Word) (t : State) :
    deliverVerdict v ws (withoutCandidate t) = withoutCandidate (deliverVerdict v ws t) := by
  unfold deliverVerdict setStanding
  cases hv : t.visit.visit <;> cases v.any <;> simp [hv]

theorem deliverVerdict_candidate (v : Verdict) (ws : Word × Word) (t : State) :
    (deliverVerdict v ws t).profile = t.profile ∧
      (t.visit.visit = none → (deliverVerdict v ws t).visit.visit = none) ∧
      (deliverVerdict v ws t).engine = t.engine ∧ (deliverVerdict v ws t).path.state = t.path.state := by
  unfold deliverVerdict setStanding
  cases hv : t.visit.visit <;> cases v.any <;> simp [hv]

theorem patronReported_keeps (op : Op) (w3 : Word) (v : Verdict) (fines : Nat) (events : List Event) (s : State) :
    (patronReported op w3 v fines events s).profile = s.profile ∧
      (s.visit.visit = none → (patronReported op w3 v fines events s).visit.visit = none) ∧
      (patronReported op w3 v fines events s).engine = s.engine ∧
      (patronReported op w3 v fines events s).path.state = s.path.state := by
  have hraise (t : State) : (if s.service then raiseAll events t else t).profile = t.profile ∧
      (if s.service then raiseAll events t else t).visit = t.visit ∧
      (if s.service then raiseAll events t else t).engine = t.engine ∧
      (if s.service then raiseAll events t else t).path.state = t.path.state := by
    cases s.service <;> simp
  unfold patronReported
  by_cases hv : s.visiting (op.borrower.getD 65535) = true
  · simp only [hv, if_true]
    obtain ⟨h1, h2, h3, h4⟩ := hraise (deliverVerdict v (patronWords (op.borrower.getD 65535) v fines)
      (enqueue (patronGroup s op w3 (some (patronWords (op.borrower.getD 65535) v fines))) (leaveWait .engineCommit s)))
    obtain ⟨k1, k2, k3, k4⟩ := deliverVerdict_candidate v (patronWords (op.borrower.getD 65535) v fines)
      (enqueue (patronGroup s op w3 (some (patronWords (op.borrower.getD 65535) v fines))) (leaveWait .engineCommit s))
    exact ⟨h1.trans k1, fun hn => by rw [h2]; exact k2 hn, h3.trans k3, h4.trans k4⟩
  · simp only [hv, Bool.false_eq_true, if_false]
    obtain ⟨h1, h2, h3, h4⟩ := hraise (enqueue (patronGroup s op w3 none) (leaveWait .engineCommit s))
    exact ⟨h1, fun hn => by rw [h2]; exact hn, h3, h4⟩

theorem commitPatron_endsJudged (op : Op) (w3 : Word) (v : Verdict) (fines : Nat) (events : List Event) (s : State) :
    EndsJudged (commitPatron op w3 v fines events) s := by
  obtain ⟨k1, k2, k3, k4⟩ := patronReported_keeps op w3 v fines events s
  refine endsJudged_finish (op := op) (r := patronReported op w3 v fines events s) rfl ?_ k1 k2 (by rw [k3]) k4
  rw [commitPatron_eq]
  refine congrArg (finishIdle op) ?_
  have hvis (b : Nat) : (withoutCandidate s).visiting b = s.visiting b := rfl
  have hgroup (o : Option (Word × Word)) : patronGroup (withoutCandidate s) op w3 o = patronGroup s op w3 o := rfl
  have hl : leaveWait .engineCommit (withoutCandidate s) = withoutCandidate (leaveWait .engineCommit s) := rfl
  simp only [patronReported, hvis, hgroup, hl, enqueue_withoutCandidate, deliverVerdict_withoutCandidate,
    withoutCandidate_service]
  cases s.visiting (op.borrower.getD 65535) <;> cases s.service <;> simp

theorem pauseSweep_endsJudged (op : Op) (s : State) : EndsJudged (pauseSweep op) s :=
  ⟨releaseClaims op (setOp .idle none (setSweep { s.engine.sweep with state := .paused, restarted := false }
    (leaveWait .engineCommit s))), rfl, by simp only [pauseSweep, releaseClaims_eq]; rfl, by rw [releaseClaims_eq]; rfl,
    fun hn => by rw [releaseClaims_eq]; exact hn, by rw [releaseClaims_eq]; rfl, by rw [releaseClaims_eq]; rfl,
    by rw [releaseClaims_eq]; rfl⟩

theorem EndsJudged.congr {f g : State → State} (h : EndsJudged f s) (hs : g s = f s)
    (h0 : g (withoutCandidate s) = f (withoutCandidate s)) : EndsJudged g s := by
  unfold EndsJudged
  rw [hs, h0]
  exact h

theorem commitOp_endsJudged (op : Op) (d : Decided) (s : State) : EndsJudged (commitOp op d) s := by
  have hplan (p : Plan) := commitPlan_endsJudged op p s
  cases d with
  | grant plan =>
    by_cases hv : (op.kind.isLoan && !s.visiting op.index) = true
    · exact (hplan (refusedAtCommit s op reasonNoVisit)).congr (if_pos hv) (if_pos hv)
    · by_cases hf : s.freeEntries ≤ s.active.reserve
      · exact (hplan (refusedAtCommit s op reasonJournalFull)).congr ((if_neg hv).trans (if_pos hf))
          ((if_neg hv).trans (if_pos hf))
      · exact (hplan plan).congr ((if_neg hv).trans (if_neg hf)) ((if_neg hv).trans (if_neg hf))
  | plan plan =>
    by_cases hp : (op.kind.isStep && plan.entry.isSome && decide (s.freeEntries = 0)) = true
    · exact (pauseSweep_endsJudged op s).congr (if_pos hp) (if_pos hp)
    · exact (hplan plan).congr (if_neg hp) (if_neg hp)
  | patron w3 v fines events => exact commitPatron_endsJudged op w3 v fines events s

/-- A commit that may adopt judges the candidate at its end (R15, R174, R175). -/
theorem commit_judged {d : Decided} {ws : List Word} (h : CommitAdmitted s op d) (hc : s.profile.candidate = some ws)
    (hv : s.visit.visit = none) (hq : s.engine.crq = []) (hs : s.path.state = .running) :
    JudgedAfter PathGrows .commitAdmit s ws := by
  obtain ⟨u, hu, hu0, u1, u2, u3, u4, u5⟩ := commitOp_endsJudged op d s
  have hsettle (t : State) (ht : t.path.state = .running) : settleVisit t = t := by simp [settleVisit, ht]
  have hjudges : Judges u := ⟨u5.trans hs, u2 hv, u3.trans hq, u4⟩
  refine judgedAfter_of_judgeCandidate hjudges u1 hc ?_ ?_
  · rw [exec_commitAdmit h, hu, hsettle]
    rw [(judgeCandidate_grows u).1.1]
    exact hjudges.running
  · rw [exec_commitAdmit (s := withoutCandidate s) h, hu0, judgeCandidate_none (.inl rfl), hsettle]
    exact hjudges.running

end

/-! ### PATRON_OPEN -/

section
variable {s : State} {op : Op}

/-- A PATRON_OPEN whose visit stands, before the fine latch is reported (R41, R118). -/
theorem deliverVerdict_eq {t : State} {x : Visit} (v : Verdict) (ws : Word × Word) (hx : t.visit.visit = some x) :
    ∃ u, Posts t u (if visitWord { t.visit with visit := some { x with standing := if v.any then .blocked else .clear } } =
        visitWord t.visit then [] else
        [(23, visitWord { t.visit with visit := some { x with standing := if v.any then .blocked else .clear } })]) ∧
      PathGrows t u ∧ OnlyChanges [.path, .visit] t u ∧
      u.visit = { t.visit with
        visit := some { x with standing := if v.any then .blocked else .clear }, verdictWord := ws.1, finesWord := ws.2 } ∧
      deliverVerdict v ws t = if v.any then requestTone .alarm (raise .patronBlocked 0 u) else u := by
  obtain ⟨t1, ht1⟩ : ∃ t1, t1 = t.setVisit { t.visit with verdictWord := ws.1, finesWord := ws.2 } := ⟨_, rfl⟩
  have hx1 : t1.visit.visit = some x := by rw [ht1]; exact hx
  obtain ⟨t2, ht2⟩ : ∃ t2, t2 = t1.setVisit { t1.visit with
    visit := some { x with standing := if v.any then .blocked else .clear } } := ⟨_, rfl⟩
  have hset : setStanding (if v.any then .blocked else .clear) t1 = reportVisit t1 t2 := by
    simp only [setStanding, hx1, ht2]
  have hrep := (Reports.of_path (s := t) (t := t2) (by rw [ht2, ht1]; rfl) (by rw [ht2, ht1]; rfl)).after
    (reportVisit_reports t1 t2)
  refine ⟨reportVisit t1 t2, ?_, hrep.grows, fun b hb => ?_, ?_, ?_⟩
  · have := hrep.posts
    rw [ht2, ht1] at this ⊢
    exact this
  · cases b <;> simp at hb <;> simp [SameBlock, ht2, ht1]
  · simp [ht2, ht1]
  · unfold deliverVerdict
    rw [← ht1, hset]

/-- A tone requested leaves playing what R188 says. -/
theorem requestTone_sounds (p : Pattern) (s : State) :
    requestTone p s = s.setEvents { s.events with sounder := sounds s p } := by
  unfold requestTone sounds
  by_cases h : s.active.sounderEnable = true ∧ s.path.state = .running
  · rw [if_pos h, if_pos (by simp [h, State.running])]
  · rw [if_neg h, if_neg (by simpa [State.running] using h)]
    rfl

/-- The state of a PATRON_OPEN with its group in the queue. -/
def patronPlaced (op : Op) (w3 : Word) (ws : Option (Word × Word)) (s : State) : State :=
  enqueue (patronGroup s op w3 ws) (leaveWait .engineCommit s)

/-- The queue once the group of a PATRON_OPEN has entered it (Table 2-5). -/
theorem patronPlaced_pwq {b : Nat} (hb : op.borrower = some b) (w3 : Word) (s : State) :
    (patronPlaced op w3 none s).path.pwq =
        s.path.pwq ++ (if s.service then [⟨s.active.borrowerAddr b 3, w3⟩] else []) ∧
      ∀ x y, (patronPlaced op w3 (some (x, y)) s).path.pwq =
        s.path.pwq ++ (if s.service then [⟨s.active.borrowerAddr b 3, w3⟩] else []) ++ mirrors s [(10, x), (14, y)] := by
  have h3 : borrowerEntries s.active op [(3, w3)] = [⟨s.active.borrowerAddr b 3, w3⟩] := by simp [borrowerEntries, hb]
  refine ⟨?_, fun x y => ?_⟩
  · simp [patronPlaced, patronGroup, h3, leaveWait, enqueue]
  · cases hw : s.active.statusWin.enable <;>
      simp [patronPlaced, patronGroup, h3, leaveWait, enqueue, mirrors, mirrorWrite, hw, statusEntries]

section
variable {w3 : Word} {v : Verdict} {fines : Nat} {events : List Event} {b : Nat}

/-- A PATRON_OPEN whose visit has gone reports the fine latch alone. -/
theorem patronReported_gone (hb : op.borrower = some b) (hv : s.visiting b = false)
    (he : ∀ e ∈ events, e.record = none ∧ e.place < 15) : patronReported op w3 v fines events s =
      (patronPlaced op w3 none s).setEvents { s.events with
        latchA := s.events.latchA ||| if s.service then eventBits events else 0#15 } := by
  unfold patronReported
  simp only [hb, Option.getD_some, hv, Bool.false_eq_true, if_false]
  cases s.service
  · simp only [Bool.false_eq_true, if_false, BitVec.or_zero]
    rfl
  · simp only [if_true]
    exact raiseAll_eq he _

/-- A PATRON_OPEN whose visit stands gives it its standing; BLOCKED raises PATRON_BLOCKED and sounds ALARM. -/
theorem patronReported_stands {x : Visit} (hb : op.borrower = some b) (hx : s.visit.visit = some x) (hp : x.patron = b)
    (he : ∀ e ∈ events, e.record = none ∧ e.place < 15) :
    ∃ u, Posts (patronPlaced op w3 (some (patronWords b v fines)) s) u
        (if visitWord { s.visit with visit := some { x with standing := if v.any then .blocked else .clear } } =
          visitWord s.visit then [] else
          [(23, visitWord { s.visit with visit := some { x with standing := if v.any then .blocked else .clear } })]) ∧
      PathGrows (patronPlaced op w3 (some (patronWords b v fines)) s) u ∧ OnlyChanges [.path, .visit] s u ∧
      u.visit = { s.visit with
        visit := some { x with standing := if v.any then .blocked else .clear }
        verdictWord := (patronWords b v fines).1, finesWord := (patronWords b v fines).2 } ∧
      patronReported op w3 v fines events s = u.setEvents { s.events with
        latchA := s.events.latchA ||| (if s.service then eventBits events else 0#15) ||| (if v.any then 8#15 else 0#15)
        sounder := if v.any then sounds s .alarm else s.events.sounder } := by
  have hvis : s.visiting b = true := visiting_iff.mpr ⟨x, hx, hp⟩
  obtain ⟨u, hposts, hgrow, honly, huv, hdel⟩ := deliverVerdict_eq
    (t := patronPlaced op w3 (some (patronWords b v fines)) s) v (patronWords b v fines) hx
  refine ⟨u, hposts, hgrow, fun c hc => ?_, huv, ?_⟩
  · have := honly c hc
    cases c <;> simp at hc <;> exact this
  · have hue : u.events = s.events := honly .events (by simp)
    have hup : u.active = s.active := congrArg ProfileUnit.active (honly .profile (by simp))
    have hus : u.path.state = s.path.state := hgrow.1.1
    have hsound : sounds (raise .patronBlocked 0 u) .alarm = sounds s .alarm := by
      have ha : (raise .patronBlocked 0 u).active = s.active := by simpa [State.active] using hup
      have hev : (raise .patronBlocked 0 u).events.sounder = s.events.sounder := by
        rw [raise_plain (e := .patronBlocked) rfl, ← hue]
        rfl
      have hst : (raise .patronBlocked 0 u).path.state = s.path.state := by simpa using hus
      rw [sounds, sounds, ha, hev, hst]
    have hdeliver : deliverVerdict v (patronWords b v fines) (patronPlaced op w3 (some (patronWords b v fines)) s) =
        u.setEvents { s.events with
          latchA := s.events.latchA ||| (if v.any then 8#15 else 0#15)
          sounder := if v.any then sounds s .alarm else s.events.sounder } := by
      rw [hdel]
      cases v.any
      · simp only [Bool.false_eq_true, if_false, BitVec.or_zero, ← hue]
        rfl
      · simp only [if_true]
        rw [requestTone_sounds, hsound, raise_plain rfl, ← hue]
        rfl
    unfold patronReported
    simp only [hb, Option.getD_some, hvis, if_true]
    rw [show enqueue (patronGroup s op w3 (some (patronWords b v fines))) (leaveWait .engineCommit s) =
      patronPlaced op w3 (some (patronWords b v fines)) s from rfl, hdeliver]
    cases s.service
    · simp only [Bool.false_eq_true, if_false, BitVec.or_zero]
    · simp only [if_true]
      rw [raiseAll_eq he]
      simp only [State.setEvents_events]
      rw [BitVec.or_assoc, BitVec.or_comm (if v.any then 8#15 else 0#15), ← BitVec.or_assoc]
      rfl

end

end

end Sys2Proof.Machine

/-! PROOFS. The groups of a payment, a return and a patron evaluation (R18, R38, R41). -/

namespace Sys2Proof.Machine

/-- A report is at most one word. -/
theorem length_report_le (c : Prop) [Decidable c] (w : Nat × Word) : (if c then [] else [w]).length ≤ 1 := by
  split <;> simp

section
variable {s : State} {op : Op}

theorem plain_requestDone {es : List Event} (h : ∀ e ∈ es, e.record = none ∧ e.place < 15) :
    ∀ e ∈ Event.requestDone :: es, e.record = none ∧ e.place < 15 := by
  intro e he
  rcases List.mem_cons.mp he with rfl | he
  · decide
  · exact h e he

theorem plain_append {es fs : List Event} (h : ∀ e ∈ es, e.record = none ∧ e.place < 15)
    (k : ∀ e ∈ fs, e.record = none ∧ e.place < 15) : ∀ e ∈ es ++ fs, e.record = none ∧ e.place < 15 :=
  fun e he => (List.mem_append.mp he).elim (h e) (k e)

/-- The group of a PAYMENT is the borrower's w3 and w4 (R38). -/
theorem groupWords_paid {b amount : Nat} {r : Reading} (hb : op.borrower = some b) (kept : Bool) :
    groupWords s op (paid s.active op b amount r) kept =
      (paid s.active op b amount r).borrowerWords.map fun q => ⟨s.active.borrowerAddr b q.1, q.2⟩ := by
  simp [groupWords, borrowerEntries, slotEntries, paid, emptyPlan, linkWord, statusWordOf, hb]

/-- The group of an operation on a loan slot: the borrower's words, the slot's words, the journal link of an entry that is
kept, and the status word last (R16). -/
theorem groupWords_slot {plan : Plan} {i : Nat} (s : State) (h : op.kind.slot = some i) (kept : Bool) :
    groupWords s op plan kept =
      plan.borrowerWords.map (fun q => ⟨s.active.borrowerAddr (op.borrower.getD 0) q.1, q.2⟩) ++
        plan.slotWords.map (fun q => ⟨s.active.loanAddr i q.1, q.2⟩) ++
        (if plan.link && kept then [⟨s.active.loanAddr i 13, s.journal.head⟩] else []) ++
        plan.status.toList.map (fun w => ⟨s.active.loanAddr i 0, w⟩) := by
  simp only [groupWords, borrowerEntries, slotEntries, h, Option.getD_some, linkWord, statusWordOf, List.map_append,
    List.append_assoc]
  cases plan.status <;> cases plan.link && kept <;> rfl

/-- The events of a RETURN. -/
def returnEvents (c : BorrowerClass) (op : Op) (latch clamped : Bool) : List Event :=
  (if op.borrower.isSome then latchEvents c op.record.latch latch ++ clampEvent clamped else []) ++ suspectEvent op.borrower

theorem plain_returnEvents {c : BorrowerClass} {latch clamped : Bool} :
    ∀ e ∈ returnEvents c op latch clamped, e.record = none ∧ e.place < 15 := by
  unfold returnEvents
  refine plain_append ?_ plain_suspectEvent
  split
  · exact plain_append plain_latchEvents plain_clampEvent
  · exact fun _ h => absurd h List.not_mem_nil

/-- With a borrower a RETURN reports the latch and a clamp; without one, COUNT_SUSPECT. -/
theorem eventBits_returnEvents (c : BorrowerClass) (latch clamped : Bool) :
    (op.borrower ≠ none → eventBits (returnEvents c op latch clamped) =
      latchBits c op.record.latch latch ||| if clamped then 64#15 else 0#15) ∧
    (op.borrower = none → eventBits (returnEvents c op latch clamped) = 128#15) := by
  refine ⟨fun h => ?_, fun h => ?_⟩
  · obtain ⟨b, hb⟩ := Option.ne_none_iff_exists'.mp h
    simp [returnEvents, hb, suspectEvent, eventBits_append, eventBits_latchEvents, eventBits_clampEvent]
  · simp [returnEvents, h, suspectEvent, eventBits, Event.place]

theorem latchA_requestDone (a b : BitVec 15) (es : List Event) (h : eventBits es = b) :
    a ||| eventBits (.requestDone :: es) = a ||| 1#15 ||| b := by
  rw [eventBits, h, BitVec.or_assoc]
  rfl

end

/-- Settles O19. -/
theorem entriesCommit : Obligations.EntriesCommit := by
  refine ⟨fun s op d ws h hc hv hq hs => commit_judged h hc hv hq hs, ?_⟩
  intro s op d h rec_ c latch1 borrower
  refine ⟨fun b amount r hk hb hd => ?_, fun i prior r fine hk hd => ?_, fun b w3 verdict fines after hk hb hd => ?_⟩
  · intro applied latch words entry
    subst hd
    have hwords (kept : Bool) : groupWords s op (paid s.active op b amount r) kept = words := groupWords_paid hb kept
    obtain ⟨t, hexec, hq⟩ := commit_quiet (plan := paid s.active op b amount r) (e := entry) h hk rfl rfl rfl rfl rfl
      (plain_requestDone plain_latchEvents) (by rw [hwords]; simp [words])
    refine ⟨t, hexec, hq.only, hq.grows, hq.visit, ?_, ?_, hq.sounder, fun hp => ?_, fun hz => ?_⟩
    · rw [hq.engine, recordPlan_none rfl, freed_of_borrower (by rw [hk]; rfl) hb]
    · rw [hq.latchA]
      exact latchA_requestDone _ _ _ (eventBits_latchEvents ..)
    · rw [← hwords true]
      exact hq.kept hp
    · rw [← hwords false]
      exact hq.lost hz
  · intro out overdues fines latch clamped words entry
    subst hd
    have hslot : op.kind.slot = some i := by rw [hk]; rfl
    obtain ⟨plan, hplan⟩ : ∃ plan, plan = returned s.active op i prior r fine := ⟨_, rfl⟩
    have hwords (kept : Bool) : groupWords s op plan kept = words kept := by
      rw [hplan]
      cases hb : op.borrower <;> cases kept <;>
        simp [groupWords_slot s hslot, returned, emptyPlan, Op.borrowerWord, words, hb, borrower]
      all_goals exact ⟨rfl, rfl⟩
    have hevents : plan.events = .requestDone :: returnEvents c op latch (decide clamped) := by
      rw [hplan]
      simp only [returned, returnEvents, clamped, Bool.decide_or, Bool.decide_and, Config.maxFines, Bool.or_assoc]
      rfl
    have hentry : plan.entry = some entry := by
      rw [hplan]
      cases hv : r.valid <;> by_cases hp : prior = .overdue <;> simp [returned, Op.slotEntry, entry, hv, hp, flag]
    rw [← hplan] at h
    obtain ⟨t, hexec, hq⟩ := commit_quiet (plan := plan) (e := entry) h hk hentry rfl (by rw [hplan]; rfl)
      (by rw [hplan]; rfl) (by rw [hplan]; rfl) (by rw [hevents]; exact plain_requestDone plain_returnEvents)
      (by rw [hwords]; simp only [words]; cases op.borrower <;> simp)
    obtain ⟨hsome, hnone⟩ := eventBits_returnEvents (op := op) c latch (decide clamped)
    refine ⟨t, hexec, hq.only, hq.grows, hq.visit, ?_, fun hb => ?_, fun hb => ?_, hq.sounder, fun hp => ?_, fun hz => ?_⟩
    · rw [hq.engine, recordPlan_some (v := .returned) (by rw [hplan]; rfl) hslot, freed_of_slot s hslot]
      rfl
    · rw [hq.latchA, hevents, latchA_requestDone _ _ _ (hsome hb), ← BitVec.or_assoc]
      exact congrArg (_ ||| ·) (if_congr decide_eq_true_iff rfl rfl)
    · rw [hq.latchA, hevents, latchA_requestDone _ _ _ (hnone hb)]
    · rw [← hwords true]
      exact hq.kept hp
    · rw [← hwords false]
      exact hq.lost hz
  · intro w10 latched w3s
    subst hd
    have hev := plain_latchEvents (c := c) (before := rec_.latch) (after := after)
    have hbits : (if s.service then eventBits (latchEvents c rec_.latch after) else 0#15) = latched := by
      rw [eventBits_latchEvents]
    have hcommit : commitOp op (.patron w3 verdict fines (latchEvents c rec_.latch after)) s =
        finishIdle op (patronReported op w3 verdict fines (latchEvents c rec_.latch after) s) := rfl
    obtain ⟨k1, k2, k3, k4⟩ := patronReported_keeps op w3 verdict fines (latchEvents c rec_.latch after) s
    have hfreed (busy : List Claim) : op.freed busy = busy.erase (.borrower b) := freed_of_borrower (by rw [hk]; rfl) hb busy
    have hleave : PathGrows s (leaveWait .engineCommit s) := leaveWait_grows ..
    have hplaced (ws : Option (Word × Word)) : PathGrows s (patronPlaced op w3 ws s) :=
      hleave.trans (pathGrows_of_still rfl (enqueue_grown ..))
    by_cases hvis : s.visiting b = true
    · obtain ⟨x, hx, hxb⟩ := visiting_iff.mp hvis
      obtain ⟨u, hposts, hgrow, honly, huv, hrep⟩ := patronReported_stands (w3 := w3) (v := verdict) (fines := fines) hb hx hxb
        hev
      rw [hbits] at hrep
      rw [hrep] at hcommit k1 k3 k4
      have hexec := exec_commit h hcommit k1 (fun hn => by
        rw [State.setEvents_visit, huv] at hn; cases hn) (by rw [k3]) k4
      have hue : u.engine = s.engine := honly .engine (by simp)
      rw [committed_entry hk] at hexec
      refine ⟨_, hexec, fun c hc => ?_, (hplaced _).trans hgrow, ?_, rfl, rfl, fun v hv hvb => ?_, fun hno => ?_⟩
      · have := honly c (by cases c <;> simp at hc ⊢)
        cases c <;> simp at hc <;> exact this
      · simp only [State.setEvents_engine, hue, hfreed]
      · obtain rfl : x = v := Option.some.inj (hx.symm.trans hv)
        have hus : u.path.state = s.path.state := k4
        obtain ⟨es, hes, hbehind⟩ := posted_behind (s := s) hposts rfl rfl
          (fun h1 => leaveWait_empty h.1 h1) fun hw => by
            have h8 := h.1.2.2.2.2
            have hplaced_length : (patronPlaced op w3 (some (patronWords b verdict fines)) s).path.pwq.length ≤ 11 := by
              rw [(patronPlaced_pwq hb w3 s).2]
              cases s.service <;> simp [mirrors, hw, statusEntries] <;> omega
            exact Nat.le_trans (Nat.add_le_add hplaced_length (length_report_le ..)) (by decide)
        refine ⟨?_, ⟨es, ?_, fun hr h1 => ?_⟩, rfl, rfl⟩
        · simp only [State.setEvents_visit, State.setEvents_path, huv, settledVisit, hus]
          rfl
        · rw [← (patronPlaced_pwq hb w3 s).2]
          exact hes
        · rw [hbehind hr h1]
          simp only [visitReport, State.setEvents_visit, State.setEvents_path, huv, settledVisit, hus, hr]
          rfl
      · exact absurd hxb (hno x hx)
    · have hgone := patronReported_gone (w3 := w3) (v := verdict) (fines := fines) hb (Bool.eq_false_iff.mpr hvis) hev
      rw [hbits] at hgone
      rw [hgone] at hcommit k1 k3 k4
      have hexec := exec_commit h hcommit k1 id (by rw [k3]) k4
      rw [committed_entry hk] at hexec
      refine ⟨_, hexec, fun c hc => ?_, hplaced none, ?_, rfl, rfl, fun v hv hvb => ?_, fun _ => ⟨?_, ?_, rfl, rfl⟩⟩
      · cases c <;> simp at hc <;> rfl
      · simp only [State.setEvents_engine, hfreed]
        rfl
      · exact absurd (visiting_iff.mpr ⟨v, hv, hvb⟩) hvis
      · rfl
      · exact (patronPlaced_pwq hb w3 s).1

end Sys2Proof.Machine

/-! PROOFS. A grant judged again at its commit (R14, R20, R21): the refusals. -/

namespace Sys2Proof.Machine

/-! ### Groups in the queue -/

/-- `q` is `s` with its commit group in the queue and no event but JOURNAL_LOW raised. -/
structure Placed (s q : State) : Prop where
  only : OnlyChanges [.path, .journal, .events] s q
  grows : PathGrows s q
  events : q.events = { s.events with latchB := q.events.latchB }
  waiting : (leaveWait .engineCommit s).path.waiting = [] → q.path.waiting = []

section
variable {s q : State} {op : Op}

theorem appendKept_placed (e : JEntry) (ws : List QEntry) (s : State) :
    Placed s (appendKept e ws (leaveWait .engineCommit s)) where
  only b hb := by cases b <;> simp at hb <;> simp [SameBlock, leaveWait]
  grows := (leaveWait_grows ..).trans (appendKept_grows ..)
  events := by rw [appendKept_events]; rfl
  waiting h := by
    rw [appendKept_path]
    simp only [entryPlaced, h, List.map_nil]

theorem enqueue_placed (ws : List QEntry) (s : State) : Placed s (enqueue ws (leaveWait .engineCommit s)) where
  only b hb := by cases b <;> simp at hb <;> rfl
  grows := (leaveWait_grows ..).trans (pathGrows_of_still rfl (enqueue_grown ..))
  events := rfl
  waiting := id

theorem length_mirrorWrite_le (s : State) (n : Nat) (w : Word) : (mirrorWrite s n w).length ≤ 1 := by
  unfold mirrorWrite
  split <;> simp

/-- A kept entry's group holds at most nine words besides those between its entry and its mirror. -/
theorem length_appendKept_le (e : JEntry) (ws : List QEntry) (s : State) :
    (appendKept e ws (leaveWait .engineCommit s)).path.pwq.length ≤ s.path.pwq.length + ws.length + 9 := by
  have hm := length_mirrorWrite_le (leaveWait .engineCommit s) 12 (s.journal.head + 1#32)
  have he : (entryAtHead (leaveWait .engineCommit s) e).length ≤ 8 := by simp [entryAtHead]
  rw [appendKept_path]
  simp only [entryPlaced, List.length_append]
  have hp : (leaveWait .engineCommit s).path.pwq = s.path.pwq := rfl
  have hj : (leaveWait .engineCommit s).journal = s.journal := rfl
  rw [hp, hj]
  omega

/-! ### Refusals -/

/-- What a refusal commits: the status word alone, with a REFUSAL entry when refusals are journalled (R20, R21). -/
def refusalPlan (p : Profile) (op : Op) (i : Nat) (r : Reading) (st : LoanState) (w0 : Word) (reason flags : Nat)
    (tone : Option Pattern) : Plan :=
  { mapState := some st
    borrowerWords := []
    slotWords := []
    link := false
    status := some w0
    entry := if p.journalRefusals then some (op.slotEntry .refusal i r (reason + flags) 0#32) else none
    resolved := none
    events := [.requestDone]
    reason := some reason
    tone := tone
    slip := none }

theorem loanRefused_eq (p : Profile) (op : Op) (i : Nat) (r : Reading) {reason : Nat} (h : reason < 32) :
    loanRefused p op i r reason = refusalPlan p op i r .refused (word (8 + 256 * reason)) reason 0 (some .alarm) := by
  rw [← refusedStatus_encode h]
  rfl

theorem renewRefused_eq (p : Profile) (op : Op) (i : Nat) (st : LoanState) (r : Reading) (reason : Nat) :
    renewRefused p op i st r reason = refusalPlan p op i r st
      { op.status with state := st, kind := 0, reason := reason, lastRefused := true }.encode reason 256 none := rfl

theorem raise_refusal_events (d : Nat) (s : State) : (raise .refusal d s).events = { s.events with
    latchA := s.events.latchA ||| 2#15
    stamps := s.events.stamps.set 0 ((s.events.stamp 0).note s.active.stampLast s.reading d) } := by
  simp [raise, Event.record, stampEvent, EventUnit.latch, Event.place, EventUnit.stamp, State.reading, State.active]

variable {i : Nat} {st : LoanState} {w0 : Word} {reason flags : Nat} {tone : Option Pattern} {d : Reading}

/-- A refusal reported: the slot's state, REQUEST_DONE, REFUSAL with its reason, and the tone. -/
theorem reported_refusal (hs : op.kind.slot = some i) (hk : op.kind.isStep = false) (p : Profile) (q : State) :
    reported op (refusalPlan p op i d st w0 reason flags tone) q = requestToneIf tone (raise .refusal reason
      ((q.setEngine { q.engine with stateMap := mapSet q.engine.stateMap i st }).setEvents
        { q.events with latchA := q.events.latchA ||| 1#15 })) := by
  have hrec := recordPlan_some (plan := refusalPlan p op i d st w0 reason flags tone) (op := op) (q := q) rfl hs
  have hdone (t : State) : raiseAll [.requestDone] t = t.setEvents { t.events with latchA := t.events.latchA ||| 1#15 } := by
    rw [raiseAll_eq (by simp [Event.record, Event.place])]
    simp [eventBits, Event.place]
  unfold reported countMark
  rw [hk, hrec]
  show requestToneIf tone (raise .refusal reason (raiseAll [.requestDone] _)) = _
  rw [hdone]
  rfl

/-- The group of a plan without an entry. -/
theorem placeGroup_status {plan : Plan} (he : plan.entry = none) (hr : plan.resolved = none) :
    placeGroup op plan s = enqueue (groupWords s op plan false) s := by
  simp only [placeGroup, he, hr]

/-- The queue once the group of a refusal has entered it. -/
theorem placeGroup_refusal (hs : op.kind.slot = some i) :
    ((s.active.journalRefusals = false ∨ s.freeEntries = 0) →
      placeGroup op (refusalPlan s.active op i d st w0 reason flags tone) (leaveWait .engineCommit s) =
        enqueue [⟨s.active.loanAddr i 0, w0⟩] (leaveWait .engineCommit s)) ∧
    (s.active.journalRefusals = true → 0 < s.freeEntries →
      placeGroup op (refusalPlan s.active op i d st w0 reason flags tone) (leaveWait .engineCommit s) =
        appendKept (op.slotEntry .refusal i d (reason + flags) 0#32) [⟨s.active.loanAddr i 0, w0⟩]
          (leaveWait .engineCommit s)) := by
  have hwords (b : Bool) : groupWords s op (refusalPlan s.active op i d st w0 reason flags tone) b =
      [⟨s.active.loanAddr i 0, w0⟩] := by
    rw [groupWords_slot s hs]
    simp [refusalPlan]
  have hleave (b : Bool) : groupWords (leaveWait .engineCommit s) op
      (refusalPlan s.active op i d st w0 reason flags tone) b = [⟨s.active.loanAddr i 0, w0⟩] := hwords b
  refine ⟨fun h => ?_, fun hj hf => ?_⟩
  · cases hj : s.active.journalRefusals
    · have he : (refusalPlan s.active op i d st w0 reason flags tone).entry = none := by simp [refusalPlan, hj]
      rw [placeGroup_status he rfl, hleave]
    · have hf := h.resolve_left (by simp [hj])
      rw [(placeGroup_entry (e := op.slotEntry .refusal i d (reason + flags) 0#32)
        (by simp [refusalPlan, hj])).2.2 hf rfl, hwords]
  · rw [(placeGroup_entry (e := op.slotEntry .refusal i d (reason + flags) 0#32) (by simp [refusalPlan, hj])).1 hf, hwords]

/-- What the commit of a refusal does (R14, R20, R21). -/
theorem commit_refusal {x : Decided} {c : CrqEntry} (h : CommitReady s op x) (hk : op.kind = .entry c)
    (hs : op.kind.slot = some i)
    (hc : commitOp op x s = commitPlan op (refusalPlan s.active op i d st w0 reason flags tone) s)
    (ht : tone = none ∨ tone = some .alarm) :
    ∃ t es, exec .commitAdmit s = .next t ∧ OnlyChanges [.path, .engine, .visit, .journal, .events] s t ∧ PathGrows s t ∧
      (s.active.journalRefusals = false ∨ s.freeEntries = 0 →
        t.path.pwq = s.path.pwq ++ [⟨s.active.loanAddr i 0, w0⟩] ++ es ∧ t.journal = s.journal ∧
          t.events.latchB = s.events.latchB) ∧
      (s.active.journalRefusals = true → 0 < s.freeEntries →
        EntryKept s t (op.slotEntry .refusal i d (reason + flags) 0#32) [⟨s.active.loanAddr i 0, w0⟩] es) ∧
      (s.path.state = .running → s.path.waiting.length = 1 → es = mirrors s (stampMirror t.events 0)) ∧
      t.visit = settledVisit s s.visit ∧
      t.events.latchA = s.events.latchA ||| 1#15 ||| 2#15 ∧
      t.events.stamps = s.events.stamps.set 0 ((s.events.stamp 0).note s.active.stampLast s.reading reason) ∧
      t.events.sounder = (if tone = none then s.events.sounder else sounds s .alarm) ∧
      t.engine = { s.engine with
        state := .idle, op := none, stateMap := mapSet s.engine.stateMap i st, busy := busyWithout s i op.borrower } := by
  obtain ⟨q, hq⟩ : ∃ q, q = placeGroup op (refusalPlan s.active op i d st w0 reason flags tone)
    (leaveWait .engineCommit s) := ⟨_, rfl⟩
  obtain ⟨hplain, hkept⟩ := placeGroup_refusal (s := s) (op := op) (d := d) (st := st) (w0 := w0) (reason := reason)
    (flags := flags) (tone := tone) hs
  rw [← hq] at hplain hkept
  have hcases : (s.active.journalRefusals = false ∨ s.freeEntries = 0) ∨
      (s.active.journalRefusals = true ∧ 0 < s.freeEntries) := by
    cases s.active.journalRefusals <;> simp <;> omega
  have hp : Placed s q := by
    rcases hcases with hc | ⟨h1, h2⟩
    · rw [hplain hc]; exact enqueue_placed ..
    · rw [hkept h1 h2]; exact appendKept_placed ..
  have hlen : q.path.pwq.length ≤ 18 := by
    have h8 := h.1.2.2.2.2
    rcases hcases with hc | ⟨h1, h2⟩
    · rw [hplain hc]
      simp only [enqueue, leaveWait, State.setPath_path, List.length_append, List.length_singleton]
      omega
    · rw [hkept h1 h2]
      refine Nat.le_trans (length_appendKept_le ..) ?_
      rw [List.length_singleton]
      omega
  have hstep : op.kind.isStep = false := by rw [hk]; rfl
  have hqe : q.engine = s.engine := hp.only .engine (by simp)
  have hqp : q.profile = s.profile := hp.only .profile (by simp)
  have hqv : q.visit = s.visit := hp.only .visit (by simp)
  obtain ⟨u, hu⟩ : ∃ u, u = (q.setEngine { q.engine with stateMap := mapSet q.engine.stateMap i st }).setEvents
    { q.events with latchA := q.events.latchA ||| 1#15 } := ⟨_, rfl⟩
  obtain ⟨v, hv⟩ : ∃ v, v = raise .refusal reason u := ⟨_, rfl⟩
  have hcommit : commitOp op x s = finishIdle op (requestToneIf tone v) := by
    rw [hc, commitPlan_eq, ← hq, reported_refusal hs hstep, hv, hu]
  have hvev : v.events = { s.events with
      latchA := s.events.latchA ||| 1#15 ||| 2#15
      latchB := q.events.latchB
      stamps := s.events.stamps.set 0 ((s.events.stamp 0).note s.active.stampLast s.reading reason) } := by
    have hcal : q.calendar = s.calendar := hp.only .calendar (by simp)
    have hue : u.events = { s.events with latchA := s.events.latchA ||| 1#15, latchB := q.events.latchB } := by
      rw [hu, hp.events]
      rfl
    have hread : u.reading = s.reading := by rw [hu]; simp only [State.reading, State.setEvents_calendar, State.setEngine_calendar, hcal]
    have hact : u.active = s.active := by rw [hu]; exact congrArg ProfileUnit.active hqp
    rw [hv, raise_refusal_events, hue, hread, hact]
    rfl
  have htone : requestToneIf tone v = v.setEvents { v.events with
      sounder := if tone = none then s.events.sounder else sounds s .alarm } := by
    rcases ht with rfl | rfl
    · have hs0 : v.events.sounder = s.events.sounder := by rw [hvev]
      show v = _
      rw [if_pos rfl, ← hs0]
      rfl
    · have hs0 : sounds v .alarm = sounds s .alarm := by
        have hact : v.active = s.active := by rw [hv, hu]; simpa [State.active] using congrArg ProfileUnit.active hqp
        have hst : v.path.state = s.path.state := by
          rw [hv, hu]
          simpa using hp.grows.1.1
        rw [sounds, sounds, hact, hst, hvev]
      show requestTone .alarm v = _
      rw [requestTone_sounds, hs0, if_neg (by simp)]
  have huv : OnlyChanges [.path, .events] u v := fun b hb => by
    rw [hv]
    cases b <;> simp at hb <;> simp [SameBlock]
  have hgrow : PathGrows u v := by rw [hv]; exact raise_grows ..
  have hup : u.path = q.path := by rw [hu]; rfl
  have hve : v.engine = { s.engine with stateMap := mapSet s.engine.stateMap i st } := by
    have := huv .engine (by simp)
    rw [this, hu, State.setEvents_engine, State.setEngine_engine, hqe]
  have hvv : v.visit = s.visit := by
    have := huv .visit (by simp)
    rw [this, hu]
    exact hqv
  have hvp : v.profile = s.profile := by
    have := huv .profile (by simp)
    rw [this, hu]
    exact hqp
  have hvs : v.path.state = s.path.state := hgrow.1.1.trans (by rw [hup]; exact hp.grows.1.1)
  have hvj : v.journal = q.journal := by
    have := huv .journal (by simp)
    rw [this, hu]
    rfl
  have hexec := exec_commit h hcommit (by rw [htone]; exact hvp) (by rw [htone]; exact fun hn => hvv ▸ hn)
    (by rw [htone, State.setEvents_engine, hve]) (by rw [htone]; exact hvs)
  rw [htone, committed_entry hk] at hexec
  have hposts : Posts q v (stampMirror v.events 0) := by
    have hqu : Posts q u [] := by rw [hu]; exact .of_path rfl rfl rfl rfl
    rw [hv]
    exact hqu.after (raise_posts_stamp rfl)
  obtain ⟨es, hes, hbehind⟩ := posted_behind (s := s) hposts (by rw [State.active, hqp]; rfl) hp.grows.1.1
    (fun h1 => hp.waiting (leaveWait_empty h.1 h1)) fun _ => by
      have h2 : (stampMirror v.events 0).length = 2 := rfl
      omega
  refine ⟨_, es, hexec, fun b hb => ?_, hp.grows.trans ((PathGrows.of_path hup).trans hgrow), fun hcond => ⟨?_, ?_, ?_⟩,
    fun hj hf => entryKept_of ?_ ?_ hvp ?_, fun hr h1 => hbehind hr h1, ?_, ?_, ?_, rfl, ?_⟩
  · have h1 := hp.only b (by cases b <;> simp at hb ⊢)
    have h2 := huv b (by cases b <;> simp at hb ⊢)
    rw [hu] at h2
    cases b <;> simp at hb <;> exact Eq.trans h2 h1
  · have hqw := hplain hcond
    have : v.path.pwq = s.path.pwq ++ [⟨s.active.loanAddr i 0, w0⟩] ++ es := by
      rw [hes, hqw]
      rfl
    exact this
  · show v.journal = _
    rw [hvj, hplain hcond]
    rfl
  · show v.events.latchB = _
    rw [hvev, hplain hcond]
    rfl
  · rw [← hkept hj hf]
    exact hes
  · rw [← hkept hj hf]
    exact hvj
  · rw [← hkept hj hf]
    show v.events.latchB = _
    rw [hvev]
  · simp only [State.setEvents_visit, State.setEvents_path, settledVisit, hvv, hvs]
  · show v.events.latchA = _
    rw [hvev]
  · show v.events.stamps = _
    rw [hvev]
  · rw [State.setEvents_engine, hve, ← freed_of_slot s hs]

end

/-- Settles O22. -/
theorem grantRejudgedAtCommit : Obligations.GrantRejudgedAtCommit := by
  intro s op i p reason st w0 flags sounder h hcase entry
  rcases hcase with ⟨hk, hvals, hwhy⟩ | ⟨hk, hfull, rfl, hvals, rfl⟩
  · simp only [Prod.mk.injEq] at hvals
    obtain ⟨rfl, rfl, rfl, rfl⟩ := hvals
    have hloan : op.kind.isLoan = true := by rw [hk]; rfl
    have hreason : reason < 32 := by rcases hwhy with ⟨-, rfl⟩ | ⟨-, -, rfl⟩ <;> decide
    have hplan : refusedAtCommit s op reason = refusalPlan s.active op i (op.reading.getD s.reading) .refused
        (word (8 + 256 * reason)) reason 0 (some .alarm) := by
      rw [← loanRefused_eq _ _ _ _ hreason]
      simp [refusedAtCommit, hk, OpKind.slot]
    have hc : commitOp op (.grant p) s = commitPlan op (refusedAtCommit s op reason) s := by
      rcases hwhy with ⟨hv, rfl⟩ | ⟨hv, hf, rfl⟩
      · exact if_pos (by rw [hloan, hv]; rfl)
      · exact (if_neg (by rw [hloan, hv]; simp)).trans (if_pos hf)
    rw [hplan] at hc
    exact commit_refusal h hk (by rw [hk]; rfl) hc (.inr rfl)
  · simp only [Prod.mk.injEq] at hvals
    obtain ⟨rfl, rfl⟩ := hvals
    have hplan : refusedAtCommit s op 10 = refusalPlan s.active op i (op.reading.getD s.reading) st
        { op.status with state := st, kind := 0, reason := 10, lastRefused := true }.encode 10 256 none := by
      rw [← renewRefused_eq]
      simp [refusedAtCommit, hk]
    have hc : commitOp op (.grant p) s = commitPlan op (refusedAtCommit s op 10) s :=
      (if_neg (by rw [hk]; simp [OpKind.isLoan])).trans (if_pos hfull)
    rw [hplan] at hc
    exact commit_refusal h hk (by rw [hk]; rfl) hc (.inl rfl)

end Sys2Proof.Machine

/-! PROOFS. The commit of a sweep or recovery step (R82, R84, R85, R87, R89). -/

namespace Sys2Proof.Machine

section
variable {s r : State} {op : Op} {d : Decided} {i m : Nat} {target : Option Instant}

/-- What the end of a step's act does once its group stands in the queue of `r`, `m` marks having been made. -/
structure StepCommit (op : Op) (i m : Nat) (s r t : State) (es : List QEntry) : Prop where
  only : OnlyChanges [.path, .engine, .visit, .events] r t
  grows : PathGrows r t
  visit : t.visit = settledVisit s s.visit
  engine : t.engine = { r.engine with
    state := .idle
    op := none
    sweep := (sweepAfterStep s m).1
    sweepWord := (sweepAfterStep s m).2
    busy := busyWithout s i op.borrower }
  events : t.events = { r.events with latchA := r.events.latchA |||
    if s.engine.sweep.state = .running ∧ (sweepAfterStep s m).1.state = .idle then 16384#15 else 0#15 }
  queue : t.path.pwq = r.path.pwq ++ es
  goesOn : (sweepAfterStep s m).1.state = s.engine.sweep.state → es = []
  words : s.path.state = .running → s.path.waiting.length = 1 → es = mirrors s (wordsAfterStep s m)

theorem commit_step (h : CommitReady s op d) (hk : op.kind = .sweepStep i target) (hc : commitOp op d s = finishIdle op r)
    (hp : r.profile = s.profile) (hv : r.visit = s.visit) (hcrq : r.engine.crq = s.engine.crq)
    (hs : r.path.state = s.path.state) (hsw : r.engine.sweep = { s.engine.sweep with marks := m })
    (hword : r.engine.sweepWord = s.engine.sweepWord) (hbusy : r.engine.busy = s.engine.busy)
    (hw : s.path.waiting.length = 1 → r.path.waiting = []) (hl : r.path.pwq.length ≤ 23) :
    ∃ t es, exec .commitAdmit s = .next t ∧ StepCommit op i m s r t es := by
  have hm : r.engine.sweep.marks = m := by rw [hsw]
  obtain ⟨hafter, hwords, hends⟩ := sweepAfterStep_congr (m := m) (u := r) (s := s) (by rw [hsw]) hword hp
  obtain ⟨ho, he, hev, hrep⟩ := finished_stepEnded (s := r) hk
  rw [hm, hafter] at he hev
  rw [hm, hwords] at hrep
  have hexec := exec_commit h hc hp (fun hn => hv ▸ hn) hcrq hs
  have hbusy' : busyWithout r i op.borrower = busyWithout s i op.borrower := by
    simp only [busyWithout, hbusy]
  have hact : r.active = s.active := congrArg ProfileUnit.active hp
  obtain ⟨es, hes, hbehind⟩ := posted_behind (s := s) hrep.posts (by rw [hact]) hs hw fun _ => by
    have hone : (wordsAfterStep s m).length ≤ 1 := by
      by_cases h : SweepEnds s
      · rw [wordsAfterStep_ends h]; simp
      · rw [wordsAfterStep_goesOn h]; simp
    omega
  refine ⟨_, es, hexec, ?_⟩
  constructor
  case only =>
    intro b hb
    have := ho b (by cases b <;> simp at hb ⊢)
    cases b <;> simp at hb <;> exact this
  case grows => exact hrep.grows
  case visit =>
    show settledVisit r r.visit = _
    rw [hv, settledVisit, settledVisit, hs]
  case engine =>
    show (finished op r).engine = _
    rw [he, hbusy']
  case events =>
    show (finished op r).events = _
    rw [hev, hsw]
  case queue => exact hes
  case goesOn =>
    intro hst
    have hn : ¬ SweepEnds s := fun hc => by
      have h2 := (sweepEnds_iff (m := m)).mp hc
      rw [hst, h2.1] at h2
      exact absurd h2.2 (by decide)
    have hpath : (finished op r).path = r.path := by
      rw [finished_step_goesOn hk fun hc => hn (hends.mp hc)]
      rfl
    rw [hpath] at hes
    exact List.self_eq_append_right.mp hes
  case words => exact hbehind

/-! ### The groups of a step -/

/-- An overdue mark raises what a return does of the latch and the counts (R84). -/
theorem marked_events (p : Profile) (op : Op) (slot : Nat) (x : Reading) : (marked p op slot x).events =
    returnEvents (p.borrowerClass op.record.cls) op
      (latchAfter (p.borrowerClass op.record.cls) op.record.fines op.record.latch)
      (decide (255 < op.record.overdueCount + 1)) := rfl

/-- A mark reported: the map holds OVERDUE, and marks made rises. -/
theorem reported_marked (hk : op.kind = .sweepStep i target) (x : Reading) (p : Profile) (q : State) :
    reported op (marked p op i x) q = (q.setEngine { q.engine with
      stateMap := mapSet q.engine.stateMap i .overdue
      sweep := { q.engine.sweep with marks := min (q.engine.sweep.marks + 1) 16384 } }).setEvents
      { q.events with latchA := q.events.latchA ||| eventBits (marked p op i x).events } := by
  have hrec := recordPlan_some (plan := marked p op i x) (op := op) (q := q) (v := .overdue) (i := i) rfl (by rw [hk]; rfl)
  have hstep : op.kind.isStep = true := by rw [hk]; rfl
  have hmark (t : State) : countMark op (marked p op i x) t =
      setSweep { t.engine.sweep with marks := min (t.engine.sweep.marks + 1) 16384 } t :=
    if_pos (by rw [hstep]; rfl)
  have hfin (t : State) : reportFinish (marked p op i x) t =
      t.setEvents { t.events with latchA := t.events.latchA ||| eventBits (marked p op i x).events } :=
    raiseAll_eq plain_returnEvents t
  have hpass (t : State) : passGrant op (marked p op i x) t = t := rfl
  unfold reported
  rw [hrec, hpass, hfin, hmark]
  rfl

/-- A resolution reported: the map holds REFUSED, and COUNT_SUSPECT is raised (R89). -/
theorem reported_resolution (hk : op.kind = .sweepStep i target) (q : State) :
    reported op (resolution op) q = (q.setEngine { q.engine with
      stateMap := mapSet q.engine.stateMap i .refused }).setEvents { q.events with latchA := q.events.latchA ||| 128#15 } := by
  have hrec := recordPlan_some (plan := resolution op) (op := op) (q := q) (v := .refused) (i := i) rfl (by rw [hk]; rfl)
  have hmark (t : State) : countMark op (resolution op) t = t := if_neg (by simp [resolution])
  have hfin (t : State) : reportFinish (resolution op) t =
      t.setEvents { t.events with latchA := t.events.latchA ||| eventBits [.countSuspect] } :=
    raiseAll_eq (fun e he => by obtain rfl : e = .countSuspect := List.mem_singleton.mp he; decide) t
  have hpass (t : State) : passGrant op (resolution op) t = t := rfl
  have hbits : eventBits [.countSuspect] = 128#15 := by decide
  unfold reported
  rw [hrec, hpass, hfin, hmark, hbits]
  rfl

/-- The group of a resolution: the slot's status word and STATUS w21 (R89). -/
theorem placeGroup_resolution (hk : op.kind = .sweepStep i target) (s : State) :
    placeGroup op (resolution op) (leaveWait .engineCommit s) =
      enqueue ([⟨s.active.loanAddr i 0, { op.status with state := .refused, kind := 0, reason := 16 }.encode⟩] ++
        mirrors s [(21, interruptedWord i op.status.kind (min (s.engine.resolutions + 1) 16384))])
        ((leaveWait .engineCommit s).setEngine { s.engine with
          resolutions := min (s.engine.resolutions + 1) 16384
          interruptedWord := interruptedWord i op.status.kind (min (s.engine.resolutions + 1) 16384) }) := by
  have hslot : op.kind.slot = some i := by rw [hk]; rfl
  have hcount : countResolution op op.status.kind (leaveWait .engineCommit s) =
      (leaveWait .engineCommit s).setEngine { s.engine with
          resolutions := min (s.engine.resolutions + 1) 16384
          interruptedWord := interruptedWord i op.status.kind (min (s.engine.resolutions + 1) 16384) } := by
    simp only [countResolution, hslot]
    rfl
  have hplace : placeGroup op (resolution op) (leaveWait .engineCommit s) =
      enqueue (groupWords (countResolution op op.status.kind (leaveWait .engineCommit s)) op (resolution op) false ++
        mirrorWrite (countResolution op op.status.kind (leaveWait .engineCommit s)) 21
          (countResolution op op.status.kind (leaveWait .engineCommit s)).engine.interruptedWord)
        (countResolution op op.status.kind (leaveWait .engineCommit s)) := rfl
  rw [hplace, groupWords_slot _ hslot, hcount]
  rfl

/-- A mark that finds no free entry pauses the sweep (R85). -/
theorem exec_pause (h : CommitReady s op d) (hk : op.kind = .sweepStep i target) (hc : commitOp op d s = pauseSweep op s) :
    exec .commitAdmit s = .next { s with
      path := { s.path with waiting := dropGroup .engineCommit s.path.waiting, fresh := 0 }
      visit := settledVisit s s.visit
      engine := { s.engine with
        state := .idle
        op := none
        sweep := { s.engine.sweep with state := .paused, restarted := false }
        busy := busyWithout s i op.borrower } } := by
  obtain ⟨u, hu⟩ : ∃ u, u = (leaveWait .engineCommit s).setEngine { s.engine with
    state := .idle
    op := none
    sweep := { s.engine.sweep with state := .paused, restarted := false }
    busy := busyWithout s i op.borrower } := ⟨_, rfl⟩
  have hpause : pauseSweep op s = judgeCandidate u := by
    rw [hu, ← freed_of_slot s (op := op) (by rw [hk]; rfl)]
    simp only [pauseSweep, releaseClaims_eq]
    rfl
  have hidle : judgeCandidate u = u := by
    refine judgeCandidate_idles ?_
    rw [hu]
    rcases h.2 with h | h | h | h
    · exact .inl h
    · exact .inr (.inl h)
    · exact .inr (.inr (.inl h))
    · exact .inr (.inr (.inr (.inr h)))
  rw [exec_commitAdmit h.1, hc, hpause, hidle, settleVisit_eq (by rw [hu]; rfl), hu]
  rfl

end

/-- Settles O23. -/
theorem sweepStepCommitsOrPauses : Obligations.SweepStepCommitsOrPauses := by
  intro s op d i target h hk rec_ c latch overdues ended
  have hstep : op.kind.isStep = true := by rw [hk]; rfl
  have hslot : op.kind.slot = some i := by rw [hk]; rfl
  refine ⟨fun p e hd he hf => ?_, fun r hd hf => ?_, fun hd => ?_⟩
  · subst hd
    exact exec_pause h hk (if_pos (by simp [hstep, he, hf]))
  · intro marks entry words
    subst hd
    obtain ⟨plan, hplan⟩ : ∃ plan, plan = marked s.active op i r := ⟨_, rfl⟩
    have hwords : groupWords s op plan true = words := by
      rw [groupWords_slot s hslot, hplan]
      cases hb : op.borrower <;> simp [marked, emptyPlan, Op.borrowerWord, words, hb]
      all_goals rfl
    have hentry : plan.entry = some entry := by rw [hplan]; rfl
    obtain ⟨q, hq⟩ : ∃ q, q = appendKept entry words (leaveWait .engineCommit s) := ⟨_, rfl⟩
    have hplace : placeGroup op plan (leaveWait .engineCommit s) = q := by
      rw [(placeGroup_entry hentry).1 hf, hwords, hq]
    have hp : Placed s q := by rw [hq]; exact appendKept_placed ..
    have hqe : q.engine = s.engine := hp.only .engine (by simp)
    obtain ⟨u, hu⟩ : ∃ u, u = (q.setEngine { s.engine with
      stateMap := mapSet s.engine.stateMap i .overdue, sweep := { s.engine.sweep with marks := marks } }).setEvents
      { q.events with latchA := q.events.latchA ||| eventBits plan.events } := ⟨_, rfl⟩
    have hcommit : commitOp op (.plan plan) s = finishIdle op u := by
      have hn : ¬ (op.kind.isStep && plan.entry.isSome && decide (s.freeEntries = 0)) = true := by
        simp only [Bool.and_eq_true, decide_eq_true_eq]
        omega
      refine (if_neg hn).trans ?_
      rw [commitPlan_eq, hplace, hplan, reported_marked hk, hu, hplan, hqe]
    rw [← hplan] at h
    obtain ⟨t, es, hexec, ht⟩ := commit_step (m := marks) h hk hcommit (by rw [hu]; exact hp.only .profile (by simp))
      (by rw [hu]; exact hp.only .visit (by simp)) (by rw [hu]; rfl) (by rw [hu]; exact hp.grows.1.1) (by rw [hu]; rfl)
      (by rw [hu]; rfl) (by rw [hu]; rfl) (fun h1 => by rw [hu]; exact hp.waiting (leaveWait_empty h.1 h1)) (by
        have hlen : words.length ≤ 3 := by simp only [words]; cases op.borrower <;> simp
        have h8 := h.1.2.2.2.2
        have := length_appendKept_le entry words s
        rw [hu]
        show q.path.pwq.length ≤ 23
        rw [hq]
        omega)
    have hte := ht.events
    have hue : u.events = { s.events with
        latchA := s.events.latchA ||| eventBits plan.events, latchB := q.events.latchB } := by
      rw [hu, hp.events]
      rfl
    rw [hue] at hte
    obtain ⟨hsome, hnone⟩ := eventBits_returnEvents (op := op) c latch (decide (255 < rec_.overdueCount + 1))
    have hevents : plan.events = returnEvents c op latch (decide (255 < rec_.overdueCount + 1)) := by
      rw [hplan]
      exact marked_events ..
    refine ⟨t, es, hexec, fun b hb => ?_, hp.grows.trans ((PathGrows.of_path (t := u) (by rw [hu]; rfl)).trans ht.grows),
      entryKept_of ?_ ?_ ?_ ?_, ht.goesOn, ht.words, ht.visit, ?_, fun hb => ?_, fun hb => ?_, ?_, ?_⟩
    · have h1 := ht.only b
      have h2 := hp.only b
      rw [hu] at h1
      cases b <;> simp at hb <;> exact Eq.trans (h1 (by simp)) (h2 (by simp))
    · rw [ht.queue, ← hq, hu]
      rfl
    · have := ht.only .journal (by simp)
      rw [← hq]
      exact Eq.trans this (by rw [hu]; rfl)
    · have := ht.only .profile (by simp)
      exact Eq.trans this (by rw [hu]; exact hp.only .profile (by simp))
    · rw [hte, ← hq]
    · rw [ht.engine, hu]
      rfl
    · rw [hte, hevents, hsome hb, ← BitVec.or_assoc]
      simp only [decide_eq_true_eq]
      rfl
    · rw [hte, hevents, hnone hb]
    · rw [hte]
    · rw [hte]
  · intro count w21 marks
    subst hd
    obtain ⟨q, hq⟩ : ∃ q, q = placeGroup op (resolution op) (leaveWait .engineCommit s) := ⟨_, rfl⟩
    have hqeq := hq
    rw [placeGroup_resolution hk] at hqeq
    obtain ⟨u, hu⟩ : ∃ u, u = (q.setEngine { q.engine with
      stateMap := mapSet q.engine.stateMap i .refused }).setEvents
      { q.events with latchA := q.events.latchA ||| 128#15 } := ⟨_, rfl⟩
    have hcommit : commitOp op (.plan (resolution op)) s = finishIdle op u := by
      refine (if_neg (by simp [resolution, emptyPlan])).trans ?_
      rw [commitPlan_eq, ← hq, reported_resolution hk, hu]
    obtain ⟨t, es, hexec, ht⟩ := commit_step (m := marks) h hk hcommit (by rw [hu, hqeq]; rfl) (by rw [hu, hqeq]; rfl)
      (by rw [hu, hqeq]; rfl) (by rw [hu, hqeq]; rfl) (by rw [hu, hqeq]; rfl) (by rw [hu, hqeq]; rfl)
      (by rw [hu, hqeq]; rfl) (fun h1 => by rw [hu, hqeq]; exact leaveWait_empty h.1 h1) (by
        have h8 := h.1.2.2.2.2
        have hm : (mirrors s [(21, w21)]).length ≤ 1 := by unfold mirrors; split <;> simp [statusEntries]
        rw [hu, hqeq]
        show (s.path.pwq ++ _).length ≤ 23
        simp only [List.length_append, List.length_singleton]
        exact Nat.le_trans (Nat.add_le_add h8 (Nat.add_le_add_left hm 1)) (by decide))
    have hgrow : PathGrows s u := (leaveWait_grows ..).trans (pathGrows_of_still (by rw [hu, hqeq]; rfl) (by
      rw [hu, hqeq]
      exact List.prefix_append ..))
    refine ⟨t, es, hexec, fun b hb => ?_, hgrow.trans ht.grows, ?_, ht.goesOn, ht.words, ht.visit, ?_, ?_⟩
    · have h1 := ht.only b
      rw [hu, hqeq] at h1
      cases b <;> simp at hb <;> exact h1 (by simp)
    · rw [ht.queue, hu, hqeq]
      show s.path.pwq ++ (_ ++ _) ++ es = _
      rw [← List.append_assoc]
      rfl
    · rw [ht.engine, hu, hqeq]
      rfl
    · rw [ht.events, hu, hqeq]
      rfl

end Sys2Proof.Machine

/-! PROOFS. A grant committed (R14 to R17, R19, R23, R121): its group, its slip entry, its events and its tone. -/

namespace Sys2Proof.Machine

/-! ### Events by their places -/

/-- The event of a place of Table 11-1. -/
def eventAt (n : Nat) : Event :=
  [Event.requestDone, .refusal, .badRequest, .patronBlocked, .fineBlockSet, .fineBlockCleared, .countClamped, .countSuspect,
    .visitClosed, .scanReady, .scanBad, .scanOverrun, .slipDropped, .paperOut, .sweepDone, .startUp, .clockInvalid, .clockSet,
    .profileAdopted, .profileRejected, .profileClamped, .journalLow, .journalLost, .uploadDone, .uploadFailed, .timeRefused,
    .alarmMissed].getD n .requestDone

theorem eventAt_place (e : Event) : eventAt e.place = e := by cases e <;> rfl

theorem place_inj {e f : Event} : e.place = f.place ↔ e = f :=
  ⟨fun h => by rw [← eventAt_place e, h, eventAt_place], fun h => by rw [h]⟩

/-- One bit, shifted to its place. -/
theorem getLsbD_one_shiftLeft {n a k : Nat} (hk : k < n) : (1#n <<< a).getLsbD k = decide (a = k) := by
  rw [BitVec.getLsbD_shiftLeft, BitVec.getLsbD_one]
  by_cases h : a = k
  · subst h
    simp [hk]
    omega
  · simp [h, hk]
    omega

/-- Events set the bits of their places. -/
theorem eventBits_getLsbD (es : List Event) {k : Nat} (hk : k < 15) :
    (eventBits es).getLsbD k = true ↔ ∃ e ∈ es, e.place = k := by
  induction es with
  | nil => simp [eventBits]
  | cons e es ih =>
    rw [eventBits, BitVec.getLsbD_or, getLsbD_one_shiftLeft hk, Bool.or_eq_true, ih]
    simp

section
variable {s t : State} {es : List Event} {x y : BitVec 15} {z : BitVec 12} {ev : Event}

/-- The events latched once events of latch A have been raised, bits of `y` and `z` aside. -/
theorem has_of_raised (hA : t.events.latchA = s.events.latchA ||| y ||| eventBits es)
    (hB : t.events.latchB = s.events.latchB ||| z) (he : ∀ e ∈ es, e.place < 15)
    (hy : ev.place < 15 → y.getLsbD ev.place = false) (hz : ¬ ev.place < 15 → z.getLsbD (ev.place - 15) = false) :
    t.events.has ev = true ↔ s.events.has ev = true ∨ ev ∈ es := by
  unfold EventUnit.has
  by_cases h : ev.place < 15
  · simp only [h, if_true, hA, BitVec.getLsbD_or, hy h, Bool.or_false, Bool.or_eq_true, eventBits_getLsbD _ h]
    exact or_congr_right ⟨fun ⟨f, hm, hp⟩ => place_inj.mp hp ▸ hm, fun hm => ⟨ev, hm, rfl⟩⟩
  · simp only [h, if_false, hB, BitVec.getLsbD_or, hz h, Bool.or_false]
    exact ⟨.inl, fun hc => hc.resolve_right fun hm => h (he ev hm)⟩

end

/-- What a tone leaves playing depends on the profile, the state of the part and what plays. -/
theorem sounds_congr {s t : State} {p : Pattern} (ha : t.active = s.active) (hs : t.path.state = s.path.state)
    (he : t.events.sounder = s.events.sounder) : sounds t p = sounds s p := by
  rw [sounds, sounds, ha, hs, he]

/-! ### The slip list (R121) -/

/-- A slip that a split asks for finds four queued. -/
def SplitDrops (s : State) (v : Visit) : Prop :=
  s.path.state = .running ∧ s.active.slipEnable = true ∧ 4 ≤ s.visit.slips.length ∧ 16 ≤ v.list.length

/-- The Visit Unit once a grant has joined the list of the open visit `v`. -/
def grantedVisit (s : State) (v : Visit) (grant : SlipEntry) : VisitUnit :=
  if v.list.length < 16 then { s.visit with visit := some { v with list := v.list ++ [grant] } }
  else { s.visit with
    visit := some { v with list := [grant], continued := true }
    slips := if s.path.state = .running then slipsAsked s v true else s.visit.slips }

section
variable {s : State} {v : Visit} {grant : SlipEntry} {b : Nat}

theorem askSlip_split (hl : ¬ v.list.length < 16) [Decidable (SplitDrops s v)] :
    (if s.running then askSlipIfEnabled v true s else s) = { s with
      visit := { s.visit with slips := if s.path.state = .running then slipsAsked s v true else s.visit.slips }
      events := { s.events with latchA := s.events.latchA ||| if SplitDrops s v then 4096#15 else 0#15 } } := by
  have hne : v.list ≠ [] := fun h => hl (by simp [h])
  by_cases hr : s.path.state = .running
  · have hrun : s.running = true := by simp [State.running, hr]
    rw [if_pos hrun, if_pos hr]
    by_cases hs : s.active.slipEnable = true
    · rw [askSlipIfEnabled, if_pos hs]
      by_cases h4 : 4 ≤ s.visit.slips.length
      · rw [if_pos (show SplitDrops s v from ⟨hr, hs, h4, Nat.not_lt.mp hl⟩), slipsAsked, if_pos (.inr (.inr h4)),
          askSlip, if_pos (show Config.slipDepth ≤ _ from h4), raise_plain rfl]
        rfl
      · rw [if_neg (fun hd : SplitDrops s v => h4 hd.2.2.1), BitVec.or_zero, slipsAsked,
          if_neg (by simp [hne, hs, h4]), askSlip, if_neg (show ¬ Config.slipDepth ≤ _ from h4)]
        rfl
    · rw [askSlipIfEnabled, if_neg hs, if_neg (fun hd : SplitDrops s v => hs hd.2.1), BitVec.or_zero, slipsAsked,
        if_pos (.inr (.inl (Bool.eq_false_iff.mpr hs)))]
  · rw [if_neg (by simp [State.running, hr]), if_neg hr, if_neg (fun hd : SplitDrops s v => hr hd.1), BitVec.or_zero]

/-- A grant of an open visit's patron joins its list and is reported. -/
theorem appendGrant_open (hv : s.visit.visit = some v) (hp : v.patron = b) [Decidable (SplitDrops s v)] :
    appendGrant grant b s = reportVisit s { s with
      visit := grantedVisit s v grant
      events := { s.events with latchA := s.events.latchA ||| if SplitDrops s v then 4096#15 else 0#15 } } := by
  subst hp
  unfold appendGrant
  rw [hv]
  simp only [ne_eq, not_true, if_false]
  by_cases hl : v.list.length < 16
  · rw [if_pos (show v.list.length < Config.slipListMax from hl), grantedVisit, if_pos hl,
      if_neg (fun hd : SplitDrops s v => absurd hl (Nat.not_lt.mpr hd.2.2.2)), BitVec.or_zero]
    rfl
  · rw [if_neg (show ¬ v.list.length < Config.slipListMax from hl), askSlip_split hl, grantedVisit, if_neg hl]
    rfl

/-- A grant of no open visit's patron joins no list. -/
theorem appendGrant_closed (h : ∀ v, s.visit.visit = some v → v.patron ≠ b) : appendGrant grant b s = s := by
  unfold appendGrant
  split
  · rfl
  · next v hv => exact if_pos (h v hv)

open Classical in
/-- What a grant passed to the Visit Unit does: the visit of its borrower takes it, and the change is reported. -/
theorem passed_grant {q : State} (hv : q.visit = s.visit) (hprof : q.profile = s.profile)
    (hst : q.path.state = s.path.state) (hc : q.calendar = s.calendar)
    (hev : q.events = { s.events with latchB := q.events.latchB }) (grant : SlipEntry) (b : Nat) :
    ∃ u, Posts q u (if visitWord u.visit = visitWord s.visit then [] else [(23, visitWord u.visit)]) ∧ PathGrows q u ∧
      OnlyChanges [.path, .visit, .events] q u ∧ appendGrant grant b q = u ∧
      (∀ v, s.visit.visit = some v → v.patron = b → u.visit = grantedVisit s v grant) ∧
      ((∀ v, s.visit.visit = some v → v.patron ≠ b) → u.visit = s.visit) ∧
      u.events = { s.events with
        latchA := s.events.latchA ||| (if ∃ v, s.visit.visit = some v ∧ v.patron = b ∧ SplitDrops s v then 4096#15 else 0#15)
        latchB := q.events.latchB } := by
  have hact : q.active = s.active := congrArg ProfileUnit.active hprof
  have hread : q.reading = s.reading := by simp only [State.reading, hc]
  by_cases hopen : ∃ v, s.visit.visit = some v ∧ v.patron = b
  · obtain ⟨v, hsv, hp⟩ := hopen
    have hqv : q.visit.visit = some v := by rw [hv]; exact hsv
    have hdrops : SplitDrops q v ↔ SplitDrops s v := by rw [SplitDrops, SplitDrops, hst, hact, hv]
    have hgranted : grantedVisit q v grant = grantedVisit s v grant := by
      simp only [grantedVisit, slipsAsked, hv, hst, hact, hread]
    obtain ⟨w, hw⟩ : ∃ w, w = { q with
      visit := grantedVisit q v grant
      events := { q.events with latchA := q.events.latchA ||| if SplitDrops q v then 4096#15 else 0#15 } } := ⟨_, rfl⟩
    have hrep : Reports q (reportVisit q w) _ :=
      (Reports.of_path (s := q) (t := w) (by rw [hw]) (by rw [hw]; rfl)).after (reportVisit_reports q w)
    have hvis : (reportVisit q w).visit = grantedVisit s v grant := by simp [hw, hgranted]
    refine ⟨reportVisit q w, ?_, hrep.grows, fun c hc => ?_, ?_, fun x hx hxp => ?_, fun hno => ?_, ?_⟩
    · have := hrep.posts
      rw [hvis, ← hv]
      rw [show w.visit = grantedVisit s v grant by rw [hw, hgranted]] at this
      exact this
    · cases c <;> simp at hc <;> simp [SameBlock, hw]
    · rw [appendGrant_open hqv hp, hw]
    · obtain rfl : v = x := Option.some.inj (hsv.symm.trans hx)
      exact hvis
    · exact absurd hp (hno v hsv)
    · have hcond : (∃ x, s.visit.visit = some x ∧ x.patron = b ∧ SplitDrops s x) ↔ SplitDrops s v := by
        refine ⟨fun ⟨x, hx, _, hd⟩ => ?_, fun hd => ⟨v, hsv, hp, hd⟩⟩
        obtain rfl : v = x := Option.some.inj (hsv.symm.trans hx)
        exact hd
      rw [if_congr hcond rfl rfl, ← if_congr hdrops rfl rfl]
      simp only [reportVisit_keeps, hw]
      rw [hev]
  · have hno (v : Visit) (h : s.visit.visit = some v) : v.patron ≠ b := fun hp => hopen ⟨v, h, hp⟩
    refine ⟨q, ?_, .of_path rfl, fun c _ => by cases c <;> rfl, appendGrant_closed (by rw [hv]; exact hno),
      fun v h hp => absurd hp (hno v h), fun _ => hv, ?_⟩
    · rw [if_pos (by rw [hv])]
      exact .refl q
    · rw [if_neg fun ⟨v, h, hp, _⟩ => hno v h hp, BitVec.or_zero]
      exact hev

end

section
variable {s : State} {op : Op} {i b : Nat} {p : Plan} {e : JEntry} {w0 : Word} {grant : SlipEntry}

/-- A grant reported: the map holds LENT, the grant is passed on, its events are raised and LENT sounds. -/
theorem reported_grant (hb : op.borrower = some b) (hs : op.kind.slot = some i) (hk : op.kind.isStep = false)
    (hp : (p.entry, p.status, p.slip, p.mapState, p.link, p.resolved, p.reason, p.tone) =
      (some e, some w0, some grant, some .lent, true, none, none, some .lent))
    (he : ∀ ev ∈ p.events, ev.record = none ∧ ev.place < 15) (q : State) : reported op p q =
      requestTone .lent ((appendGrant grant b
        (q.setEngine { q.engine with stateMap := mapSet q.engine.stateMap i .lent })).setEvents
        { (appendGrant grant b (q.setEngine { q.engine with stateMap := mapSet q.engine.stateMap i .lent })).events with
          latchA := (appendGrant grant b
            (q.setEngine { q.engine with stateMap := mapSet q.engine.stateMap i .lent })).events.latchA |||
              eventBits p.events }) := by
  simp only [Prod.mk.injEq] at hp
  obtain ⟨-, -, hslip, hmap, -, -, hreason, htone⟩ := hp
  have hpass (t : State) : passGrant op p t = appendGrant grant b t := by simp only [passGrant, hslip, hb]
  unfold reported countMark reportFinish raiseReason requestToneIf
  rw [hk, recordPlan_some hmap hs, hpass, hreason, htone, raiseAll_eq he]
  rfl

/-- The group of a grant (R16, R17, R19). -/
theorem groupWords_grant (hb : op.borrower = some b) (hs : op.kind.slot = some i)
    (hp : (p.entry, p.status, p.slip, p.mapState, p.link, p.resolved, p.reason, p.tone) =
      (some e, some w0, some grant, some .lent, true, none, none, some .lent)) :
    groupWords s op p true = p.borrowerWords.map (fun q => ⟨s.active.borrowerAddr b q.1, q.2⟩) ++
      p.slotWords.map (fun q => ⟨s.active.loanAddr i q.1, q.2⟩) ++
      [⟨s.active.loanAddr i 13, s.journal.head⟩, ⟨s.active.loanAddr i 0, w0⟩] := by
  simp only [Prod.mk.injEq] at hp
  obtain ⟨-, hstatus, -, -, hlink, -⟩ := hp
  rw [groupWords_slot s hs, hb, hlink, hstatus]
  simp

end

open Classical in
/-- Settles O21. -/
theorem grantsCommit : Obligations.GrantsCommit := by
  intro s op i b p e w0 grant h hb hkind hp hfits hev hfree
  obtain ⟨c, hk, hslot⟩ : ∃ c, op.kind = .entry c ∧ op.kind.slot = some i := by
    rcases hkind with ⟨hk, -⟩ | ⟨prior, hk⟩ <;> exact ⟨_, hk, by rw [hk]; rfl⟩
  have hstep : op.kind.isStep = false := by rw [hk]; rfl
  obtain ⟨ws, hws⟩ : ∃ ws, ws = groupWords s op p true := ⟨_, rfl⟩
  have hwords := groupWords_grant (s := s) hb hslot hp
  have hentry : p.entry = some e := (Prod.mk.inj hp).1
  have hpos : 0 < s.freeEntries := by omega
  obtain ⟨q, hq⟩ : ∃ q, q = appendKept e ws (leaveWait .engineCommit s) := ⟨_, rfl⟩
  have hplaced : Placed s q := by rw [hq]; exact appendKept_placed ..
  have hplace : placeGroup op p (leaveWait .engineCommit s) = q := by rw [(placeGroup_entry hentry).1 hpos, hq, hws]
  obtain ⟨q1, hq1⟩ : ∃ q1, q1 = q.setEngine { q.engine with stateMap := mapSet q.engine.stateMap i .lent } := ⟨_, rfl⟩
  have hqe : q.engine = s.engine := hplaced.only .engine (by simp)
  obtain ⟨u, hposts, hgrow, honly, hu, hvisit, hnovisit, huev⟩ := passed_grant (s := s) (q := q1)
    (by rw [hq1]; exact hplaced.only .visit (by simp)) (by rw [hq1]; exact hplaced.only .profile (by simp))
    (by rw [hq1]; exact hplaced.grows.1.1) (by rw [hq1]; exact hplaced.only .calendar (by simp))
    (by rw [hq1]; exact hplaced.events) grant b
  obtain ⟨w, hw⟩ : ∃ w, w = u.setEvents { u.events with
    latchA := u.events.latchA ||| eventBits p.events, sounder := sounds s .lent } := ⟨_, rfl⟩
  have hup : u.profile = s.profile := (honly .profile (by simp)).trans (by rw [hq1]; exact hplaced.only .profile (by simp))
  have hust : u.path.state = s.path.state := hgrow.1.1.trans (by rw [hq1]; exact hplaced.grows.1.1)
  have hue : u.engine = { s.engine with stateMap := mapSet s.engine.stateMap i .lent } :=
    (honly .engine (by simp)).trans (by rw [hq1, ← hqe]; rfl)
  have hreported : reported op p q = w := by
    rw [reported_grant hb hslot hstep hp hev, ← hq1, hu, requestTone_sounds, hw]
    have hs : sounds (u.setEvents { u.events with latchA := u.events.latchA ||| eventBits p.events }) .lent = sounds s .lent := by
      refine sounds_congr ?_ hust ?_
      · exact congrArg ProfileUnit.active hup
      · rw [State.setEvents_events, huev]
    rw [hs]
    rfl
  have hcommit : commitOp op (.grant p) s = finishIdle op w := by
    have hn : ¬ (op.kind.isLoan && !s.visiting op.index) = true := by
      rcases hkind with ⟨-, hindex, hvis⟩ | ⟨prior, hk⟩
      · rw [hindex, hvis]; simp
      · rw [hk]; simp [OpKind.isLoan]
    refine ((if_neg hn).trans (if_neg (Nat.not_le.mpr hfree))).trans ?_
    rw [commitPlan_eq, hplace, hreported]
  have hstays : w.visit.visit = none → s.visit.visit = none := by
    intro hn
    rw [hw, State.setEvents_visit] at hn
    cases hsv : s.visit.visit with
    | none => rfl
    | some v =>
      by_cases hpb : v.patron = b
      · rw [hvisit v hsv hpb, grantedVisit] at hn
        split at hn <;> cases hn
      · rw [hnovisit fun x hx => by
          obtain rfl : v = x := Option.some.inj (hsv.symm.trans hx)
          exact hpb] at hn
        rw [hn] at hsv
        cases hsv
  have hexec := exec_commit h hcommit (by rw [hw]; exact hup) hstays (by rw [hw, State.setEvents_engine, hue])
    (by rw [hw]; exact hust)
  rw [committed_entry hk] at hexec
  have hlen : ws.length ≤ 7 := by
    obtain ⟨h2, h3⟩ := hfits
    rw [hws, hwords]
    simp only [List.length_append, List.length_map, List.length_cons, List.length_nil]
    omega
  have hpath1 : q1.path = q.path := by rw [hq1]; rfl
  obtain ⟨es, hes, hbehind⟩ : ∃ es, u.path.pwq = q.path.pwq ++ es ∧ (s.path.state = .running →
      s.path.waiting.length = 1 → s.path.pwq.length ≤ 7 → es = mirrors s
        (if visitWord u.visit = visitWord s.visit then [] else [(23, visitWord u.visit)])) := by
    by_cases h7 : s.path.pwq.length ≤ 7
    · obtain ⟨es, hes, hb⟩ := posted_behind (s := s) hposts
        (by rw [hq1]; exact congrArg (fun p : ProfileUnit => p.active.statusWin) (hplaced.only .profile (by simp)))
        (by rw [hpath1]; exact hplaced.grows.1.1)
        (fun h1 => by rw [hpath1]; exact hplaced.waiting (leaveWait_empty h.1 h1)) fun _ => by
          have h1 := length_appendKept_le e ws s
          have h2 := length_report_le (visitWord u.visit = visitWord s.visit) (23, visitWord u.visit)
          rw [← hq] at h1
          rw [hpath1]
          omega
      exact ⟨es, hpath1 ▸ hes, fun hr h1 _ => hb hr h1⟩
    · obtain ⟨es, hes⟩ := hposts.grown.exists
      exact ⟨es, hpath1 ▸ hes, fun _ _ hc => absurd hc h7⟩
  have hA : w.events.latchA = s.events.latchA |||
      (if ∃ v, s.visit.visit = some v ∧ v.patron = b ∧ SplitDrops s v then 4096#15 else 0#15) ||| eventBits p.events := by
    rw [hw, State.setEvents_events, huev]
  obtain ⟨z, hz, hzlow⟩ : ∃ z, q.events.latchB = s.events.latchB ||| z ∧ (z = 64#12 ∨ z = 0#12) := by
    rw [hq, appendKept_events]
    exact ⟨_, rfl, by split <;> simp⟩
  have hB : w.events.latchB = q.events.latchB := by
    rw [hw, State.setEvents_events, huev, hq1]
    rfl
  have hplace15 : ∀ ev ∈ p.events, ev.place < 15 := fun ev hm => (hev ev hm).2
  have hwv : w.visit = u.visit := by rw [hw]; rfl
  have hwst : w.path.state = s.path.state := by rw [hw]; exact hust
  refine ⟨_, es, hexec, fun x hx => ?_, ?_, ?_, fun hr h1 h7 => ?_, ?_, fun v hv hpb => ⟨fun hl => ?_, fun hl => ?_⟩,
    fun hno => ?_, fun ev h1 h2 => ?_, ?_, ?_, ?_⟩
  · have h1 := honly x
    have h2 := hplaced.only x
    rw [hq1] at h1
    cases x <;> simp at hx <;> rw [hw] <;> exact Eq.trans (h1 (by simp)) (h2 (by simp))
  · exact hplaced.grows.trans (((PathGrows.of_path hpath1).trans hgrow).trans (.of_path (t := w) (by rw [hw]; rfl)))
  · rw [← hwords, ← hws]
    refine entryKept_of ?_ ?_ ?_ ?_
    · rw [← hq, hw]
      exact hes
    · rw [← hq, hw]
      exact (honly .journal (by simp)).trans (by rw [hq1]; rfl)
    · rw [hw]
      exact hup
    · rw [← hq]
      exact hB
  · rw [hbehind hr h1 h7]
    simp only [visitReport, settledVisit, hwv, hwst, hr]
    rfl
  · simp only [hw, State.setEvents_engine, hue]
    rw [freed_of_slot s hslot, hb]
    rfl
  · simp only [settledVisit, hwv, hwst, hvisit v hv hpb, grantedVisit, if_pos hl]
  · simp only [settledVisit, hwv, hwst, hvisit v hv hpb, grantedVisit, if_neg (Nat.not_lt.mpr hl)]
  · simp only [settledVisit, hwv, hwst, hnovisit hno]
  · refine has_of_raised hA (hB.trans hz) hplace15 (fun hlt => ?_) (fun hge => ?_)
    · split
      · show (1#15 <<< 12).getLsbD ev.place = false
        rw [getLsbD_one_shiftLeft hlt]
        exact decide_eq_false fun hc => h1 (place_inj.mp hc.symm)
      · simp
    · rcases hzlow with rfl | rfl
      · show (1#12 <<< 6).getLsbD (ev.place - 15) = false
        by_cases hlt : ev.place - 15 < 12
        · rw [getLsbD_one_shiftLeft hlt]
          refine decide_eq_false fun hc => h2 (place_inj.mp ?_)
          show ev.place = 21
          omega
        · exact BitVec.getLsbD_of_ge _ _ (Nat.not_lt.mp hlt)
      · simp
  · show w.events.latchA.getLsbD 12 = true ↔ s.events.latchA.getLsbD 12 = true ∨ _
    have hdropped : (if ∃ v, s.visit.visit = some v ∧ v.patron = b ∧ SplitDrops s v then 4096#15 else 0#15).getLsbD 12 = true ↔
        (s.path.state = .running ∧ s.active.slipEnable = true ∧ 4 ≤ s.visit.slips.length ∧
          ∃ v, s.visit.visit = some v ∧ v.patron = b ∧ 16 ≤ v.list.length) := by
      by_cases hd : ∃ v, s.visit.visit = some v ∧ v.patron = b ∧ SplitDrops s v
      · rw [if_pos hd]
        obtain ⟨v, h1, h2, h3, h4, h5, h6⟩ := hd
        exact ⟨fun _ => ⟨h3, h4, h5, v, h1, h2, h6⟩, fun _ => by decide⟩
      · rw [if_neg hd]
        exact ⟨fun hc => absurd hc (by simp), fun ⟨h3, h4, h5, v, h1, h2, h6⟩ => absurd ⟨v, h1, h2, h3, h4, h5, h6⟩ hd⟩
    have hraised : (eventBits p.events).getLsbD 12 = true ↔ .slipDropped ∈ p.events := by
      rw [eventBits_getLsbD _ (by decide)]
      exact ⟨fun ⟨f, hm, hf⟩ => place_inj (f := .slipDropped).mp hf ▸ hm, fun hm => ⟨_, hm, rfl⟩⟩
    rw [hA, BitVec.getLsbD_or, BitVec.getLsbD_or, Bool.or_eq_true, Bool.or_eq_true, hdropped, hraised, or_assoc]
    exact or_congr_right or_comm
  · show w.events.stamps = _
    rw [hw, State.setEvents_events, huev]
  · show w.events.sounder = _
    rw [hw]
    rfl

end Sys2Proof.Machine
